-- ==== Sys2Proof/Word.lean ====
section
/-! DEFINITION. The word types of the DK-640: bytes, 16-bit and 32-bit words (spec 01, section 1.8). -/

namespace Sys2Proof

/-- A byte of the Exchange Memory (R1). -/
abbrev Byte := BitVec 8

/-- A 16-bit field of section 1.8, or an RGB565 pixel (R116). -/
abbrev Half := BitVec 16

/-- A 32-bit word of the Exchange Memory, and every count that wraps at 2^32 (00_scope, section 5). -/
abbrev Word := BitVec 32

end Sys2Proof
end

