-- ==== Sys2Proof/Syntax.lean ====
section
/-! DEFINITION. The commands of the DK-640: one constructor of `Instr` for each row of spec/opcode_table.json. The table
gives no bits; the operands are what the rules give each operation or event. -/

namespace Sys2Proof

/-- The four lines of the Line Qualifier (spec 09). -/
inductive Line where
  | ign | park | presence | latch
  deriving DecidableEq, Repr

/-- The electrical level, high or not, at each of the four line inputs (R179). -/
structure LineLevels where
  ign : Bool
  park : Bool
  presence : Bool
  latch : Bool
  deriving DecidableEq, Repr

/-- What the tablet leaves in the function's configuration with a change of its command register (R25, section 11.1): whether
the two windows are assigned, memory decoding, and bus mastering. -/
structure FunctionConfig where
  windows : Bool
  decoding : Bool
  busMastering : Bool
  deriving DecidableEq, Repr

/-- A command: an operation of the tablet on one of the two windows or on the function's configuration, or an event at a
pin, a timer, the link, the DRAM port or the converter. -/
inductive Instr where
  /-- EXCHANGE_MEMORY_WRITE (R2): a write to the 32-bit word with index `word`, byte enables `be`, data `value`. -/
  | exchangeMemoryWrite (word : BitVec 14) (be : BitVec 4) (value : Word)
  /-- SESSION_OPEN (R6): a write of 1 to the session word. -/
  | sessionOpen
  /-- SESSION_CLOSE (R5): a write of 2 to the session word. -/
  | sessionClose
  /-- POST (R9): a write of POST to the state word of `slot`. -/
  | post (slot : Fin 16)
  /-- CANCEL (R10): a write of CANCEL to the state word of `slot`. -/
  | cancel (slot : Fin 16)
  /-- FREE (R11): a write of FREE to the state word of `slot`. -/
  | free (slot : Fin 16)
  /-- SETTINGS_COMPLETION (R13): the following event at the SETTINGS context. -/
  | settingsCompletion
  /-- ATTENTION_ACKNOWLEDGE (R19): a write to Attention Acknowledge. -/
  | attentionAcknowledge (value : Word)
  /-- JOURNAL_TAKEN_WRITE (R78): a write to Journal Taken. -/
  | journalTakenWrite (value : Word)
  /-- NOTIFY_MARK_WRITE (R80): a write to the Journal Notify Mark. -/
  | notifyMarkWrite (value : Word)
  /-- INTERRUPT_ENABLE_WRITE (R23): a CONTROL write. -/
  | interruptEnableWrite (value : Word)
  /-- FUNCTION_RESET (R23): a CONTROL write with the function reset field set. -/
  | functionReset (value : Word)
  /-- REGISTER_WRITE_IGNORED (R22): a write to the register-window word with index `word`. -/
  | registerWriteIgnored (word : BitVec 10) (be : BitVec 4) (value : Word)
  /-- LINK_DOWN (R25). -/
  | linkDown
  /-- LINK_RESET (R25). -/
  | linkReset
  /-- MSI_ENABLE_CHANGE (R21): MSI enable becomes `on`. -/
  | msiEnableChange (on : Bool)
  /-- INTERRUPT_DISABLE_CHANGE (R21): the interrupt-disable control becomes `on`. -/
  | interruptDisableChange (on : Bool)
  /-- FAST_PASS (R28): a pass that reads `levels`, bit 16 x d + c the level (set is high) of sense line c while drive line d is
  driven (R27, R180). -/
  | fastPass (levels : BitVec 128)
  /-- WINDOW_END (R38). -/
  | windowEnd
  /-- SLOW_SCAN_ENTRY (R45). -/
  | slowScanEntry
  /-- SLOW_PASS (R42): as FAST_PASS, in SLOW scan. -/
  | slowPass (levels : BitVec 128)
  /-- DOWN_TIME_ADVANCE (R60). -/
  | downTimeAdvance
  /-- HOLD (R61): the down time of the key at `position` has reached the hold time. -/
  | hold (position : Fin 128)
  /-- STUCK (R62): the down time of the key at `position` has reached the stuck limit. -/
  | stuck (position : Fin 128)
  /-- REPEAT_EXPIRY (R66). -/
  | repeatExpiry
  /-- PROFILE_WAIT_EXPIRY (R100). -/
  | profileWaitExpiry
  /-- HOST_READ_COMPLETION (R113): a completion of the read numbered `tag`, its bytes from `place` in the read on. -/
  | hostReadCompletion (tag : Nat) (place : Nat) (data : List Byte) (error : Bool) (poisoned : Bool)
  /-- HOST_READ_TIMEOUT (R114) of the read numbered `tag`. -/
  | hostReadTimeout (tag : Nat)
  /-- ROW_WRITE_COMPLETE (R117). -/
  | rowWriteComplete
  /-- CLEARING_END (R106). -/
  | clearingEnd
  /-- CARRY_COPY_ROW_COMPLETE (R136). -/
  | carryCopyRowComplete
  /-- VERTICAL_BLANK_START (R131). -/
  | verticalBlankStart
  /-- PANEL_STAGE_EXPIRY (R124). -/
  | panelStageExpiry
  /-- CONVERSION_DUE (R139). -/
  | conversionDue
  /-- SUPPLY_CONVERSION_COMPLETE (R140) with the converter's code. -/
  | supplyConversionComplete (code : BitVec 10)
  /-- AMBIENT_CONVERSION_COMPLETE (R141) with the converter's code. -/
  | ambientConversionComplete (code : BitVec 10)
  /-- LIGHT_TICK (R147). -/
  | lightTick
  /-- IDLE_EXPIRY (R149). -/
  | idleExpiry
  /-- LINE_EDGE (R155): the level at the input of `line` becomes `high`. -/
  | lineEdge (line : Line) (high : Bool)
  /-- QUALIFICATION_EXPIRY (R155) of the timer of `line`. -/
  | qualificationExpiry (line : Line)
  /-- DOCK_TIME_ADVANCE (R166). -/
  | dockTimeAdvance
  /-- LINGER_EXPIRY (R170). -/
  | lingerExpiry
  /-- SURVIVAL_COMPARATOR_TRIP (R169). -/
  | survivalComparatorTrip
  /-- SUPPLY_DIP_START (R176). -/
  | supplyDipStart
  /-- COLD_START (R176): power-up with these levels at the line inputs. -/
  | coldStart (levels : LineLevels)
  /-- LINK_UP (R25). -/
  | linkUp
  /-- BUS_MASTERING_CHANGE (R25): the tablet's change of bus mastering, with the configuration as it leaves it. -/
  | busMasteringChange (config : FunctionConfig)
  deriving DecidableEq, Repr

end Sys2Proof
end

