-- ==== Sys2Proof/Config.lean ====
section
/-! DEFINITION. What one DK-640 fixes: the sizes and times its manual gives as numbers, and the two values that the
manual leaves open: an order inside an event, and how far a row write has come. -/

namespace Sys2Proof.Config

/-- Which of two orders an event takes where a rule says that either may be taken first and no command stands between
the two (R99, R120, R175). It has no body: nothing can be proved of its value. DESIGN CHOICE, log entry 11. -/
opaque eitherOrder : Nat → Bool

/-- Whether the pixel in a column of a row whose write runs has landed, at a moment of the write: a frame may show a row
that is still being written (R107). The moments are an observer's own numbers, apart from any other state. It has no body:
nothing can be proved of its value. DESIGN CHOICE, log entry 40. -/
opaque landed (moment column : Nat) : Bool

/-- The panel's columns and rows (R105). -/
def panelWidth : Nat := 1280
def panelHeight : Nat := 800

/-- Bytes of one frame buffer row (R105). -/
def rowBytes : Nat := 2560

/-- Offsets of the regions of the Exchange Memory (R1). -/
def slotBase : Nat := 0x0100
def journalBase : Nat := 0x0500
def profileBase : Nat := 0x1500
def stagingBase : Nat := 0x1D00
def exchangeSize : Nat := 0x10000

/-- Bytes of the Staging Area (R1, R108). -/
def stagingSize : Nat := 58112

/-- Records of the journal ring (R73). -/
def ringSize : Nat := 256

/-- The most positions the Held Set holds (R50). -/
def heldMax : Nat := 10

/-- A HOST read that is not answered this many ms after its issue fails (R114). -/
def readLimit : Nat := 50

/-- The most HOST reads outstanding, and the most bytes of one (R113). -/
def readsMax : Nat := 8
def readBytes : Nat := 256

/-- Passes of a chatter window (R37) and idle passes before SLOW scan (R45). -/
def windowPasses : Nat := 64
def idleLimit : Nat := 2000

/-- The down time of a key under a stuck limit of 0 stops here (R60). -/
def downTimeMax : Nat := 120000

end Sys2Proof.Config
end

