-- ==== Sys2Proof/Machine/Bits.lean ====
section
/-! DEFINITION. Wrapping counts and the byte order of multi-byte fields. -/

namespace Sys2Proof.Machine

/-- "A has reached B": (A - B) modulo 2^32 is less than 2^31 (00_scope, section 5). -/
def reached (a b : Word) : Bool := decide ((a - b).toNat < 2 ^ 31)

/-- Milliseconds as a step of Dock Time. -/
def ms (n : Nat) : Word := BitVec.ofNat 32 n

/-- Byte `i` of a 32-bit word, byte 0 the least significant (R26). -/
def byteOf (w : Word) (i : Nat) : Byte := (w >>> (8 * i)).setWidth 8

/-- The four bytes of a 32-bit field, least significant first (R26). -/
def bytes4 (w : Word) : List Byte := [byteOf w 0, byteOf w 1, byteOf w 2, byteOf w 3]

/-- The two bytes of a 16-bit field, least significant first (R26). -/
def bytes2 (h : Half) : List Byte := [h.setWidth 8, (h >>> 8).setWidth 8]

/-- A 16-bit field from its bytes, the least significant first (R26). -/
def half (b0 b1 : Byte) : Half := b1 ++ b0

/-- A 32-bit word from its bytes, the least significant first (R26). -/
def word (b0 b1 b2 b3 : Byte) : Word := (b3 ++ b2 ++ (b1 ++ b0 : Half) : BitVec 32)

/-- Apply `f` to each element with its index, counted from `start`. -/
def mapFrom {α β : Type} (f : Nat → α → β) : Nat → List α → List β
  | _, [] => []
  | start, a :: as => f start a :: mapFrom f (start + 1) as

end Sys2Proof.Machine
end

