-- ==== Sys2Proof/Machine/Memory.lean ====
section
/-! DEFINITION. Memory as a list of (address, byte) cells in one canonical form: addresses strictly rising, no cell equal
to what an unlisted address reads as. An unlisted address reads 0, the cold-start content of R24 and the black of R106. -/

namespace Sys2Proof.Machine

abbrev Memory := List Host.Cell

/-- What an address that no cell lists reads as: the all-zero content of a cold start (R24) and black (R106). -/
def unlisted : Byte := 0

/-- The byte at an address. -/
def Memory.read : Memory → Nat → Byte
  | [], _ => unlisted
  | (b, v) :: m, a => if a = b then v else if a < b then unlisted else Memory.read m a

/-- A cell put in front, unless it says what an unlisted address says. -/
def Memory.cons (a : Nat) (v : Byte) (m : Memory) : Memory := if v = unlisted then m else (a, v) :: m

/-- Store one byte. -/
def Memory.write : Memory → Nat → Byte → Memory
  | [], a, v => Memory.cons a v []
  | (b, w) :: m, a, v =>
    if a < b then Memory.cons a v ((b, w) :: m)
    else if a = b then Memory.cons a v m
    else (b, w) :: Memory.write m a v

/-- Store bytes at ascending addresses. -/
def Memory.writes : Memory → Nat → List Byte → Memory
  | m, _, [] => m
  | m, a, v :: vs => Memory.writes (Memory.write m a v) (a + 1) vs

/-- The `n` bytes from an address on. -/
def Memory.reads (m : Memory) (a n : Nat) : List Byte := (List.range n).map fun i => m.read (a + i)

/-- Every byte from `lo` up to, not including, `hi` becomes what an unlisted address reads as. -/
def Memory.clear (m : Memory) (lo hi : Nat) : Memory := m.filter fun c => !(decide (lo ≤ c.1) && decide (c.1 < hi))

/-- The addresses from `lo` on are strictly rising and no cell is redundant. -/
def Memory.wfFrom : Nat → Memory → Bool
  | _, [] => true
  | lo, (a, v) :: m => decide (lo ≤ a) && decide (v ≠ unlisted) && Memory.wfFrom (a + 1) m

/-- The canonical form. -/
def Memory.wf (m : Memory) : Bool := Memory.wfFrom 0 m

/-- A 16-bit little-endian field at an address (R26). -/
def Memory.half (m : Memory) (a : Nat) : Half := Machine.half (m.read a) (m.read (a + 1))

/-- A 32-bit little-endian word at an address (R26). -/
def Memory.word (m : Memory) (a : Nat) : Word :=
  Machine.word (m.read a) (m.read (a + 1)) (m.read (a + 2)) (m.read (a + 3))

/-- Store the bytes of a word that the byte enables cover (R1, R2). -/
def Memory.writeWord (m : Memory) (a : Nat) (be : BitVec 4) (v : Word) : Memory :=
  (List.range 4).foldl (fun m i => if be.getLsbD i then m.write (a + i) (byteOf v i) else m) m

end Sys2Proof.Machine
end

