-- ==== Sys2Proof/Machine/Types.lean ====
section
/-! DEFINITION. The state of each of the DK-640's blocks, as plain data. -/

namespace Sys2Proof.Machine

/-! ### Exchange Memory Controller (spec 01) -/

/-- The states of a slot (section 1.3). -/
inductive SlotState where
  | free | posted | active | cancelling | done | failed | cancelled
  deriving DecidableEq, Repr

/-- The result codes of a slot (section 1.8.2). -/
inductive ResultCode where
  | ok | cancelled | badKind | badParam | badAlign | readError | keysHeld
  deriving DecidableEq, Repr

/-- The part-owned and guarded fields of a slot record (section 1.8.2). Its plain words lie in the memory. -/
structure SlotRec where
  state : SlotState
  code : ResultCode
  flags : Byte
  postNo : Word
  frame : Word
  time : Word
  count : Nat
  deriving DecidableEq, Repr

/-- An entry of the Post Queue: the slot with the bytes captured at posting (R9, R14). -/
structure Entry where
  slot : Fin 16
  kind : Byte
  urgent : Bool
  notify : Bool
  deriving DecidableEq, Repr

/-- A slot that a context holds, with its copy of the 36 parameter bytes (R15) and the flags of its result so far. -/
structure Job where
  slot : Fin 16
  kind : Byte
  notify : Bool
  params : List Byte
  flags : Byte
  deriving DecidableEq, Repr

/-- Attention causes (R19). -/
inductive Cause where
  | mark | slot | loss
  deriving DecidableEq, Repr

structure Exchange where
  sessionOpen : Bool
  sessionNo : Word
  slots : List SlotRec
  queue : List Entry
  nextPost : Word
  attention : BitVec 3
  refused : Nat
  lastRefused : Half
  settingsJob : Option Job
  deriving DecidableEq, Repr

/-! ### Link Port (spec 01, R20 to R25) -/

structure Link where
  up : Bool
  windowsAssigned : Bool
  memoryDecoding : Bool
  busMastering : Bool
  msiEnable : Bool
  intxDisable : Bool
  intEnable : Bool
  /-- The model's own record: how many interrupt messages have been sent. -/
  messages : Nat
  deriving DecidableEq, Repr

/-! ### Journal Writer (spec 04) -/

structure Journal where
  head : Word
  taken : Word
  mark : Word
  armed : Bool
  lost : Nat
  episode : Bool
  deriving DecidableEq, Repr

/-- The thirteen kinds of journal record (R75). -/
inductive RecordKind where
  | press | release | repeating | hold | rollover | suppressed | resync | held | profile | vehicle | latch | supply | power
  deriving DecidableEq, Repr

/-- A record as a producing block hands it on (R74): no position stands for 0xFF. -/
structure Rec where
  kind : RecordKind
  position : Option (Fin 128)
  usage : Half
  mods : Byte
  flags : Byte
  detail : Half
  deriving DecidableEq, Repr

/-! ### Matrix Scanner (spec 02) -/

inductive ScanMode where
  | fast | slow
  deriving DecidableEq, Repr

structure Scanner where
  mode : ScanMode
  windowPasses : Nat
  chatter : Nat
  vib : Nat
  idlePasses : Nat
  /-- The model's own mark: the Dock Time of the last pass, or of the entry into the scan mode. -/
  passAt : Word
  /-- The matrix drive lines have been taken up by a pass since the last cold start or supply dip start (R178). -/
  driven : Bool
  deriving DecidableEq, Repr

/-! ### Key Composer (spec 03) -/

inductive KeyState where
  | up | down | muted | stuck
  deriving DecidableEq, Repr

/-- A record of the Key State Table (R48). -/
structure KeyRec where
  integ : Nat
  prev : Bool
  state : KeyState
  downTime : Nat
  holdSeen : Bool
  deriving DecidableEq, Repr

structure Composer where
  keys : List KeyRec
  held : List (Fin 128)
  subject : Option (Fin 128)
  repeatEnds : Word
  repeatCount : Nat
  /-- The model's own mark: the Dock Time of the last down-time advance. -/
  downAt : Word
  deriving DecidableEq, Repr

/-! ### Profile Unit (spec 05) -/

inductive KeyClass where
  | none | plain | repeating | hold
  | modifier (role : Fin 8)
  deriving DecidableEq, Repr

/-- A profile (R90). Bit p of `drivePermitted` is position p. -/
structure Profile where
  tag : Half
  pressBase : Nat
  releaseBase : Nat
  adaptation : Bool
  stuckLimit : Nat
  repeatDelay : Nat
  repeatPeriod : Nat
  holdTime : Nat
  drivePermitted : BitVec 128
  classes : List KeyClass
  usages : List Half
  deriving DecidableEq, Repr

/-- A staged profile (R96): its slot is the PROFILE context's. -/
structure Staged where
  profile : Profile
  clamped : Bool
  ends : Word
  deriving DecidableEq, Repr

structure ProfileUnit where
  active : Profile
  staged : Option Staged
  job : Option Job
  deriving DecidableEq, Repr

/-! ### Picture Engine and Frame Memory (spec 06) -/

inductive Buffer where
  | a | b | standby
  deriving DecidableEq, Repr

inductive WorkState where
  | free | row | paused | stopping
  deriving DecidableEq, Repr

/-- The clipped rectangle (R110): columns x0 to x1, rows y0 to y1; empty when an end lies below its start. -/
structure Rect where
  x0 : Nat
  x1 : Nat
  y0 : Nat
  y1 : Nat
  deriving DecidableEq, Repr

/-- A read of tablet memory not yet issued: its address, its place in the row and its length (R113). -/
structure ReadPlan where
  address : BitVec 64
  place : Nat
  len : Nat
  deriving DecidableEq, Repr

/-- An outstanding read (R113, R114). -/
structure Read where
  tag : Nat
  plan : ReadPlan
  issued : Word
  deriving DecidableEq, Repr

structure Picture where
  job : Option Job
  work : WorkState
  writing : Bool
  fill : Bool
  params : List Byte
  dest : Buffer
  clip : Rect
  nextRow : Nat
  pixels : Nat
  clipped : Bool
  abandon : Bool
  rowBuf : List (Option Byte)
  rowPixels : List Half
  reads : List Read
  toIssue : List ReadPlan
  /-- The model's own number of the next read. -/
  nextTag : Nat
  deriving DecidableEq, Repr

structure Frames where
  a : Memory
  b : Memory
  standby : Memory
  clearing : Bool
  deriving DecidableEq, Repr

/-! ### Scanout Unit (spec 07) -/

inductive PanelState where
  | off | starting | on | stopping
  deriving DecidableEq, Repr

inductive Stage where
  | rails | signals | enable | disable | signalsOff | railsOff
  deriving DecidableEq, Repr

inductive Drawable where
  | a | b
  deriving DecidableEq, Repr

inductive Source where
  | front | standby
  deriving DecidableEq, Repr

/-- A carry copy (R136): the next row, whether that row is in progress, and what has abandoned the work (R137). -/
structure Carry where
  row : Nat
  inRow : Bool
  abandoned : Bool
  stopping : Bool
  deriving DecidableEq, Repr

structure Scanout where
  panel : PanelState
  stage : Option Stage
  stageEnds : Word
  wish : Bool
  frame : Word
  front : Drawable
  presented : Bool
  source : Source
  waiting : Option Bool
  carry : Option Carry
  driveBlanking : Bool
  deriving DecidableEq, Repr

/-! ### Measurement Unit and Light Controller (spec 08) -/

inductive Converting where
  | none | supply | ambient
  deriving DecidableEq, Repr

structure Measure where
  converting : Converting
  ambientPending : Bool
  history : List (BitVec 10)
  millivolts : Half
  /-- The model's own mark: the Dock Time of the last due time taken. -/
  dueAt : Option Word
  deriving DecidableEq, Repr

inductive LightMode where
  | auto | manual
  deriving DecidableEq, Repr

/-- A curve point (A, L) (R143). -/
structure Point where
  a : Nat
  l : Nat
  deriving DecidableEq, Repr

/-- Activity sources (R149) are bits 0 KEY, 1 PICTURE, 2 VEHICLE of a source set (section 1.8.3). -/
inductive Activity where
  | key | picture | vehicle
  deriving DecidableEq, Repr

structure LightSettings where
  mode : LightMode
  manual : Nat
  p0 : Point
  p1 : Point
  p2 : Point
  p3 : Point
  slew : Nat
  driveCap : Nat
  dim : Nat
  idleTimeout : Nat
  idleSources : BitVec 3
  keyRatio : Nat
  deriving DecidableEq, Repr

inductive IdleState where
  | off | running | dimmed
  deriving DecidableEq, Repr

structure Light where
  settings : LightSettings
  ambient : Nat
  idle : IdleState
  idleEnds : Word
  target : Nat
  output : Nat
  keyLight : Nat
  /-- The tablet-owned lamps: bits 0 CAPS, 1 NUM, 2 FNLOCK, 3 AUX1, 4 AUX2 (section 1.8.3). -/
  lamps : BitVec 5
  /-- The model's own mark: the Dock Time of the last tick. -/
  tickAt : Option Word
  deriving DecidableEq, Repr

/-! ### Line Qualifier (spec 09) -/

structure Lines where
  levels : LineLevels
  ignOn : Bool
  parkEngaged : Bool
  docked : Bool
  latchOpen : Bool
  ignEnds : Option Word
  parkEnds : Option Word
  presenceEnds : Option Word
  latchEnds : Option Word
  drive : Bool
  parkTime : Nat
  deriving DecidableEq, Repr

/-! ### Power Manager (spec 10) -/

inductive Band where
  | normal | low | crank
  deriving DecidableEq, Repr

inductive StartCause where
  | cold | supplyDip | functionReset
  deriving DecidableEq, Repr

inductive PriorPower where
  | none | active | standby
  deriving DecidableEq, Repr

/-- The wake sources (R173); KEY carries the waking key's position. -/
inductive WakeSource where
  | ignitionOn
  | key (position : Fin 128)
  | dockArrival | latch | host
  deriving DecidableEq, Repr

structure Power where
  /-- Whether the part is held in reset: after a trip of the survival comparator (R169), or in power-up (R178). -/
  held : Bool
  /-- Whether that hold is the power-up before a cold start (R178). -/
  poweringUp : Bool
  /-- The power state captured at the trip, in the retained store (R169). -/
  captured : PriorPower
  band : Band
  recovery : Nat
  /-- The power state: STANDBY, or else ACTIVE. -/
  standby : Bool
  lingerEnds : Option Word
  lingerMin : Nat
  lingerSources : BitVec 3
  keyWake : Bool
  swallow : Bool
  dockWake : Bool
  latchWake : Bool
  dockTime : Word
  startCause : StartCause
  prior : PriorPower
  dipCount : Nat
  deriving DecidableEq, Repr

end Sys2Proof.Machine
end

