-- ==== Sys2Proof/Machine/Defaults.lean ====
section
/-! DEFINITION. The value each block takes at a cold start, and the defaults of the profile and the settings. -/

namespace Sys2Proof.Machine

/-- A slot of an all-zero Slot Array (R24). -/
def SlotRec.zero : SlotRec := ⟨.free, .ok, 0, 0, 0, 0, 0⟩

def Exchange.start : Exchange where
  sessionOpen := false
  sessionNo := 0
  slots := List.replicate 16 SlotRec.zero
  queue := []
  nextPost := 0
  attention := 0
  refused := 0
  lastRefused := 0
  settingsJob := none

/-- The start values of the function's PCIe configuration (R25) with the link not yet trained (log entry 8). The start
value of the interrupt-disable control is PRESUMED (log entry 7). -/
def Link.start : Link where
  up := false
  windowsAssigned := false
  memoryDecoding := false
  busMastering := false
  msiEnable := false
  intxDisable := false
  intEnable := false
  messages := 0

/-- R89. -/
def Journal.start : Journal := ⟨0, 0, 0, false, 0, false⟩

/-- R47; the drive lines wait for the FAST pass of the first millisecond (R178). -/
def Scanner.start : Scanner := ⟨.fast, 0, 0, 0, 0, 0, false⟩

/-- R48. -/
def KeyRec.start : KeyRec := ⟨0, false, .up, 0, false⟩

/-- R71. -/
def Composer.start : Composer := ⟨List.replicate 128 KeyRec.start, [], none, 0, 0, 0⟩

/-- The default profile (R91). -/
def Profile.default : Profile where
  tag := 0
  pressBase := 4
  releaseBase := 1
  adaptation := true
  stuckLimit := 30
  repeatDelay := 500
  repeatPeriod := 33
  holdTime := 800
  drivePermitted := 0
  classes := List.replicate 128 .plain
  usages := (List.range 128).map (BitVec.ofNat 16)

/-- R91. -/
def ProfileUnit.start : ProfileUnit := ⟨Profile.default, none, none⟩

/-- The Picture Engine with no request and its row buffer empty (R122). DESIGN CHOICE: R122 gives no start value of the
request copy, the resolved destination, the clipped rectangle and the next row; here they are empty, A, (0, 0, 0, 0) and 0
(log entry 39). -/
def Picture.start : Picture where
  job := none
  work := .free
  writing := false
  fill := false
  params := []
  dest := .a
  clip := ⟨0, 0, 0, 0⟩
  nextRow := 0
  pixels := 0
  clipped := false
  abandon := false
  rowBuf := []
  rowPixels := []
  reads := []
  toIssue := []
  nextTag := 0

/-- The three buffers black, clearing in progress (R106). -/
def Frames.start : Frames := ⟨[], [], [], true⟩

/-- R138: the panel is OFF and wanted at the start, so its start sequence begins in the rails stage (R123, R124). -/
def Scanout.start : Scanout where
  panel := .starting
  stage := some .rails
  stageEnds := ms 20
  wish := true
  frame := 0
  front := .a
  presented := false
  source := .standby
  waiting := none
  carry := none
  driveBlanking := true

/-- R142. -/
def Measure.start : Measure := ⟨.none, false, [], 0, none⟩

/-- The defaults of R143. -/
def LightSettings.default : LightSettings where
  mode := .auto
  manual := 128
  p0 := ⟨0, 16⟩
  p1 := ⟨100, 64⟩
  p2 := ⟨400, 160⟩
  p3 := ⟨1000, 255⟩
  slew := 4
  driveCap := 128
  dim := 24
  idleTimeout := 120
  idleSources := 0b101#3
  keyRatio := 8

/-- R153. -/
def Light.start : Light where
  settings := LightSettings.default
  ambient := 0
  idle := .running
  idleEnds := ms 120000
  target := 0
  output := 0
  keyLight := 0
  lamps := 0
  tickAt := none

/-- The levels of inputs left open (R179): IGN low, PARK high, PRESENCE high, LATCH low. Log entry 9. -/
def openInputs : LineLevels := ⟨false, true, true, false⟩

/-- R165: the start levels, with all four timers started at Dock Time 0. -/
def Lines.start (levels : LineLevels) : Lines where
  levels := levels
  ignOn := false
  parkEngaged := true
  docked := false
  latchOpen := false
  ignEnds := some (ms 200)
  parkEnds := some (ms 500)
  presenceEnds := some (ms 50)
  latchEnds := some (ms 50)
  drive := false
  parkTime := 500

/-- R176, R177. -/
def Power.start : Power where
  held := false
  poweringUp := false
  captured := .none
  band := .normal
  recovery := 0
  standby := false
  lingerEnds := some (ms 1800000)
  lingerMin := 30
  lingerSources := 0b101#3
  keyWake := true
  swallow := true
  dockWake := true
  latchWake := false
  dockTime := 0
  startCause := .cold
  prior := .none
  dipCount := 0

end Sys2Proof.Machine
end

