-- ==== Sys2Proof/Machine/State.lean ====
section
/-! DEFINITION. The whole state of the DK-640 with the queue of commands that wait, and its value after a cold start. -/

namespace Sys2Proof.Machine

/-- The reasons a step can stop with a fault. The spec gives the DK-640 none: a tablet write that is not accepted is
refused or ignored (R3) and a request that is not accepted fails with a result code (R12), which are effects on State. No
meaning raises a fault, so the type has no constructor. -/
inductive Fault where
  deriving DecidableEq, Repr

/-- The reasons a command can be refused by the model. -/
inductive Refusal where
  /-- Raised by an arm of `exec` whose command has no meaning yet; no arm raises it. Safe: nothing is claimed. -/
  | notModelled (mnemonic : String)
  deriving DecidableEq, Repr

/-- The state of the part. -/
structure State where
  /-- The commands that wait, the first in front. -/
  pending : List Instr
  /-- The Exchange Memory's plain words and journal ring, by byte offset (R1, R2). -/
  mem : Memory
  link : Link
  exch : Exchange
  journal : Journal
  scanner : Scanner
  composer : Composer
  profile : ProfileUnit
  picture : Picture
  frames : Frames
  scanout : Scanout
  measure : Measure
  light : Light
  lines : Lines
  power : Power
  /-- The model's own counter, to which the free value `Config.eitherOrder` is applied (log entry 11). -/
  freeCount : Nat
  deriving DecidableEq, Repr

/-- The part right after a cold start (R24, R47, R71, R89, R91, R122, R138, R142, R153, R165, R177). -/
def State.reset : State where
  pending := []
  mem := []
  link := Link.start
  exch := Exchange.start
  journal := Journal.start
  scanner := Scanner.start
  composer := Composer.start
  profile := ProfileUnit.start
  picture := Picture.start
  frames := Frames.start
  scanout := Scanout.start
  measure := Measure.start
  light := Light.start
  lines := Lines.start openInputs
  power := Power.start
  freeCount := 0

end Sys2Proof.Machine
end

