-- ==== Sys2Proof/Machine/Ops.lean ====
section
/-! DEFINITION. The named operations over State that every block uses: Dock Time and timers, the records of the tables,
refused writes, and the gates of the commands. -/

namespace Sys2Proof.Machine

/-- The answer of a command. -/
abbrev Result := Host.Outcome State Fault Refusal

/-! ### Dock Time and timers (R166) -/

/-- Dock Time. -/
def now (s : State) : Word := s.power.dockTime

/-- The Dock Time `n` ms from now, at which a timer loaded with `n` runs out. -/
def after (s : State) (n : Nat) : Word := now s + ms n

/-- Whether a running timer that ends at `ends` has run out. -/
def dueAt (s : State) (ends : Word) : Bool := reached (now s) ends

/-- Whether a timer that may be stopped has run out. -/
def due (s : State) : Option Word → Bool
  | none => false
  | some ends => dueAt s ends

/-- Whether Dock Time is a multiple of `n` ms ("at every multiple of", R166). -/
def onGrid (s : State) (n : Nat) : Bool := decide ((now s).toNat % n = 0)

/-! ### Gates

While the part is held in reset every block stands (R169), and no access of the tablet reaches the part while the link is
down (R5: a write that reaches the part has crossed the link). Log entries 6 and 22. -/

/-- What an event does to the part, unless the part is held in reset. -/
def whenRunning (f : State → State) (s : State) : State := if s.power.held then s else f s

/-- What an access of the tablet does, unless it cannot reach the part. -/
def whenLinked (f : State → State) (s : State) : State := whenRunning (fun s => if s.link.up then f s else s) s

/-! ### Positions and the Key State Table (R27, R48) -/

/-- The positions in ascending order. -/
def positions : List (Fin 128) := (List.range 128).map (Fin.ofNat 128)

def keyOf (keys : List KeyRec) (p : Fin 128) : KeyRec := keys.getD p.val KeyRec.start

/-- The record of a position. -/
def key (s : State) (p : Fin 128) : KeyRec := keyOf s.composer.keys p

def setKey (p : Fin 128) (k : KeyRec) (s : State) : State :=
  { s with composer.keys := s.composer.keys.set p.val k }

/-- A key that holds a profile swap back and makes a pass count as not idle: DOWN or MUTED (R45, R97). -/
def KeyRec.engaged (k : KeyRec) : Bool := k.state == .down || k.state == .muted

/-- Every position is UP or STUCK. -/
def quiet (s : State) : Bool := s.composer.keys.all fun k => !k.engaged

/-! ### Slots -/

/-- The offset of a slot's record (R1). -/
def slotOffset (k : Fin 16) : Nat := Config.slotBase + 64 * k.val

def slot (s : State) (k : Fin 16) : SlotRec := s.exch.slots.getD k.val SlotRec.zero

def setSlot (k : Fin 16) (r : SlotRec) (s : State) : State := { s with exch.slots := s.exch.slots.set k.val r }

def setSlotState (k : Fin 16) (st : SlotState) (s : State) : State := setSlot k { slot s k with state := st } s

/-- The 36 parameter bytes of a slot as they stand (R15, section 1.8.2). -/
def slotParams (s : State) (k : Fin 16) : List Byte := s.mem.reads (slotOffset k + 0x1C) 36

/-- The slots that hold nothing, as after a session end (R8): only the state word changes. -/
def freeSlots (s : State) : State :=
  { s with exch.slots := s.exch.slots.map fun r => { r with state := .free } }

/-! ### Refused writes (R3) -/

/-- A refused write of the word at `offset`: discarded, counted, its offset recorded. -/
def refuse (offset : Nat) (s : State) : State :=
  { s with exch.refused := min (s.exch.refused + 1) 65535, exch.lastRefused := BitVec.ofNat 16 offset }

/-! ### An order that a rule leaves open (log entry 11) -/

/-- Which of two orders this event takes, and the state with the free value used up. -/
def takeOrder (s : State) : Bool × State :=
  (Config.eitherOrder s.freeCount, { s with freeCount := s.freeCount + 1 })

/-! ### Frame buffers (R105) -/

def Frames.get (f : Frames) : Buffer → Memory
  | .a => f.a
  | .b => f.b
  | .standby => f.standby

def Frames.set (f : Frames) (buf : Buffer) (m : Memory) : Frames :=
  match buf with
  | .a => { f with a := m }
  | .b => { f with b := m }
  | .standby => { f with standby := m }

/-- The buffer with the front role and the one with the back role (R105). -/
def frontBuffer (s : State) : Buffer := match s.scanout.front with | .a => .a | .b => .b
def backBuffer (s : State) : Buffer := match s.scanout.front with | .a => .b | .b => .a

/-- Pixel (x, y) of a buffer (R105). -/
def pixel (s : State) (buf : Buffer) (x y : Nat) : Half := (s.frames.get buf).half (y * Config.rowBytes + 2 * x)

/-- Write pixels into row `y` of a buffer from column `x` on (R117). -/
def writeRow (buf : Buffer) (x y : Nat) (pixels : List Half) (s : State) : State :=
  let m := (s.frames.get buf).writes (y * Config.rowBytes + 2 * x) (pixels.flatMap bytes2)
  { s with frames := s.frames.set buf m }

end Sys2Proof.Machine
end

