-- ==== Sys2Proof/Machine/Operands.lean ====
section
/-! DEFINITION. The operand forms: the fields of the 36 parameter bytes by kind (section 1.8.3), the profile image
(section 1.8.5), and pixels (R116). Offsets here count from the first parameter byte, slot offset 0x1C. -/

namespace Sys2Proof.Machine

/-! ### Parameter bytes -/

def param8 (ps : List Byte) (i : Nat) : Byte := ps.getD i 0
def param16 (ps : List Byte) (i : Nat) : Half := half (param8 ps i) (param8 ps (i + 1))
def param32 (ps : List Byte) (i : Nat) : Word :=
  word (param8 ps i) (param8 ps (i + 1)) (param8 ps (i + 2)) (param8 ps (i + 3))

/-! ### Kinds (section 1.8.2) -/

def kindCopy : Byte := 1
def kindFill : Byte := 2
def kindPresent : Byte := 3
def kindProfile : Byte := 4
def kindIndicators : Byte := 5
def kindLight : Byte := 6
def kindVehicle : Byte := 7
def kindPanel : Byte := 8

/-- The kinds of the PICTURE context (section 1.4). -/
def isPictureKind (k : Byte) : Bool := k == kindCopy || k == kindFill || k == kindPresent

/-- The kind of the PROFILE context (section 1.4). -/
def isProfileKind (k : Byte) : Bool := k == kindProfile

/-- The kinds of the SETTINGS context: INDICATORS, LIGHT, VEHICLE, PANEL and every unknown kind (R18). -/
def isSettingsKind (k : Byte) : Bool := !isPictureKind k && !isProfileKind k

/-- The kinds whose settings are applied at the take and that complete in the following event (R13). -/
def completesLater (k : Byte) : Bool := k == kindIndicators || k == kindLight || k == kindVehicle

/-! ### COPY and FILL -/

def copySpace (ps : List Byte) : Byte := param8 ps 0
def copyFormat (ps : List Byte) : Byte := param8 ps 1
/-- The destination of a COPY and the buffer of a FILL: 0 BACK, 1 STANDBY. -/
def pictureDest (ps : List Byte) : Byte := param8 ps 2
def copyStride (ps : List Byte) : Nat := (param32 ps 12).toNat
def pictureWidth (ps : List Byte) : Nat := (param16 ps 16).toNat
def pictureHeight (ps : List Byte) : Nat := (param16 ps 18).toNat
def pictureX (ps : List Byte) : Int := (param16 ps 20).toInt
def pictureY (ps : List Byte) : Int := (param16 ps 22).toInt
def fillColour (ps : List Byte) : Half := param16 ps 0

/-- The source address field; for STAGING its high four bytes are not read (R108). -/
def copyHostAddress (ps : List Byte) : Nat := (param32 ps 4).toNat + (param32 ps 8).toNat * 2 ^ 32
def copyStagingOffset (ps : List Byte) : Nat := (param32 ps 4).toNat
def copyIsHost (ps : List Byte) : Bool := copySpace ps == 0
def copySource (ps : List Byte) : Nat := if copyIsHost ps then copyHostAddress ps else copyStagingOffset ps

/-- Bytes per pixel of the format: 2 for RGB565, 4 for XRGB8888 (R108). -/
def copyPixelBytes (ps : List Byte) : Nat := if copyFormat ps = 0 then 2 else 4

/-! ### Pixels (R116) -/

/-- One channel: (v x top + 127) div 255. -/
def channel (v : Byte) (top : Nat) : Nat := (v.toNat * top + 127) / 255

/-- An XRGB8888 pixel, its bytes b8, g8, r8 from the lowest, in RGB565. -/
def convertPixel (b8 g8 r8 : Byte) : Half :=
  BitVec.ofNat 16 (channel r8 31 * 2048 + channel g8 63 * 32 + channel b8 31)

/-- The bytes of a row as RGB565 pixels that are copied unchanged. -/
def pixelsOf565 : List Byte → List Half
  | b0 :: b1 :: rest => half b0 b1 :: pixelsOf565 rest
  | _ => []

/-- The bytes of a row of XRGB8888 pixels, converted. -/
def pixelsOf8888 : List Byte → List Half
  | b8 :: g8 :: r8 :: _ :: rest => convertPixel b8 g8 r8 :: pixelsOf8888 rest
  | _ => []

def convertRow (ps : List Byte) (bytes : List Byte) : List Half :=
  if copyFormat ps = 0 then pixelsOf565 bytes else pixelsOf8888 bytes

/-! ### PROFILE, INDICATORS, PRESENT, PANEL -/

def profileImageOffset (ps : List Byte) : Nat := (param16 ps 0).toNat
def profileWaitLimit (ps : List Byte) : Nat := (param16 ps 2).toNat
def presentCarry (ps : List Byte) : Bool := param8 ps 0 != 0
def panelWish (ps : List Byte) : Bool := param8 ps 0 != 0

/-- The tablet-owned lamps a mask names: bits 0 to 4; DRIVE, ALERT and bit 7 are ignored (R152). -/
def lampMask (b : Byte) : BitVec 5 := b.setWidth 5
def indicatorsSet (ps : List Byte) : BitVec 5 := lampMask (param8 ps 0)
def indicatorsClear (ps : List Byte) : BitVec 5 := lampMask (param8 ps 1)

/-- A number brought into a range, and whether it had to be (the CLAMPED flag). -/
def clampTo (lo hi v : Nat) : Nat := max lo (min hi v)
def outside (lo hi v : Nat) : Bool := decide (v < lo) || decide (hi < v)

/-- The idle timeout and the stuck limit: 0, or else brought into their range (R95, R144). -/
def clampOrZero (lo hi v : Nat) : Nat := if v = 0 then 0 else clampTo lo hi v
def outsideOrZero (lo hi v : Nat) : Bool := !(v == 0) && outside lo hi v

/-! ### LIGHT -/

def lightPoint (ps : List Byte) (i : Nat) : Point := ⟨(param16 ps (12 + 2 * i)).toNat, (param8 ps (20 + i)).toNat⟩

/-- The checks of a LIGHT request: the mode code and the curve points (R144). -/
def lightValid (ps : List Byte) : Bool :=
  let m := param8 ps 0
  let a := fun i => (lightPoint ps i).a
  (m == 0 || m == 1) && decide (a 3 ≤ 1023) && decide (a 0 < a 1) && decide (a 1 < a 2) && decide (a 2 < a 3)

/-- The settings of a LIGHT request with its numbers brought into range (R144). -/
def lightSettings (ps : List Byte) : LightSettings where
  mode := if param8 ps 0 = 0 then .auto else .manual
  manual := (param8 ps 1).toNat
  p0 := lightPoint ps 0
  p1 := lightPoint ps 1
  p2 := lightPoint ps 2
  p3 := lightPoint ps 3
  slew := clampTo 1 32 (param8 ps 2).toNat
  driveCap := (param8 ps 3).toNat
  dim := (param8 ps 4).toNat
  idleTimeout := clampOrZero 5 600 (param16 ps 6).toNat
  idleSources := (param8 ps 8).setWidth 3
  keyRatio := clampTo 0 16 (param8 ps 5).toNat

def lightClamped (ps : List Byte) : Bool :=
  outside 1 32 (param8 ps 2).toNat || outside 0 16 (param8 ps 5).toNat || outsideOrZero 5 600 (param16 ps 6).toNat

/-! ### VEHICLE (R164) -/

def vehicleParkTime (ps : List Byte) : Nat := clampTo 100 3000 (param16 ps 0).toNat
def vehicleLinger (ps : List Byte) : Nat := clampTo 0 240 (param8 ps 2).toNat
def vehicleSources (ps : List Byte) : BitVec 3 := (param8 ps 3).setWidth 3
def vehicleSwitch (ps : List Byte) (i : Nat) : Bool := (param8 ps 4).getLsbD i
def vehicleClamped (ps : List Byte) : Bool :=
  outside 100 3000 (param16 ps 0).toNat || outside 0 240 (param8 ps 2).toNat

/-! ### The profile image (section 1.8.5, R94, R95) -/

/-- A class byte (R94). -/
def classOfByte (b : Byte) : Option KeyClass :=
  if b = 0 then some .none
  else if b = 1 then some .plain
  else if b = 2 then some .repeating
  else if b = 3 then some .hold
  else if 0x10 ≤ b ∧ b ≤ 0x17 then some (.modifier (Fin.ofNat 8 (b.toNat - 0x10)))
  else none

/-- The classes of a run of class bytes, or none when one byte names no class. -/
def classesOfBytes : List Byte → Option (List KeyClass)
  | [] => some []
  | b :: bs =>
    match classOfByte b, classesOfBytes bs with
    | some c, some cs => some (c :: cs)
    | _, _ => none

/-- The classes of the 128 positions in an image. -/
def imageClasses (image : List Byte) : Option (List KeyClass) := classesOfBytes ((image.drop 0x20).take 128)

/-- The drive-permitted set: position p is bit (p mod 8) of byte (p div 8). -/
def imageDriveSet (image : List Byte) : BitVec 128 :=
  BitVec.ofNat 128 ((List.range 16).foldl (fun acc i => acc + (param8 image (0x10 + i)).toNat * 2 ^ (8 * i)) 0)

/-- The profile of an image with its numbers brought into range; P is clamped before Rb is tested (R95). -/
def imageProfile (image : List Byte) (classes : List KeyClass) : Profile :=
  let p := clampTo 2 12 (param8 image 2).toNat
  { tag := param16 image 0
    pressBase := p
    releaseBase := clampTo 0 (p - 1) (param8 image 3).toNat
    adaptation := param8 image 4 != 0
    stuckLimit := clampOrZero 5 120 (param8 image 6).toNat
    repeatDelay := clampTo 100 2000 (param16 image 8).toNat
    repeatPeriod := clampTo 20 500 (param16 image 10).toNat
    holdTime := clampTo 200 5000 (param16 image 12).toNat
    drivePermitted := imageDriveSet image
    classes := classes
    usages := (List.range 128).map fun q => param16 image (0xA0 + 2 * q) }

/-- The wait limit as staged (R95). -/
def waitStaged (limit : Nat) : Nat := clampTo 100 10000 limit

/-- Whether any numeric field of the image, or the wait limit, lies outside its range (R95). -/
def imageClamped (image : List Byte) (limit : Nat) : Bool :=
  let p := clampTo 2 12 (param8 image 2).toNat
  outside 2 12 (param8 image 2).toNat || outside 0 (p - 1) (param8 image 3).toNat
    || outsideOrZero 5 120 (param8 image 6).toNat || outside 100 2000 (param16 image 8).toNat
    || outside 20 500 (param16 image 10).toNat || outside 200 5000 (param16 image 12).toNat
    || outside 100 10000 limit

/-! ### Clipping (R110) -/

/-- The clipped rectangle of a request, or none when nothing of it lies on the panel. -/
def clipRect (x y : Int) (w h : Nat) : Option Rect :=
  let x0 := max x 0
  let x1 := min (x + w - 1) 1279
  let y0 := max y 0
  let y1 := min (y + h - 1) 799
  if x1 < x0 ∨ y1 < y0 then none else some ⟨x0.toNat, x1.toNat, y0.toNat, y1.toNat⟩

def Rect.width (r : Rect) : Nat := r.x1 + 1 - r.x0
def Rect.height (r : Rect) : Nat := r.y1 + 1 - r.y0

/-- Whether the clipped rectangle is smaller than the request's in either direction. -/
def Rect.cuts (r : Rect) (w h : Nat) : Bool := decide (r.width < w) || decide (r.height < h)

/-! ### The reads of a row (R113)

The row is divided into reads of 256 bytes, the last with what remains; a read that would cross a 4096-byte boundary is
divided there (log entry 12). -/

/-- One read, or two when it would cross a 4096-byte boundary. -/
def splitRead (address : Nat) (place len : Nat) : List ReadPlan :=
  let room := 4096 - address % 4096
  if len ≤ room then [⟨BitVec.ofNat 64 address, place, len⟩]
  else [⟨BitVec.ofNat 64 address, place, room⟩, ⟨BitVec.ofNat 64 (address + room), place + room, len - room⟩]

/-- The reads of `len` bytes from `address`; `fuel` bounds the number of 256-byte parts. -/
def planReads : (fuel : Nat) → (address place len : Nat) → List ReadPlan
  | 0, _, _, _ => []
  | fuel + 1, address, place, len =>
    if len = 0 then []
    else
      let n := min len Config.readBytes
      splitRead address place n ++ planReads fuel (address + n) (place + n) (len - n)

end Sys2Proof.Machine
end

