-- ==== Sys2Proof/Machine/Flags.lean ====
section
/-! DEFINITION. Codes and flags: result codes and flags, attention bits, source sets, record kinds, and what is computed
from the state instead of being stored (the modifier snapshot, the ALERT feed, INTx). -/

namespace Sys2Proof.Machine

/-! ### Slots (section 1.8.2) -/

def SlotState.toWord : SlotState → Word
  | .free => 0
  | .posted => 1
  | .active => 2
  | .cancelling => 3
  | .done => 4
  | .failed => 5
  | .cancelled => 6

def ResultCode.toByte : ResultCode → Byte
  | .ok => 0
  | .cancelled => 1
  | .badKind => 2
  | .badParam => 3
  | .badAlign => 4
  | .readError => 5
  | .keysHeld => 6

/-- The state a completion gives: DONE for OK, CANCELLED for CANCELLED, FAILED for every other code (R12). -/
def ResultCode.endState : ResultCode → SlotState
  | .ok => .done
  | .cancelled => .cancelled
  | _ => .failed

/-- Result flags: bit 0 CLIPPED, bit 1 CLAMPED. -/
def clippedFlag (b : Bool) : Byte := if b then 1 else 0
def clampedFlag (b : Bool) : Byte := if b then 2 else 0

/-- A context holds the slot: ACTIVE or CANCELLING (R15). -/
def SlotState.inWork (st : SlotState) : Bool := st == .active || st == .cancelling

/-! ### Attention (R19, section 1.8.1) -/

def Cause.bit : Cause → BitVec 3
  | .mark => 0b001#3
  | .slot => 0b010#3
  | .loss => 0b100#3

/-! ### Activity sources (section 1.8.3) -/

def Activity.bit : Activity → Nat
  | .key => 0
  | .picture => 1
  | .vehicle => 2

def selects (sources : BitVec 3) (a : Activity) : Bool := sources.getLsbD a.bit

/-! ### Journal records (section 1.8.4) -/

def RecordKind.code : RecordKind → Byte
  | .press => 1
  | .release => 2
  | .repeating => 3
  | .hold => 4
  | .rollover => 5
  | .suppressed => 6
  | .resync => 7
  | .held => 8
  | .profile => 9
  | .vehicle => 10
  | .latch => 11
  | .supply => 12
  | .power => 13

/-- The wake source as the detail of a STANDBY_EXIT record. -/
def WakeSource.detail : WakeSource → Half
  | .ignitionOn => 1
  | .key _ => 2
  | .dockArrival => 3
  | .latch => 4
  | .host => 5

def WakeSource.position : WakeSource → Option (Fin 128)
  | .key p => some p
  | _ => none

/-! ### Keys under the active profile -/

def classOf (s : State) (p : Fin 128) : KeyClass := s.profile.active.classes.getD p.val .plain
def usageOf (s : State) (p : Fin 128) : Half := s.profile.active.usages.getD p.val 0

/-- The bit a held key gives to the modifier snapshot. -/
def KeyClass.roleBit : KeyClass → Byte
  | .modifier r => 1 <<< r.val
  | _ => 0

/-- The modifier snapshot: the roles of the MODIFIER keys in the Held Set (R67). -/
def snapshot (s : State) : Byte := s.composer.held.foldl (fun acc p => acc ||| (classOf s p).roleBit) 0

/-- The ALERT feed: at least one key is STUCK (R70). -/
def alertFeed (s : State) : Bool := s.composer.keys.any fun k => k.state == .stuck

/-- The press threshold T_press = P + V (R31). -/
def pressThreshold (s : State) : Nat := s.profile.active.pressBase + s.scanner.vib

/-- Whether drive mode holds a press of the position back (R53). -/
def driveForbids (s : State) (p : Fin 128) : Bool :=
  s.lines.drive && !s.profile.active.drivePermitted.getLsbD p.val

/-! ### The interrupt line (R21) and the facts a pause depends on -/

/-- INTx is asserted while all its conditions hold; it is deasserted while the link is down (R25). -/
def intx (s : State) : Bool :=
  !s.power.held && s.link.up && !s.link.msiEnable && s.exch.attention != 0 && s.link.intEnable && !s.link.intxDisable

/-- The condition of a pause of COPY, FILL and carry copy (R112, R136). -/
def pauses (s : State) : Bool := s.power.band == .crank || s.power.standby

/-! ### The level of a line (R179) -/

/-- IGN high is ON. PARK low is ENGAGED. PRESENCE low is DOCKED. LATCH high is OPEN. -/
def lineLevel (l : LineLevels) : Line → Bool
  | .ign => l.ign
  | .park => !l.park
  | .presence => !l.presence
  | .latch => l.latch

end Sys2Proof.Machine
end

