-- ==== Sys2Proof/Machine/Attention.lean ====
section
/-! DEFINITION. Attention, interrupt messages and the CONTROL interrupt enable (R19 to R21, R23), and the completion of a
slot by its context (R12). -/

namespace Sys2Proof.Machine

/-- Send one interrupt message: only while MSI is enabled, and it is lost while bus mastering is disabled (R20) or the link
is down (R25). -/
def sendMessage (s : State) : State :=
  if s.link.msiEnable && s.link.busMastering && s.link.up then { s with link.messages := s.link.messages + 1 } else s

/-- Raise a cause (R19). A message goes out when attention leaves empty while interrupt enable is set (R20). -/
def raise (c : Cause) (s : State) : State :=
  let s' := { s with exch.attention := s.exch.attention ||| c.bit }
  if s.exch.attention = 0 ∧ s.link.intEnable = true then sendMessage s' else s'

/-- The bits of an Attention Acknowledge value that name causes (section 1.8.1). -/
def ackMask (v : Word) : BitVec 3 := v.setWidth 3

/-- An Attention Acknowledge write while OPEN: the named causes go, and while interrupt enable is set and attention is
non-empty after it, a message falls due (R19, R20). -/
def acknowledge (v : Word) (s : State) : State :=
  let s' := { s with exch.attention := s.exch.attention &&& ~~~ackMask v }
  if s'.exch.attention ≠ 0 ∧ s.link.intEnable = true then sendMessage s' else s'

/-- Store interrupt enable; a message falls due when it goes from clear to set while attention is non-empty (R20, R23). -/
def setInterruptEnable (on : Bool) (s : State) : State :=
  let s' := { s with link.intEnable := on }
  if s.link.intEnable = false ∧ on = true ∧ s.exch.attention ≠ 0 then sendMessage s' else s'

/-- The result fields of a completion, with the current frame number and Dock Time (R12, step 1). -/
def resultFields (code : ResultCode) (flags : Byte) (count : Nat) (s : State) (r : SlotRec) : SlotRec :=
  { r with state := code.endState, code := code, flags := flags, count := count, frame := s.scanout.frame, time := now s }

/-- Complete a slot: result fields, state word, and the SLOT cause when notify was yes (R12, steps 1 to 3). The context
becomes free where it is completed and looks at the queue at the end of the event (step 4, log entry 10). -/
def complete (k : Fin 16) (notify : Bool) (code : ResultCode) (flags : Byte) (count : Nat) (s : State) : State :=
  let s' := setSlot k (resultFields code flags count s (slot s k)) s
  if notify then raise .slot s' else s'

/-- Complete the slot a context holds. -/
def completeJob (j : Job) (code : ResultCode) (flags : Byte) (count : Nat) (s : State) : State :=
  complete j.slot j.notify code flags count s

end Sys2Proof.Machine
end

