-- ==== Sys2Proof/Machine/JournalWriter.lean ====
section
/-! DEFINITION. The Journal Writer (spec 04): writing, loss and recovery, RESYNC groups, Taken and the Notify Mark. -/

namespace Sys2Proof.Machine

/-- The 16 bytes of a journal record (section 1.8.4, R74). -/
def recordBytes (seq time : Word) (r : Rec) : List Byte :=
  bytes4 seq ++ bytes4 time ++
    [r.kind.code, match r.position with | none => 0xFF | some p => BitVec.ofNat 8 p.val] ++
    bytes2 r.usage ++ [r.mods, r.flags] ++ bytes2 r.detail

/-- The offset of the place of a sequence number (R73). -/
def recordOffset (seq : Word) : Nat := Config.journalBase + 16 * (seq.toNat % Config.ringSize)

/-- Write a record whole at the place of a sequence number, with the present Dock Time (R73, R74). -/
def putRecord (seq : Word) (r : Rec) (s : State) : State :=
  { s with mem := s.mem.writes (recordOffset seq) (recordBytes seq (now s) r) }

/-- Write records at the places of a run of sequence numbers. -/
def putRecords : Word → List Rec → State → State
  | _, [], s => s
  | seq, r :: rs, s => putRecords (seq + 1) rs (putRecord seq r s)

/-- The records in the ring that the tablet has not taken: (Head - Taken) modulo 2^32 (R76). -/
def untaken (s : State) : Nat := (s.journal.head - s.journal.taken).toNat

/-- The room in the ring (R76). -/
def room (s : State) : Nat := Config.ringSize - untaken s

/-- The test of the mark after an advance of Head (R81). -/
def testMark (s : State) : State :=
  if s.journal.armed && reached s.journal.head s.journal.mark then raise .mark { s with journal.armed := false } else s

/-- Advance Head by `n`, publish it and test the mark (R77, R81). -/
def advanceHead (n : Nat) (s : State) : State :=
  testMark { s with journal.head := s.journal.head + BitVec.ofNat 32 n }

/-- The RESYNC record and the HELD records of the Held Set, oldest first (R84). -/
def resyncGroup (s : State) : List Rec :=
  let mods := snapshot s
  ⟨.resync, none, 0, mods, 0, BitVec.ofNat 16 s.composer.held.length⟩ ::
    mapFrom (fun i p => ⟨.held, some p, usageOf s p, mods, 0, BitVec.ofNat 16 i⟩) 1 s.composer.held

/-- Write a RESYNC group as one unit and end a loss episode (R85). -/
def writeGroup (s : State) : State :=
  let s' := advanceHead (1 + s.composer.held.length) (putRecords s.journal.head (resyncGroup s) s)
  { s' with journal.episode := false }

/-- The recovery test (R83). -/
def recoveryTest (s : State) : State := if 1 + s.composer.held.length ≤ room s then writeGroup s else s

/-- Drop a record and count it (R82, steps 1 and 2). -/
def dropRecord (s : State) : State := { s with journal.lost := min (s.journal.lost + 1) 65535 }

/-- A record handed to the Journal Writer (R76): discard, drop, overflow or write, the first that applies. -/
def handRecord (r : Rec) (s : State) : State :=
  if s.exch.sessionOpen = false then s
  else if s.journal.episode then recoveryTest (dropRecord s)
  else if Config.ringSize ≤ untaken s then raise .loss { dropRecord s with journal.episode := true }
  else advanceHead 1 (putRecord s.journal.head r s)

/-- A record of the Key Composer about a key (R69): its position, its usage and the snapshot of the moment. -/
def keyRecord (kind : RecordKind) (p : Fin 128) (flags : Byte) (detail : Half) (s : State) : State :=
  handRecord ⟨kind, some p, usageOf s p, snapshot s, flags, detail⟩ s

/-- A record that concerns no key (R74, R75). -/
def plainRecord (kind : RecordKind) (detail : Half) (s : State) : State :=
  handRecord ⟨kind, none, 0, snapshot s, 0, detail⟩ s

/-- The POWER record of a wake (R174, step 2). -/
def wakeRecord (w : WakeSource) (s : State) : State :=
  match w.position with
  | some p => keyRecord .power p 0 w.detail s
  | none => plainRecord .power w.detail s

/-- Whether Taken moved, the recovery test follows while a loss episode is running (R78, R83). -/
def moveTaken (v : Word) (s : State) : State :=
  let s' := { s with journal.taken := v }
  if s.journal.taken ≠ v ∧ s.journal.episode = true then recoveryTest s' else s'

/-- A write to Journal Taken (R78). -/
def takenWrite (v : Word) (s : State) : State :=
  if s.exch.sessionOpen = false then refuse 0x0010 s
  else if (v - s.journal.taken).toNat ≤ untaken s then moveTaken v s
  else if reached v s.journal.head then refuse 0x0010 (moveTaken s.journal.head s)
  else refuse 0x0010 s

/-- A write to the Journal Notify Mark (R80). -/
def markWrite (m : Word) (s : State) : State :=
  if s.exch.sessionOpen = false then refuse 0x0014 s
  else if reached s.journal.head m then raise .mark { s with journal.mark := m, journal.armed := false }
  else { s with journal.mark := m, journal.armed := true }

/-- The journal at a session open, its RESYNC group written (R87). -/
def journalOpen (s : State) : State := writeGroup { s with journal := Journal.start }

end Sys2Proof.Machine
end

