-- ==== Sys2Proof/Machine/LightController.lean ====
section
/-! DEFINITION. The Light Controller (spec 08, R143 to R153) and the activity events it shares with the Power Manager's
linger timer (R56, R149, R170). -/

namespace Sys2Proof.Machine

/-! ### The target (R145, R146) -/

/-- One segment of the curve, its division truncated toward zero (R145). -/
def segment (lo hi : Point) (a : Nat) : Nat :=
  ((lo.l : Int) + (((a : Int) - lo.a) * ((hi.l : Int) - lo.l)).tdiv ((hi.a : Int) - lo.a)).toNat

/-- The curve read at an average (R145). -/
def curve (l : LightSettings) (a : Nat) : Nat :=
  if a ≤ l.p0.a then l.p0.l
  else if l.p3.a ≤ a then l.p3.l
  else if a < l.p1.a then segment l.p0 l.p1 a
  else if a < l.p2.a then segment l.p1 l.p2 a
  else segment l.p2 l.p3 a

/-- The base level (R145). -/
def baseLevel (s : State) : Nat :=
  match s.light.settings.mode with
  | .manual => s.light.settings.manual
  | .auto => curve s.light.settings s.light.ambient

/-- A cap applied while a condition holds. -/
def capWhen (c : Bool) (cap level : Nat) : Nat := if c then min level cap else level

/-- The panel is not ON, or the power state is STANDBY (R146, cap 5). -/
def dark (s : State) : Bool := s.scanout.panel != .on || s.power.standby

/-- The base with the five caps (R146). -/
def targetLevel (s : State) : Nat :=
  let l1 := capWhen (s.light.idle == .dimmed) s.light.settings.dim (baseLevel s)
  let l2 := capWhen s.lines.drive s.light.settings.driveCap l1
  let l3 := capWhen (s.power.band == .low) 96 l2
  let l4 := capWhen (s.power.band == .crank) 8 l3
  if dark s then 0 else l4

/-! ### The output (R147, R148) -/

/-- floor(output x key ratio / 16) (R148). -/
def keyLightLevel (output ratio : Nat) : Nat := output * ratio / 16

/-- Set the output; the key light follows in the same event (R148). -/
def setOutput (v : Nat) (s : State) : State :=
  { s with light.output := v, light.keyLight := keyLightLevel v s.light.settings.keyRatio }

/-- The two cases that move the output to the target at once (R147). -/
def immediate (s : State) : Bool := s.power.band == .crank || dark s

/-- Recompute the target in an event that changes one of its inputs (R146), with the immediate cases (R147). -/
def recompute (s : State) : State :=
  let s' := { s with light.target := targetLevel s }
  if immediate s then setOutput s'.light.target s' else s'

/-- One slew step toward the target (R147). -/
def slewed (output target step : Nat) : Nat :=
  if output < target then min target (output + step)
  else if target < output then max target (output - step)
  else output

/-- The step of a tick (R147). -/
def tickStep (s : State) : State :=
  setOutput (if immediate s then s.light.target else slewed s.light.output s.light.target s.light.settings.slew) s

/-! ### The idle timer (R149, R150) -/

/-- The idle timer RUNNING with its time left reloaded. -/
def idleLoad (s : State) : State :=
  { s with light.idle := .running, light.idleEnds := after s (s.light.settings.idleTimeout * 1000) }

/-- A selected activity event, or a wake, at the idle timer (R149). -/
def idleRestart (s : State) : State :=
  match s.light.idle with
  | .off => s
  | .running => idleLoad s
  | .dimmed => recompute (idleLoad s)

/-- An activity event at the Light Controller (R149). -/
def idleActivity (a : Activity) (s : State) : State :=
  if selects s.light.settings.idleSources a then idleRestart s else s

/-- The wake load of the linger timer, in ms (R170). -/
def wakeLoad (s : State) : Nat := if s.power.lingerMin = 0 then 60000 else 60000 * s.power.lingerMin

/-- An activity event at the linger timer: a running timer is reloaded with the wake load (R170). -/
def lingerActivity (a : Activity) (s : State) : State :=
  match s.power.lingerEnds with
  | some _ => if selects s.power.lingerSources a then { s with power.lingerEnds := some (after s (wakeLoad s)) } else s
  | none => s

/-- An activity event, handed to the Light Controller and the Power Manager (R56, R135, R158). -/
def activity (a : Activity) (s : State) : State := lingerActivity a (idleActivity a s)

/-! ### The LIGHT and INDICATORS requests (R144, R150, R152) -/

/-- What a LIGHT request does to the idle timer (R150). -/
def idleRetime (timeout : Nat) (s : State) : State :=
  if timeout = 0 then { s with light.idle := .off }
  else
    match s.light.idle with
    | .dimmed => s
    | _ => { s with light.idle := .running, light.idleEnds := after s (timeout * 1000) }

/-- Apply the settings of a LIGHT request: the idle timer, the target and the key light (R144). -/
def applyLight (l : LightSettings) (s : State) : State :=
  let s' := recompute (idleRetime l.idleTimeout { s with light.settings := l })
  setOutput s'.light.output s'

/-- Turn on the lamps of the set mask, then turn off those of the clear mask (R152). -/
def applyIndicators (set clear : BitVec 5) (s : State) : State :=
  { s with light.lamps := (s.light.lamps ||| set) &&& ~~~clear }

/-- The Light Controller's function-reset state (R153); the target is recomputed and the key light takes the default
ratio at once. -/
def lightFunctionReset (s : State) : State :=
  let s' := recompute
    { s with light.settings := LightSettings.default, light.idle := .running, light.idleEnds := after s 120000,
             light.lamps := 0 }
  setOutput s'.light.output s'

end Sys2Proof.Machine
end

