-- ==== Sys2Proof/Machine/PictureEngine.lean ====
section
/-! DEFINITION. The Picture Engine (spec 06): the checks at the take of COPY and FILL, the row cycle, HOST reads, pauses
and abandonment. -/

namespace Sys2Proof.Machine

/-- The engine with no request: its row buffer, reads and marks are empty (R122). The number of the next read goes on. -/
def Picture.cleared (p : Picture) : Picture := { Picture.start with nextTag := p.nextTag }

/-- The work stops: the state is FREE. -/
def stopPicture (s : State) : State := { s with picture := s.picture.cleared }

/-- The request completes: result fields with the pixels written and CLIPPED, then FREE (R112, R114, R119). -/
def finishPicture (code : ResultCode) (s : State) : State :=
  match s.picture.job with
  | none => stopPicture s
  | some j => stopPicture (completeJob j code (clippedFlag s.picture.clipped) s.picture.pixels s)

/-- A failed read, or bus mastering found disabled: the row is discarded, the other reads are given up, and the request
ends FAILED with READ_ERROR; abandoned work only stops (R114, R120). -/
def failPicture (s : State) : State := if s.picture.abandon then stopPicture s else finishPicture .readError s

/-! ### Fetch (R111, R113, R115) -/

/-- Bytes of a row of the clipped rectangle in the source. -/
def rowLength (s : State) : Nat := s.picture.clip.width * copyPixelBytes s.picture.params

/-- Where the source bytes of the next row begin (R111): a tablet address, or an offset within the Staging Area. -/
def rowSource (s : State) : Nat :=
  let ps := s.picture.params
  let r := ((s.picture.nextRow : Int) - pictureY ps).toNat
  let c := (max 0 (-pictureX ps)).toNat
  copySource ps + r * copyStride ps + c * copyPixelBytes ps

/-- The row buffer holds the converted row and its write begins (R116, R117). -/
def startWrite (pixels : List Half) (s : State) : State :=
  { s with picture.work := (if s.picture.abandon then .stopping else .row), picture.writing := true,
           picture.rowBuf := [], picture.rowPixels := pixels, picture.reads := [], picture.toIssue := [] }

/-- Issue reads in address order while fewer than 8 are outstanding, testing bus mastering before each (R113). -/
def issueReads : List ReadPlan → State → State
  | [], s => { s with picture.toIssue := [] }
  | r :: rs, s =>
    if Config.readsMax ≤ s.picture.reads.length then { s with picture.toIssue := r :: rs }
    else if s.link.busMastering = false then failPicture s
    else
      issueReads rs
        { s with picture.reads := s.picture.reads ++ [⟨s.picture.nextTag, r, now s⟩],
                 picture.nextTag := s.picture.nextTag + 1 }

/-- The fetch of a HOST row begins (R113). -/
def startHostFetch (s : State) : State :=
  let plans := planReads (rowLength s) (rowSource s) 0 (rowLength s)
  issueReads plans
    { s with picture.work := .row, picture.writing := false, picture.rowBuf := List.replicate (rowLength s) none,
             picture.rowPixels := [], picture.reads := [] }

/-- The bytes of a STAGING row as they stand (R115). -/
def stagingRow (s : State) : List Byte := s.mem.reads (Config.stagingBase + rowSource s) (rowLength s)

/-- The next row begins (R112, case 5): a FILL row holds the colour, a STAGING row is read, a HOST row is fetched. -/
def beginRow (s : State) : State :=
  let ps := s.picture.params
  if s.picture.fill then startWrite (List.replicate s.picture.clip.width (fillColour ps)) s
  else if copyIsHost ps then startHostFetch s
  else startWrite (convertRow ps (stagingRow s)) s

/-- Whether the slot the PICTURE context holds is CANCELLING. -/
def pictureCancelling (s : State) : Bool :=
  match s.picture.job with
  | none => false
  | some j => (slot s j.slot).state == .cancelling

/-- A row boundary: the first case that applies (R112). -/
def pictureBoundary (s : State) : State :=
  if s.picture.abandon then stopPicture s
  else if pictureCancelling s then finishPicture .cancelled s
  else if s.picture.clip.y1 < s.picture.nextRow then finishPicture .ok s
  else if pauses s then { s with picture.work := .paused, picture.writing := false }
  else beginRow s

/-- A change of band or power state at a paused request (R118). -/
def resumePicture (s : State) : State :=
  if s.picture.work = .paused ∧ pauses s = false then pictureBoundary s else s

/-! ### Completions of HOST reads (R113, R114) -/

/-- Place the bytes of a completion in the row buffer, from place `at` on and before place `stop`. -/
def placeBytes (start stop : Nat) (data : List Byte) (buf : List (Option Byte)) : List (Option Byte) :=
  mapFrom (fun i old => if start ≤ i ∧ i < stop ∧ i < start + data.length then data[i - start]? else old) 0 buf

/-- Whether every byte of a read has arrived. -/
def answered (r : Read) (buf : List (Option Byte)) : Bool :=
  ((buf.drop r.plan.place).take r.plan.len).all Option.isSome

/-- The fetch has ended when every read of the row is answered: the row is converted and its write begins (R113, R116). -/
def endFetch (s : State) : State :=
  if (s.picture.work = .row ∨ s.picture.work = .stopping) ∧ s.picture.writing = false ∧ s.picture.reads = [] ∧
      s.picture.toIssue = [] then
    startWrite (convertRow s.picture.params (s.picture.rowBuf.map fun b => b.getD 0)) s
  else s

/-- A completion for an outstanding read (R113). -/
def takeCompletion (r : Read) (place : Nat) (data : List Byte) (s : State) : State :=
  let buf := placeBytes (r.plan.place + place) (r.plan.place + r.plan.len) data s.picture.rowBuf
  let s' := { s with picture.rowBuf := buf }
  if answered r buf then
    let s'' := { s' with picture.reads := s.picture.reads.filter fun q => q.tag != r.tag }
    endFetch (issueReads s''.picture.toIssue s'')
  else s'

/-- Milliseconds since a read was issued (R114). -/
def readAge (r : Read) (s : State) : Nat := (now s - r.issued).toNat

def findRead (tag : Nat) (s : State) : Option Read := s.picture.reads.find? fun r => r.tag == tag

/-- A completion of the read numbered `tag` (R113, R114): for a given-up read, or after its 50 ms, it is discarded. -/
def hostCompletion (tag place : Nat) (data : List Byte) (error poisoned : Bool) (s : State) : State :=
  match findRead tag s with
  | none => s
  | some r =>
    if Config.readLimit < readAge r s then s
    else if error || poisoned then failPicture s
    else takeCompletion r place data s

/-- The 50 ms of a read have run out (R114). -/
def hostTimeout (tag : Nat) (s : State) : State :=
  match findRead tag s with
  | none => s
  | some r => if Config.readLimit ≤ readAge r s then failPicture s else s

/-- The end of a row write (R117): the row lands whole, and the next boundary follows. -/
def rowWritten (s : State) : State :=
  if s.picture.writing then
    let p := s.picture
    let s' := writeRow p.dest p.clip.x0 p.nextRow p.rowPixels s
    pictureBoundary
      { s' with picture.writing := false, picture.rowPixels := [], picture.nextRow := p.nextRow + 1,
                picture.pixels := p.pixels + p.clip.width }
  else s

/-! ### Abandonment (R120) -/

/-- A session end at the COPY or FILL in work: a paused one stops, one in a row goes on to its boundary. -/
def abandonPicture (s : State) : State :=
  match s.picture.work with
  | .free => { s with picture.job := none }
  | .paused => stopPicture s
  | .row | .stopping => { s with picture.job := none, picture.work := .stopping, picture.abandon := true }

/-- The outstanding reads of abandoned work are given up: a row whose write has not begun is discarded (R120). -/
def giveUpReads (s : State) : State :=
  if s.picture.work = .stopping ∧ s.picture.writing = false then stopPicture s else s

/-! ### The take of COPY and FILL (R108 to R110) -/

/-- What the checks of a take decide: an end at once with a code, or else the request goes on to clipping. -/
inductive Checked where
  | ends (code : ResultCode)
  | goesOn
  deriving DecidableEq, Repr

/-- The five checks of a COPY, in order (R108). -/
def checkCopy (ps : List Byte) : Checked :=
  let w := pictureWidth ps
  let h := pictureHeight ps
  let bytes := copyPixelBytes ps
  if w = 0 ∨ h = 0 then .ends .ok
  else if 1 < copySpace ps ∨ 1 < copyFormat ps ∨ 1 < pictureDest ps then .ends .badParam
  else if copyStride ps < w * bytes then .ends .badParam
  else if copySource ps % bytes ≠ 0 ∨ copyStride ps % bytes ≠ 0 then .ends .badAlign
  else if copyIsHost ps = false ∧ Config.stagingSize < copySource ps + (h - 1) * copyStride ps + w * bytes then
    .ends .badParam
  else .goesOn

/-- The two checks of a FILL, in order (R109). -/
def checkFill (ps : List Byte) : Checked :=
  if pictureWidth ps = 0 ∨ pictureHeight ps = 0 then .ends .ok
  else if 1 < pictureDest ps then .ends .badParam
  else .goesOn

/-- The buffer a destination byte names, from the roles as they stand (R105). -/
def resolveDest (ps : List Byte) (s : State) : Buffer := if pictureDest ps = 0 then backBuffer s else .standby

/-- A request that passed its checks: clipping, then its first boundary (R110, R112). -/
def startPicture (j : Job) (fill : Bool) (s : State) : State :=
  let w := pictureWidth j.params
  let h := pictureHeight j.params
  match clipRect (pictureX j.params) (pictureY j.params) w h with
  | none => completeJob j .ok (clippedFlag true) 0 s
  | some r =>
    pictureBoundary
      { s with picture :=
        { s.picture.cleared with
          job := some j, work := .row, fill := fill, params := j.params, dest := resolveDest j.params s, clip := r,
          nextRow := r.y0, clipped := r.cuts w h } }

/-- The take of a COPY or FILL slot (R108, R109). -/
def takePicture (j : Job) (fill : Bool) (s : State) : State :=
  match (if fill then checkFill j.params else checkCopy j.params) with
  | .ends code => completeJob j code 0 0 s
  | .goesOn => startPicture j fill s

end Sys2Proof.Machine
end

