-- ==== Sys2Proof/Machine/ScanoutUnit.lean ====
section
/-! DEFINITION. The Scanout Unit (spec 07): PRESENT with its swap and carry copy, the scanout source, and the panel's power
sequence. -/

namespace Sys2Proof.Machine

/-! ### The scanout source (R132) -/

/-- The source for the coming frame. -/
def chosenSource (s : State) : Source :=
  if s.exch.sessionOpen = false ∨ s.scanout.presented = false ∨ (s.lines.drive && s.scanout.driveBlanking) = true then
    .standby
  else .front

def decideSource (s : State) : State := { s with scanout.source := chosenSource s }

/-! ### The completion of a PRESENT (R135, R136) -/

/-- A PRESENT completes after its swap: the slot, the presented flag, the PICTURE activity event. -/
def finishPresent (code : ResultCode) (count : Nat) (s : State) : State :=
  match s.picture.job with
  | none => s
  | some j =>
    let s' := completeJob j code 0 count { s with picture.job := none }
    activity .picture { s' with scanout.presented := true }

/-! ### The carry copy (R136) -/

/-- One row of the front buffer is copied to the same row of the back buffer. -/
def copyRow (y : Nat) (s : State) : State :=
  let row := (s.frames.get (frontBuffer s)).reads (y * Config.rowBytes) Config.rowBytes
  let m := (s.frames.get (backBuffer s)).writes (y * Config.rowBytes) row
  { s with frames := s.frames.set (backBuffer s) m }

/-- A row boundary of the carry copy: the first case that applies (R136). -/
def carryBoundary (c : Carry) (s : State) : State :=
  if c.stopping then { s with scanout.carry := none }
  else if Config.panelHeight ≤ c.row then
    if c.abandoned then { s with scanout.carry := none }
    else
      let code := if pictureCancelling s then ResultCode.cancelled else .ok
      finishPresent code Config.panelHeight { s with scanout.carry := none }
  else if pauses s then { s with scanout.carry := some { c with inRow := false } }
  else { s with scanout.carry := some { c with inRow := true } }

/-- The end of a row of the carry copy (R136). -/
def carryRowDone (s : State) : State :=
  match s.scanout.carry with
  | none => s
  | some c => if c.inRow then carryBoundary { c with row := c.row + 1, inRow := false } (copyRow c.row s) else s

/-- A change of band or power state at a paused carry copy (R136). -/
def resumeCarry (s : State) : State :=
  match s.scanout.carry with
  | none => s
  | some c => if c.inRow = false ∧ pauses s = false then carryBoundary c s else s

/-! ### The swap (R135) -/

def Drawable.other : Drawable → Drawable
  | .a => .b
  | .b => .a

/-- The swap of a PRESENT with its carry choice: roles, then completion or carry copy. -/
def swap (carry : Bool) (s : State) : State :=
  let s' := { s with scanout.front := s.scanout.front.other, scanout.waiting := none }
  if carry then carryBoundary ⟨0, false, false, false⟩ s' else finishPresent .ok 0 s'

/-- A waiting PRESENT is swapped (R131 step 2, R135). -/
def swapWaiting (s : State) : State :=
  match s.scanout.waiting with
  | none => s
  | some carry => swap carry s

/-- The take of a PRESENT (R134): it waits for a vertical blank while the panel is ON, or else is swapped at once. -/
def takePresent (j : Job) (s : State) : State :=
  let s' := { s with picture := { s.picture.cleared with job := some j } }
  if s.scanout.panel = .on then { s' with scanout.waiting := some (presentCarry j.params) }
  else swap (presentCarry j.params) s'

/-- What a session end does to a PRESENT (R137): a waiting one is withdrawn, a carry copy is abandoned and runs on. -/
def abandonPresent (s : State) : State :=
  { s with scanout.waiting := none, scanout.carry := s.scanout.carry.map fun c => { c with abandoned := true } }

/-- What a function reset does to a carry copy (R137, R138): the row in progress runs to its end and the copy then stops;
one that is paused stands at a boundary and stops there. -/
def stopCarry (s : State) : State :=
  { s with scanout.carry := match s.scanout.carry with
    | none => none
    | some c => if c.inRow then some { c with stopping := true } else none }

/-! ### The panel's power sequence (R123 to R127) -/

/-- How long a stage is held, in ms (R124, R125). -/
def Stage.time : Stage → Nat
  | .rails => 20
  | .signals => 50
  | .enable => 10
  | .disable => 10
  | .signalsOff => 50
  | .railsOff => 20

/-- Enter a stage of a sequence with its full time. -/
def enterStage (p : PanelState) (st : Stage) (s : State) : State :=
  { s with scanout.panel := p, scanout.stage := some st, scanout.stageEnds := after s st.time }

/-- The panel rests in ON or OFF, with no stage. -/
def restPanel (p : PanelState) (s : State) : State := { s with scanout.panel := p, scanout.stage := none }

/-- The panel is wanted while the power state is ACTIVE and the wish is ON (R123). -/
def wanted (s : State) : Bool := !s.power.standby && s.scanout.wish

/-- The stage of the stop sequence that undoes the last action of a start sequence (R126). -/
def undoStage : Option Stage → Stage
  | some .rails => .railsOff
  | some .signals => .signalsOff
  | _ => .disable

/-- Entry into STOPPING: a waiting PRESENT is swapped at once (R125), and the panel change reaches the Light Controller. -/
def stopPanel (st : Stage) (s : State) : State := recompute (swapWaiting (enterStage .stopping st s))

/-- The start sequence begins (R123, R124). -/
def startPanel (s : State) : State := recompute (enterStage .starting .rails s)

/-- The test whether the panel is wanted, at each change of the power state or the wish (R123, R126). -/
def panelTest (s : State) : State :=
  match s.scanout.panel with
  | .off => if wanted s then startPanel s else s
  | .starting => if wanted s then s else stopPanel (undoStage s.scanout.stage) s
  | .on => if wanted s then s else stopPanel .disable s
  | .stopping => s

/-! ### The PANEL slot that waits (R128, R130) -/

/-- Complete a waiting PANEL slot whose wish is `wish`. -/
def finishPanel (wish : Bool) (s : State) : State :=
  match s.exch.settingsJob with
  | none => s
  | some j =>
    if j.kind = kindPanel ∧ panelWish j.params = wish then
      completeJob j .ok 0 0 { s with exch.settingsJob := none }
    else s

/-- The panel becomes ON: the source is decided, the Light Controller learns of it, a PANEL ON completes (R124, R128). -/
def panelOn (s : State) : State := finishPanel true (recompute (decideSource (restPanel .on s)))

/-- The panel becomes OFF: a PANEL OFF completes, and the wanted condition is tested again (R125, R126, R128). -/
def panelOff (s : State) : State := panelTest (finishPanel false (recompute (restPanel .off s)))

/-- The expiry of a stage timer (R124, R125). -/
def stageExpiry (s : State) : State :=
  match s.scanout.stage with
  | none => s
  | some st =>
    if dueAt s s.scanout.stageEnds then
      match st with
      | .rails => enterStage .starting .signals s
      | .signals => enterStage .starting .enable s
      | .enable => panelOn s
      | .disable => enterStage .stopping .signalsOff s
      | .signalsOff => enterStage .stopping .railsOff s
      | .railsOff => panelOff s
    else s

/-- A vertical blank start (R131); the timing generator runs only while the panel is ON. -/
def verticalBlank (s : State) : State :=
  if s.scanout.panel = .on then
    decideSource (swapWaiting { s with scanout.frame := s.scanout.frame + 1 })
  else s

end Sys2Proof.Machine
end

