-- ==== Sys2Proof/Machine/PowerManager.lean ====
section
/-! DEFINITION. The Power Manager (spec 10): supply bands, the linger timer, STANDBY and wakes. -/

namespace Sys2Proof.Machine

/-! ### The scanner's part in a change of power state (R37, R43, R45, R46) -/

/-- FAST scan starts from SLOW: integrators of STUCK positions at T_press, all others at 0, a fresh window (R43). -/
def switchToFast (s : State) : State :=
  let t := pressThreshold s
  { s with
    composer.keys := s.composer.keys.map fun k => { k with integ := if k.state = .stuck then t else 0 },
    scanner.mode := .fast, scanner.windowPasses := 0, scanner.chatter := 0, scanner.idlePasses := 0,
    scanner.passAt := now s }

/-- A SLOW pass is made at every 32nd millisecond, counted from the entry into SLOW scan (R42). -/
def slowPassDue (s : State) : Bool :=
  s.scanner.mode == .slow && now s != s.scanner.passAt && decide ((now s - s.scanner.passAt).toNat % 32 = 0)

/-- The scanner at an entry into ACTIVE (R46). From SLOW scan the first FAST pass falls in the next millisecond; where a SLOW
pass is due in this one, a FAST pass is made instead of it, so the mark of the last pass stays (log entry 18). -/
def scannerWake (s : State) : State :=
  match s.scanner.mode with
  | .slow => { switchToFast s with scanner.passAt := if slowPassDue s then s.scanner.passAt else now s }
  | .fast => { s with scanner.idlePasses := 0 }

/-! ### STANDBY (R172) and wakes (R174) -/

/-- Entry into STANDBY (R172). A PANEL slot that waits for ON completes in the same event (R130). -/
def enterStandby (s : State) : State :=
  let s1 := plainRecord .power 0 s
  let s2 := { s1 with power.standby := true, power.lingerEnds := none }
  let s3 := finishPanel true (panelTest s2)
  let s4 := recompute s3
  { s4 with scanner.idlePasses := 0 }

/-- The hand-over of a new power state or band to the Picture Engine (R118, R136). -/
def resumePictures (s : State) : State := resumeCarry (resumePicture s)

/-- A wake (R174). -/
def wake (w : WakeSource) (s : State) : State :=
  let s1 := wakeRecord w { s with power.standby := false }
  let s2 := if s1.lines.ignOn then s1 else { s1 with power.lingerEnds := some (after s1 (wakeLoad s1)) }
  let s3 := recompute (idleRestart (panelTest s2))
  scannerWake (resumePictures s3)

/-- Whether a source's own switch lets it wake (R173). -/
def wakeEnabled (w : WakeSource) (s : State) : Bool :=
  match w with
  | .dockArrival => s.power.dockWake
  | .latch => s.power.latchWake
  | _ => true

/-- A wake source handed to the Power Manager (R173). -/
def wakeSource (w : WakeSource) (s : State) : State := if s.power.standby && wakeEnabled w s then wake w s else s

/-! ### The linger timer (R170, R171) -/

/-- Qualified IGN becomes ON: the timer stops, and the part wakes from STANDBY (R170, R173). -/
def ignitionOn (s : State) : State := wakeSource .ignitionOn { s with power.lingerEnds := none }

/-- Qualified IGN becomes OFF: in ACTIVE the timer is loaded with the linger time, 0 entering STANDBY at once (R170). -/
def ignitionOff (s : State) : State :=
  if s.power.standby then s
  else if s.power.lingerMin = 0 then enterStandby s
  else { s with power.lingerEnds := some (after s (60000 * s.power.lingerMin)) }

/-- A new linger time at a running timer (R171). -/
def lingerRetime (s : State) : State :=
  match s.power.lingerEnds with
  | none => s
  | some _ =>
    if s.power.lingerMin = 0 then enterStandby s
    else { s with power.lingerEnds := some (after s (60000 * s.power.lingerMin)) }

/-- The linger timer's time left reaches 0 (R170). -/
def lingerExpiry (s : State) : State := if due s s.power.lingerEnds then enterStandby s else s

/-! ### Supply bands (R167, R168) -/

/-- The band and the recovery count a sample of `mv` millivolts gives (R167). -/
def classify (band : Band) (recovery mv : Nat) : Band × Nat :=
  match band with
  | .normal => if mv < 9000 then (.crank, 0) else if mv < 10500 then (.low, 0) else (.normal, 0)
  | .low => if mv < 9000 then (.crank, 0) else if mv < 11000 then (.low, 0) else (.normal, 0)
  | .crank => if mv < 9500 then (.crank, 0) else if recovery < 3 then (.crank, recovery + 1) else (.low, 0)

/-- The SUPPLY record of a band change, when CRANK is entered or left (R168, step 2). -/
def bandRecord (old new : Band) (s : State) : State :=
  if new = .crank then plainRecord .supply 1 s else if old = .crank then plainRecord .supply 2 s else s

/-- A sample that changes the band (R168). -/
def changeBand (new : Band) (s : State) : State :=
  let s1 := bandRecord s.power.band new { s with power.band := new }
  resumePictures (recompute s1)

/-- A supply sample at the Power Manager (R167). -/
def sample (mv : Nat) (s : State) : State :=
  let r := classify s.power.band s.power.recovery mv
  let s' := { s with power.recovery := r.2 }
  if r.1 = s.power.band then s' else changeBand r.1 s'

end Sys2Proof.Machine
end

