-- ==== Sys2Proof/Machine/KeyComposer.lean ====
section
/-! DEFINITION. The Key Composer (spec 03): press and release decisions, down time, hold and stuck keys, repeat. -/

namespace Sys2Proof.Machine

/-! ### The repeat context (R64, R65) -/

/-- Repeat stops: subject none, timer stopped, count 0. -/
def stopRepeat (s : State) : State :=
  { s with composer.subject := none, composer.repeatEnds := 0, composer.repeatCount := 0 }

/-- The key becomes the subject (R64). -/
def startRepeat (p : Fin 128) (s : State) : State :=
  { s with composer.subject := some p, composer.repeatCount := 0,
           composer.repeatEnds := after s s.profile.active.repeatDelay }

/-- What a PRESS of a key's class does to the repeat context (R65). -/
def repeatOnPress (p : Fin 128) (s : State) : State :=
  match classOf s p with
  | .repeating => startRepeat p s
  | .plain | .hold => stopRepeat s
  | .modifier _ | .none => s

/-- Repeat stops when the subject is released or goes STUCK (R65). -/
def repeatOnLeave (p : Fin 128) (s : State) : State := if s.composer.subject = some p then stopRepeat s else s

/-! ### Press decisions (R51 to R56) -/

/-- The key becomes MUTED (R52 to R54). -/
def mute (p : Fin 128) (s : State) : State := setKey p { key s p with state := .muted } s

/-- The drive case: MUTED, and a SUPPRESSED record (R53). -/
def pressSuppressed (p : Fin 128) (s : State) : State := keyRecord .suppressed p 0 0 (mute p s)

/-- The rollover case: MUTED, and a ROLLOVER record (R54). -/
def pressRollover (p : Fin 128) (s : State) : State := keyRecord .rollover p 0 0 (mute p s)

/-- The ordinary case: DOWN, into the Held Set, the repeat context, and a PRESS record (R55). -/
def pressOrdinary (p : Fin 128) (s : State) : State :=
  let s1 := setKey p { key s p with state := .down, downTime := 0, holdSeen := false } s
  let s2 := { s1 with composer.held := s1.composer.held ++ [p] }
  keyRecord .press p 0 0 (repeatOnPress p s2)

/-- Cases 2 to 4 of a press decision (R51). -/
def pressAwake (p : Fin 128) (s : State) : State :=
  if driveForbids s p then pressSuppressed p s
  else if Config.heldMax ≤ s.composer.held.length then pressRollover p s
  else pressOrdinary p s

/-- The four cases of a press decision (R51, R52). -/
def pressCases (p : Fin 128) (s : State) : State :=
  if s.power.standby && s.power.keyWake then
    let woken := wakeSource (.key p) s
    if s.power.swallow then mute p woken else pressAwake p woken
  else pressAwake p s

/-- Whether a linger expiry falls together with the KEY activity event of a press decision taken in ACTIVE (R175). -/
def expiryMeetsPress (s : State) : Bool :=
  !s.power.standby && selects s.power.lingerSources .key && due s s.power.lingerEnds

/-- The KEY activity event of a press decision already taken; `found` is the state in which the decision was taken. Where a
linger expiry falls together with it, either may be taken first (R175): the order is the free value of log entry 11. -/
def pressActivity (found : State) (s : State) : State :=
  if expiryMeetsPress found then
    let (expiryFirst, s') := takeOrder s
    if expiryFirst then activity .key (lingerExpiry s') else activity .key s'
  else activity .key s

/-- A press decision, ended by its KEY activity event (R51, R56). It finds its key UP (R33, R49). -/
def press (p : Fin 128) (s : State) : State :=
  if (key s p).state = .up then pressActivity s (pressCases p s) else s

/-! ### Release decisions (R57, R58) -/

/-- A key leaves the Held Set (R50). -/
def leaveHeld (p : Fin 128) (s : State) : State := { s with composer.held := s.composer.held.filter fun q => q != p }

/-- A release decision, by the state it finds (R49). -/
def release (p : Fin 128) (s : State) : State :=
  match (key s p).state with
  | .up => s
  | .down =>
    let s1 := leaveHeld p (setKey p { key s p with state := .up, downTime := 0 } s)
    keyRecord .release p 0 0 (repeatOnLeave p s1)
  | .muted | .stuck => setKey p { key s p with state := .up } s

/-! ### Down time, hold and stuck keys (R60 to R62) -/

/-- Where the down time of a key saturates (R60). -/
def downLimit (s : State) : Nat :=
  if s.profile.active.stuckLimit = 0 then Config.downTimeMax else s.profile.active.stuckLimit * 1000

/-- A HOLD-class key whose down time has reached the hold time builds its one HOLD record (R61). -/
def holdTest (p : Fin 128) (s : State) : State :=
  let k := key s p
  if k.state = .down ∧ classOf s p = .hold ∧ k.holdSeen = false ∧ s.profile.active.holdTime ≤ k.downTime then
    keyRecord .hold p 0 0 (setKey p { k with holdSeen := true } s)
  else s

/-- A DOWN key whose down time has reached the stuck limit goes STUCK (R62). The ALERT feed follows the table (R70). -/
def stuckTest (p : Fin 128) (s : State) : State :=
  let k := key s p
  if k.state = .down ∧ s.profile.active.stuckLimit ≠ 0 ∧ s.profile.active.stuckLimit * 1000 ≤ k.downTime then
    let s1 := leaveHeld p (setKey p { k with state := .stuck, downTime := 0 } s)
    keyRecord .release p 1 0 (repeatOnLeave p s1)
  else s

/-- One key in the advance: its down time, then R61, then R62 (R60). -/
def advanceKey (p : Fin 128) (s : State) : State :=
  let s1 := setKey p { key s p with downTime := min (downLimit s) ((key s p).downTime + 1) } s
  stuckTest p (holdTest p s1)

/-- The down-time advance, of all DOWN keys together in Held Set order (R60). -/
def advanceDownTimes (s : State) : State :=
  s.composer.held.foldl (fun s p => advanceKey p s) { s with composer.downAt := now s }

/-! ### The repeat expiry (R66) -/

/-- The expiry of the repeat timer (R66). -/
def repeatFires (s : State) : State :=
  match s.composer.subject with
  | none => s
  | some p =>
    if dueAt s s.composer.repeatEnds then
      let s1 := { s with composer.repeatCount := min (s.composer.repeatCount + 1) 65535 }
      let s2 := keyRecord .repeating p 0 (BitVec.ofNat 16 s1.composer.repeatCount) s1
      { s2 with composer.repeatEnds := after s2 s2.profile.active.repeatPeriod }
    else s

end Sys2Proof.Machine
end

