-- ==== Sys2Proof/Machine/ProfileUnit.lean ====
section
/-! DEFINITION. The Profile Unit (spec 05): the take of a PROFILE slot, the quiet test and the swap, and the other ends of
a staged profile. -/

namespace Sys2Proof.Machine

/-- The 416 used bytes of the image at an offset of the Profile Area (R93). -/
def profileImage (offset : Nat) (s : State) : List Byte := s.mem.reads (Config.profileBase + offset) 416

/-- The offsets at which the Profile Area holds an image (R93). -/
def validImageOffset (offset : Nat) : Bool := offset == 0 || offset == 512 || offset == 1024 || offset == 1536

/-- A PROFILE request ends at the take with BAD_PARAM (R93). -/
def profileFails (j : Job) (s : State) : State := completeJob j .badParam 0 0 s

/-- The take of a PROFILE slot (R93): offset, copy, classes, numbers, staging. -/
def takeProfile (j : Job) (s : State) : State :=
  let offset := profileImageOffset j.params
  if validImageOffset offset = false then profileFails j s
  else
    let image := profileImage offset s
    match imageClasses image with
    | none => profileFails j s
    | some classes =>
      let limit := profileWaitLimit j.params
      { s with
        profile.job := some j,
        profile.staged := some ⟨imageProfile image classes, imageClamped image limit, after s (waitStaged limit)⟩ }

/-- The staged profile leaves by a completion of its slot (R98 step 4, R100, R101). -/
def finishProfile (code : ResultCode) (s : State) : State :=
  match s.profile.staged, s.profile.job with
  | some st, some j =>
    completeJob j code (clampedFlag st.clamped) 0 { s with profile.staged := none, profile.job := none }
  | _, _ => s

/-- The integrator of a position at a swap, with its class before and after: a position taken out of NONE starts from 0,
and any other is clamped to the new T_press (R41). -/
def swapInteg (t : Nat) (before after : KeyClass) (i : Nat) : Nat :=
  if before = .none ∧ after ≠ .none then 0 else min i t

/-- What a swap does in the scanner, `old` being the profile that it replaces (R41): V, and the integrators. -/
def scannerSwap (old : Profile) (s : State) : State :=
  let new := s.profile.active
  let v := if new.adaptation then s.scanner.vib else 0
  let integ := fun i => swapInteg (new.pressBase + v) (old.classes.getD i .plain) (new.classes.getD i .plain)
  { s with
    scanner.vib := v, composer.keys := mapFrom (fun i k => { k with integ := integ i k.integ }) 0 s.composer.keys }

/-- The swap (R98): the active profile with its effects (R41, R72), the PROFILE record, the completion. -/
def swapProfile (st : Staged) (s : State) : State :=
  let s1 := stopRepeat (scannerSwap s.profile.active { s with profile.active := st.profile })
  finishProfile .ok (plainRecord .profile st.profile.tag s1)

/-- The quiet test at a pass boundary (R97). -/
def quietTest (s : State) : State :=
  match s.profile.staged with
  | none => s
  | some st => if quiet s then swapProfile st s else s

/-- The wait timer runs out (R100). -/
def profileExpiry (s : State) : State :=
  match s.profile.staged with
  | none => s
  | some st => if dueAt s st.ends then finishProfile .keysHeld s else s

/-- A session end abandons the staged profile (R103). -/
def abandonProfile (s : State) : State := { s with profile.staged := none, profile.job := none }

end Sys2Proof.Machine
end

