-- ==== Sys2Proof/Machine/MatrixScanner.lean ====
section
/-! DEFINITION. The Matrix Scanner (spec 02): samples and ghost masking, integrators and decisions, chatter and the
vibration level, FAST and SLOW passes. -/

namespace Sys2Proof.Machine

/-! ### Samples (R27, R29, R30, R180) -/

/-- The raw samples of a pass, bit p set for a closed one, from the levels it read: a sense line that reads low while its
drive line is driven gives a closed raw sample (R27, R180). A sense line broken open reads high under every drive line,
a drive line shorted low has all its sixteen levels low (R180). -/
def rawOfLevels (levels : BitVec 128) : BitVec 128 := ~~~levels

/-- Whether three other closed raw samples complete a rectangle with a position (R30). -/
def ghosted (raw : BitVec 128) (p : Nat) : Bool :=
  let d := p / 16
  let c := p % 16
  (List.range 8).any fun d' =>
    d' != d && raw.getLsbD (d' * 16 + c) &&
      (List.range 16).any fun c' => c' != c && raw.getLsbD (d * 16 + c') && raw.getLsbD (d' * 16 + c')

/-- The sample of a position for a pass: closed or open (R29, R30). -/
def sampleOf (raw : BitVec 128) (cls : KeyClass) (st : KeyState) (p : Nat) : Bool :=
  if cls = .none then false
  else if raw.getLsbD p then (if st = .up then !ghosted raw p else true)
  else false

/-- The samples of a pass, in ascending position order. -/
def samples (raw : BitVec 128) (s : State) : List Bool :=
  mapFrom (fun i k => sampleOf raw (s.profile.active.classes.getD i .plain) k.state i) 0 s.composer.keys

/-! ### Integrators and decisions (R32 to R34) -/

/-- The integrator update (R32). -/
def integrate (t : Nat) (closed : Bool) (i : Nat) : Nat := if closed then min t (i + 1) else i - 1

/-- The table with every integrator updated. -/
def integrated (t : Nat) (closed : List Bool) (keys : List KeyRec) : List KeyRec :=
  mapFrom (fun i k => { k with integ := integrate t (closed.getD i false) k.integ }) 0 keys

/-- A press decision: UP and at or above T_press (R33). -/
def pressDue (t : Nat) (k : KeyRec) : Bool := k.state == .up && decide (t ≤ k.integ)

/-- A release decision: not UP and at or below Rb (R34). -/
def releaseDue (rb : Nat) (k : KeyRec) : Bool := k.state != .up && decide (k.integ ≤ rb)

/-- The decisions of a pass (R35). -/
def releases (rb : Nat) (keys : List KeyRec) : List (Fin 128) := positions.filter fun p => releaseDue rb (keyOf keys p)
def presses (t : Nat) (keys : List KeyRec) : List (Fin 128) := positions.filter fun p => pressDue t (keyOf keys p)

/-- Hand the decisions over: all releases, then all presses, each in ascending position order (R35). -/
def handDecisions (rel pre : List (Fin 128)) (s : State) : State :=
  pre.foldl (fun s p => press p s) (rel.foldl (fun s p => release p s) s)

/-! ### Chatter and the window (R36 to R40) -/

/-- Whether a position chatters in a pass: the sample changed while the integrator from before the update lay strictly
between Rb and T_press; a NONE position does not (R29, R36). -/
def chatters (rb t : Nat) (cls : KeyClass) (closed : Bool) (k : KeyRec) : Bool :=
  cls != .none && closed != k.prev && decide (rb < k.integ) && decide (k.integ < t)

/-- How many positions chatter in a pass; `keys` is the table from before the pass. -/
def chatterCount (rb t : Nat) (closed : List Bool) (classes : List KeyClass) (keys : List KeyRec) : Nat :=
  ((mapFrom (fun i k => chatters rb t (classes.getD i .plain) (closed.getD i false) k) 0 keys).filter id).length

/-- Each previous sample is replaced by the sample of this pass (R28, R42). -/
def storeSamples (closed : List Bool) (s : State) : State :=
  { s with composer.keys := mapFrom (fun i k => { k with prev := closed.getD i false }) 0 s.composer.keys }

/-- The new V at a window end (R38, R40). -/
def nextVib (adaptation : Bool) (v c : Nat) : Nat :=
  if adaptation then
    let raw := min 8 (c / 4)
    if v < raw then raw else if raw < v then v - 1 else v
  else 0

/-- A window end: V, the clamp of the integrators, C (R38 to R40). The next window begins with its count at 0 (R37). -/
def endWindow (s : State) : State :=
  let v := nextVib s.profile.active.adaptation s.scanner.vib s.scanner.chatter
  let t := s.profile.active.pressBase + v
  { s with
    scanner.vib := v, scanner.chatter := 0, scanner.windowPasses := 0,
    composer.keys := s.composer.keys.map fun k => { k with integ := min k.integ t } }

/-- Whether the pass just counted was the 64th of its window (R37). -/
def windowFull (s : State) : Bool := decide (Config.windowPasses ≤ s.scanner.windowPasses)

/-- Step 6 of a FAST pass: window accounting (R28). -/
def countWindow (s : State) : State :=
  let s' := { s with scanner.windowPasses := s.scanner.windowPasses + 1 }
  if windowFull s' then endWindow s' else s'

/-! ### Idle accounting and SLOW scan (R45) -/

/-- Entry into SLOW scan (R45). -/
def enterSlow (s : State) : State :=
  { s with
    scanner.mode := .slow, scanner.vib := 0, scanner.chatter := 0, scanner.windowPasses := 0, scanner.passAt := now s,
    composer.keys := s.composer.keys.map fun k => { k with integ := 0 } }

/-- Whether the scan is due to go SLOW: FAST in STANDBY with 2000 idle passes (R45). -/
def slowDue (s : State) : Bool :=
  s.power.standby && s.scanner.mode == .fast && decide (Config.idleLimit ≤ s.scanner.idlePasses)

/-- Step 7 of a FAST pass: idle accounting in STANDBY (R28, R45). -/
def countIdle (s : State) : State :=
  if s.power.standby then
    let s' := { s with scanner.idlePasses := if quiet s then s.scanner.idlePasses + 1 else 0 }
    if slowDue s' then enterSlow s' else s'
  else s

/-! ### Passes (R28, R42) -/

/-- Steps 1 to 5 of a FAST pass (R28). -/
def fastPassDecide (raw : BitVec 128) (s : State) : State :=
  let t := pressThreshold s
  let rb := s.profile.active.releaseBase
  let closed := samples raw s
  let keys := integrated t closed s.composer.keys
  let c := chatterCount rb t closed s.profile.active.classes s.composer.keys
  let s1 := { s with composer.keys := keys, scanner.passAt := now s, scanner.driven := true }
  let s2 := handDecisions (releases rb keys) (presses t keys) s1
  storeSamples closed { s2 with scanner.chatter := min 255 (s2.scanner.chatter + c) }

/-- A FAST pass, whole, with the quiet test at its boundary (R28, R97). -/
def fastPass (raw : BitVec 128) (s : State) : State := quietTest (countIdle (countWindow (fastPassDecide raw s)))

/-- A FAST pass is made at each millisecond in FAST scan (R28). -/
def fastDue (s : State) : Bool := s.scanner.mode == .fast && now s != s.scanner.passAt

/-- The switch test of a SLOW pass: a closed sample at an UP position (R43). -/
def switchTest (closed : List Bool) (keys : List KeyRec) : Bool :=
  (mapFrom (fun i k => closed.getD i false && k.state == .up) 0 keys).any id

/-- The STUCK positions that a SLOW pass finds open (R44). -/
def stuckOpen (closed : List Bool) (keys : List KeyRec) : List (Fin 128) :=
  positions.filter fun p => (keyOf keys p).state == .stuck && !(closed.getD p.val false)

/-- The boundary of a SLOW pass: the switch to FAST and the quiet test. When both act, either may be taken first (R99):
the order is the free value of log entry 11. -/
def slowBoundary (switch : Bool) (s : State) : State :=
  if switch then
    if s.profile.staged.isSome && quiet s then
      let (swapFirst, s') := takeOrder s
      if swapFirst then switchToFast (quietTest s') else quietTest (switchToFast s')
    else quietTest (switchToFast s)
  else quietTest s

/-- A SLOW pass, whole (R42 to R44, R97). -/
def slowPass (raw : BitVec 128) (s : State) : State :=
  let closed := samples raw s
  let switch := switchTest closed s.composer.keys
  let s1 := { s with scanner.passAt := now s, scanner.driven := true }
  let s2 := (stuckOpen closed s.composer.keys).foldl (fun s p => release p s) s1
  slowBoundary switch (storeSamples closed s2)

end Sys2Proof.Machine
end

