-- ==== Sys2Proof/Machine/Contexts.lean ====
section
/-! DEFINITION. The SETTINGS context's takes, the Post Queue as arbiter over the three contexts (R14 to R18), posting and
cancelling (R9 to R11). -/

namespace Sys2Proof.Machine

/-! ### The SETTINGS context (R18, R128, R144, R152, R164) -/

/-- The VEHICLE settings, each at its block (R164). -/
def vehicleSettings (ps : List Byte) (s : State) : State :=
  { s with
    lines.parkTime := vehicleParkTime ps,
    power.lingerMin := vehicleLinger ps,
    power.lingerSources := vehicleSources ps,
    scanout.driveBlanking := vehicleSwitch ps 0,
    power.keyWake := vehicleSwitch ps 1,
    power.swallow := vehicleSwitch ps 2,
    power.dockWake := vehicleSwitch ps 3,
    power.latchWake := vehicleSwitch ps 4 }

/-- Apply a VEHICLE request: its settings, then what the new linger time does to a running timer (R164, R171). -/
def applyVehicle (ps : List Byte) (s : State) : State := lingerRetime (vehicleSettings ps s)

/-- The take of a LIGHT slot (R144). -/
def takeLight (j : Job) (s : State) : State :=
  if lightValid j.params then
    applyLight (lightSettings j.params)
      { s with exch.settingsJob := some { j with flags := clampedFlag (lightClamped j.params) } }
  else completeJob j .badParam 0 0 s

/-- The take of an INDICATORS slot (R152). -/
def takeIndicators (j : Job) (s : State) : State :=
  applyIndicators (indicatorsSet j.params) (indicatorsClear j.params) { s with exch.settingsJob := some j }

/-- The take of a VEHICLE slot (R164). -/
def takeVehicle (j : Job) (s : State) : State :=
  applyVehicle j.params { s with exch.settingsJob := some { j with flags := clampedFlag (vehicleClamped j.params) } }

/-- Whether the panel is already where a wish wants it (R128). -/
def panelSettled (wish : Bool) (s : State) : Bool := s.scanout.panel == (if wish then PanelState.on else .off)

/-- The wish is stored; a PANEL ON in STANDBY is the tablet's own wake (R128, R129). -/
def applyWish (wish : Bool) (s : State) : State :=
  let s' := { s with scanout.wish := wish }
  if wish && s.power.standby then wakeSource .host s' else panelTest s'

/-- The take of a PANEL slot: DONE at once, or it waits for the panel (R128). -/
def takePanel (j : Job) (s : State) : State :=
  let wish := panelWish j.params
  let s' := applyWish wish s
  if panelSettled wish s' then completeJob j .ok 0 0 s' else { s' with exch.settingsJob := some j }

/-- The take of a SETTINGS slot by its kind; an unknown kind fails with BAD_KIND (R18). -/
def takeSettings (j : Job) (s : State) : State :=
  if j.kind = kindIndicators then takeIndicators j s
  else if j.kind = kindLight then takeLight j s
  else if j.kind = kindVehicle then takeVehicle j s
  else if j.kind = kindPanel then takePanel j s
  else completeJob j .badKind 0 0 s

/-- The following event at the SETTINGS context (R13). -/
def settingsComplete (s : State) : State :=
  match s.exch.settingsJob with
  | none => s
  | some j => if completesLater j.kind then completeJob j .ok j.flags 0 { s with exch.settingsJob := none } else s

/-! ### Eligible slots (R15, R16) -/

/-- The picture slots up to and including the first PRESENT (R16). -/
def pictureEligible : List Entry → List Entry
  | [] => []
  | e :: q =>
    if isPictureKind e.kind then (if e.kind = kindPresent then [e] else e :: pictureEligible q) else pictureEligible q

/-- The first URGENT entry, or with none the first entry (R15). -/
def firstChoice (q : List Entry) : Option Entry := (q.find? Entry.urgent).or q.head?

def nextPicture (s : State) : Option Entry := firstChoice (pictureEligible s.exch.queue)
def nextProfile (s : State) : Option Entry := firstChoice (s.exch.queue.filter fun e => isProfileKind e.kind)
def nextSettings (s : State) : Option Entry := firstChoice (s.exch.queue.filter fun e => isSettingsKind e.kind)

/-- A context is free when it holds no slot and the work it abandoned has stopped (R15). -/
def pictureFree (s : State) : Bool := s.picture.job.isNone && s.picture.work == .free && s.scanout.carry.isNone
def profileFree (s : State) : Bool := s.profile.job.isNone
def settingsFree (s : State) : Bool := s.exch.settingsJob.isNone

/-- The PICTURE context is held in STANDBY and until clearing has ended (R17). -/
def pictureHeld (s : State) : Bool := s.power.standby || s.frames.clearing

/-! ### Taking (R15) -/

/-- A slot leaves the Post Queue (R14). -/
def unqueue (k : Fin 16) (s : State) : State := { s with exch.queue := s.exch.queue.filter fun e => e.slot != k }

/-- What a context takes with a slot: its captured bytes and a copy of its parameters (R15, step 3). -/
def jobOf (e : Entry) (s : State) : Job := ⟨e.slot, e.kind, e.notify, slotParams s e.slot, 0⟩

/-- The slot leaves the queue and its state word becomes ACTIVE (R15, steps 1 and 2). -/
def activate (e : Entry) (s : State) : State := setSlotState e.slot .active (unqueue e.slot s)

/-- The take by the PICTURE context. -/
def takeByPicture (e : Entry) (s : State) : State :=
  let s' := activate e s
  if e.kind = kindPresent then takePresent (jobOf e s) s' else takePicture (jobOf e s) (e.kind == kindFill) s'

def takeByProfile (e : Entry) (s : State) : State := takeProfile (jobOf e s) (activate e s)
def takeBySettings (e : Entry) (s : State) : State := takeSettings (jobOf e s) (activate e s)

/-- The take that is open to a context now, if any. -/
def settingsTake (s : State) : Option State :=
  if settingsFree s then (nextSettings s).map fun e => takeBySettings e s else none
def pictureTake (s : State) : Option State :=
  if pictureFree s && !pictureHeld s then (nextPicture s).map fun e => takeByPicture e s else none
def profileTake (s : State) : Option State :=
  if profileFree s then (nextProfile s).map fun e => takeByProfile e s else none

/-- One take, by the first context that is free and has an eligible slot. -/
def oneTake (s : State) : Option State := ((settingsTake s).or (pictureTake s)).or (profileTake s)

/-- The contexts look at the queue until none of them can take a slot (log entry 10). -/
def lookFor : (fuel : Nat) → State → State
  | 0, s => s
  | fuel + 1, s =>
    match oneTake s with
    | none => s
    | some s' => lookFor fuel s'

/-- The contexts look at the queue at the end of an event (R15). A take removes a slot, so the queue's length bounds the
takes. -/
def look (s : State) : State := lookFor s.exch.queue.length s

/-! ### Writes to a slot's state word (R9 to R11) -/

/-- The result fields a POST zeroes, its post number, and POSTED (R9, steps 2 to 4). -/
def postedRec (n : Word) : SlotRec := { SlotRec.zero with state := .posted, postNo := n }

/-- The queue entry of a POST, from the slot's bytes as they stand (R9, step 1). -/
def entryOf (k : Fin 16) (s : State) : Entry :=
  let o := slotOffset k
  ⟨k, s.mem.read (o + 4), s.mem.read (o + 5) == 1, s.mem.read (o + 6) != 0⟩

/-- Posting, before the contexts look (R9). -/
def postSlot (k : Fin 16) (s : State) : State :=
  let s' := setSlot k (postedRec s.exch.nextPost) s
  { s' with exch.nextPost := s.exch.nextPost + 1, exch.queue := s.exch.queue ++ [entryOf k s] }

/-- A write of POST (R9). -/
def postWrite (k : Fin 16) (s : State) : State :=
  if s.exch.sessionOpen = true ∧ (slot s k).state = .free then look (postSlot k s) else refuse (slotOffset k) s

/-- A cancel of a POSTED slot (R10). -/
def cancelPosted (k : Fin 16) (s : State) : State :=
  let notify := match s.exch.queue.find? fun e => e.slot == k with | none => false | some e => e.notify
  complete k notify .cancelled 0 0 (unqueue k s)

/-- Whether a context's job is the slot `k`. -/
def holds (j : Option Job) (k : Fin 16) : Bool := match j with | none => false | some j => j.slot == k

/-- What becomes at once of a COPY, FILL or PRESENT slot that has just become CANCELLING (R13, R119, R137). -/
def cancelPicture (s : State) : State :=
  if s.scanout.waiting.isSome then
    match s.picture.job with
    | none => s
    | some j => completeJob j .cancelled 0 0 { s with picture.job := none, scanout.waiting := none }
  else if s.picture.work = .paused then finishPicture .cancelled s
  else s

/-- What becomes at once of a SETTINGS slot that has just become CANCELLING: a waiting PANEL ends (R13, R130). -/
def cancelSettings (s : State) : State :=
  match s.exch.settingsJob with
  | none => s
  | some j => if j.kind = kindPanel then completeJob j .cancelled 0 0 { s with exch.settingsJob := none } else s

/-- A cancel of an ACTIVE slot, at the context that holds it (R10, R13). -/
def cancelActive (k : Fin 16) (s : State) : State :=
  let s' := setSlotState k .cancelling s
  if holds s.picture.job k then cancelPicture s'
  else if holds s.profile.job k then finishProfile .cancelled s'
  else if holds s.exch.settingsJob k then cancelSettings s'
  else s'

/-- A write of CANCEL (R10, R11). -/
def cancelWrite (k : Fin 16) (s : State) : State :=
  if s.exch.sessionOpen = false then refuse (slotOffset k) s
  else
    match (slot s k).state with
    | .free => refuse (slotOffset k) s
    | .posted => look (cancelPosted k s)
    | .active => look (cancelActive k s)
    | .cancelling | .done | .failed | .cancelled => s

/-- A write of FREE (R11). -/
def freeWrite (k : Fin 16) (s : State) : State :=
  if s.exch.sessionOpen = false then refuse (slotOffset k) s
  else
    match (slot s k).state with
    | .done | .failed | .cancelled => setSlotState k .free s
    | .free | .posted | .active | .cancelling => refuse (slotOffset k) s

end Sys2Proof.Machine
end

