-- ==== Sys2Proof/Machine/SessionControl.lean ====
section
/-! DEFINITION. The session (R5 to R8), the words of the Exchange Memory by kind (R2), and the tablet's writes (R1, R3). -/

namespace Sys2Proof.Machine

/-! ### Opening and ending (R5 to R8) -/

/-- The exchange in its opening state (R6), before the RESYNC group. DESIGN CHOICE: past 2^32 - 1 the session number wraps
to 0, which the spec leaves open (log entry 38). -/
def openExchange (s : State) : State :=
  { s with
    exch.sessionOpen := true, exch.sessionNo := s.exch.sessionNo + 1, exch.refused := 0, exch.lastRefused := 0,
    exch.nextPost := 0, exch.attention := 0, scanout.presented := false }

/-- A session opens (R6, R87). -/
def openSession (s : State) : State := journalOpen (openExchange s)

/-- The contexts abandon their slots (R8, step 2). -/
def abandonWork (s : State) : State :=
  let s1 := abandonProfile (abandonPresent (abandonPicture s))
  { s1 with exch.settingsJob := none }

/-- An OPEN session ends (R8). -/
def closeSession (s : State) : State :=
  let s1 := abandonWork (freeSlots { s with exch.queue := [] })
  { s1 with exch.attention := 0, scanout.presented := false, exch.sessionOpen := false }

/-- An event of R7: it ends an OPEN session and has no effect on a CLOSED one. -/
def endSession (s : State) : State := if s.exch.sessionOpen then closeSession s else s

/-- A write to the session word (R5). -/
def sessionWrite (v : Word) (s : State) : State :=
  if v = 1 then
    if s.exch.sessionOpen then s else if s.lines.docked then openSession s else refuse 0x0004 s
  else if v = 2 then endSession s
  else refuse 0x0004 s

/-! ### The kinds of word (R2) -/

/-- The guarded words (R2). -/
inductive Guarded where
  | session | taken | mark | acknowledge
  | slotState (slot : Fin 16)
  deriving DecidableEq, Repr

/-- What a tablet write to a word does (R2). -/
inductive WordKind where
  | plain | partOwned | unused
  | guarded (word : Guarded)
  deriving DecidableEq, Repr

/-- The kind of the header word at an offset below 0x0100 (R2, section 1.8.1). -/
def headerKind (o : Nat) : WordKind :=
  if o = 0x04 then .guarded .session
  else if o = 0x10 then .guarded .taken
  else if o = 0x14 then .guarded .mark
  else if o = 0x24 then .guarded .acknowledge
  else if 0x44 ≤ o then .unused
  else .partOwned

/-- The kind of a word of a slot record, `o` counted from the start of slot `k` (R2, section 1.8.2). -/
def slotWordKind (k : Fin 16) (o : Nat) : WordKind :=
  if o = 0 then .guarded (.slotState k) else if o = 4 ∨ 0x1C ≤ o then .plain else .partOwned

/-- The kind of the word at an offset that is a multiple of 4 (R1, R2). -/
def wordKind (o : Nat) : WordKind :=
  if o < Config.slotBase then headerKind o
  else if o < Config.journalBase then
    slotWordKind (Fin.ofNat 16 ((o - Config.slotBase) / 64)) ((o - Config.slotBase) % 64)
  else if o < Config.profileBase then .partOwned
  else .plain

/-! ### Tablet writes -/

/-- A write to Attention Acknowledge (R19). -/
def ackWrite (v : Word) (s : State) : State := if s.exch.sessionOpen then acknowledge v s else s

/-- A write to a slot state word, by its value (R9 to R11). -/
def slotStateWrite (k : Fin 16) (v : Word) (s : State) : State :=
  if v = 0 then freeWrite k s
  else if v = 1 then postWrite k s
  else if v = 8 then cancelWrite k s
  else refuse (slotOffset k) s

/-- A 32-bit write to a guarded word: a request to its owner (R2). -/
def guardedWrite (g : Guarded) (v : Word) (s : State) : State :=
  match g with
  | .session => sessionWrite v s
  | .taken => takenWrite v s
  | .mark => markWrite v s
  | .acknowledge => ackWrite v s
  | .slotState k => slotStateWrite k v s

/-- The offset of the word with an index. -/
def offsetOf (word : BitVec 14) : Nat := 4 * word.toNat

/-- A tablet write of one word of the Exchange Memory, with the byte enables it carries (R1, R2). -/
def exchangeWrite (word : BitVec 14) (be : BitVec 4) (v : Word) (s : State) : State :=
  match wordKind (offsetOf word) with
  | .plain => { s with mem := s.mem.writeWord (offsetOf word) be v }
  | .partOwned => refuse (offsetOf word) s
  | .unused => s
  | .guarded g => if be = 0xF then guardedWrite g v s else refuse (offsetOf word) s

/-! ### From a PCIe write to commands (R1) -/

/-- The command that a 32-bit write of a value to a guarded word is, where the table has a row for it. -/
def guardedCommand (g : Guarded) (v : Word) : Option Instr :=
  match g with
  | .session => if v = 1 then some .sessionOpen else if v = 2 then some .sessionClose else none
  | .taken => some (.journalTakenWrite v)
  | .mark => some (.notifyMarkWrite v)
  | .acknowledge => some (.attentionAcknowledge v)
  | .slotState k =>
    if v = 0 then some (.free k) else if v = 1 then some (.post k) else if v = 8 then some (.cancel k) else none

/-- The row of the table that a tablet write of one word belongs to. -/
def commandOfWrite (word : BitVec 14) (be : BitVec 4) (v : Word) : Instr :=
  match wordKind (offsetOf word) with
  | .guarded g =>
    if be = 0xF then (guardedCommand g v).getD (.exchangeMemoryWrite word be v) else .exchangeMemoryWrite word be v
  | _ => .exchangeMemoryWrite word be v

/-- A PCIe memory write of several words is one write per word, in ascending address order (R1). -/
def commandsOfBurst : BitVec 14 → List (BitVec 4 × Word) → List Instr
  | _, [] => []
  | word, (be, v) :: rest => commandOfWrite word be v :: commandsOfBurst (word + 1) rest

end Sys2Proof.Machine
end

