-- ==== Sys2Proof/Machine/LineQualifier.lean ====
section
/-! DEFINITION. The Line Qualifier (spec 09): edges and expiries, drive mode, presence and latch. -/

namespace Sys2Proof.Machine

/-! ### The lines -/

/-- The electrical level at the input of a line. -/
def levelAt (l : LineLevels) : Line → Bool
  | .ign => l.ign
  | .park => l.park
  | .presence => l.presence
  | .latch => l.latch

def putLevel (l : LineLevels) (line : Line) (high : Bool) : LineLevels :=
  match line with
  | .ign => { l with ign := high }
  | .park => { l with park := high }
  | .presence => { l with presence := high }
  | .latch => { l with latch := high }

/-- The qualified level of a line: ON, ENGAGED, DOCKED, OPEN. -/
def qualified (l : Lines) : Line → Bool
  | .ign => l.ignOn
  | .park => l.parkEngaged
  | .presence => l.docked
  | .latch => l.latchOpen

/-- The qualification timer of a line. -/
def lineTimer (l : Lines) : Line → Option Word
  | .ign => l.ignEnds
  | .park => l.parkEnds
  | .presence => l.presenceEnds
  | .latch => l.latchEnds

def setLineTimer (line : Line) (t : Option Word) (s : State) : State :=
  match line with
  | .ign => { s with lines.ignEnds := t }
  | .park => { s with lines.parkEnds := t }
  | .presence => { s with lines.presenceEnds := t }
  | .latch => { s with lines.latchEnds := t }

/-- The qualification time of a line, in ms (R155). -/
def lineTime (s : State) : Line → Nat
  | .ign => 200
  | .park => s.lines.parkTime
  | .presence => 50
  | .latch => 50

/-! ### Edges (R155, R179) -/

/-- The level at an input changes. While the part is held in reset an edge reaches no timer (R179). -/
def lineEdge (line : Line) (high : Bool) (s : State) : State :=
  if levelAt s.lines.levels line = high then s
  else
    let s' := { s with lines.levels := putLevel s.lines.levels line high }
    if s.power.held then s' else setLineTimer line (some (after s (lineTime s line))) s'

/-! ### Drive mode (R157) -/

/-- Drive mode as the qualified levels give it. -/
def derivedDrive (s : State) : Bool := s.lines.ignOn && !s.lines.parkEngaged

/-- Derive drive mode; a change is stored, recorded and handed to the blocks that use it (R157). -/
def deriveDrive (s : State) : State :=
  let d := derivedDrive s
  if d = s.lines.drive then s
  else recompute (plainRecord .vehicle (if d then 3 else 4) { s with lines.drive := d })

/-! ### Changes of the qualified levels (R158 to R163) -/

/-- A change of qualified IGN (R158). -/
def ignChange (on : Bool) (s : State) : State :=
  let s1 := plainRecord .vehicle (if on then 1 else 2) { s with lines.ignOn := on }
  let s2 := deriveDrive s1
  activity .vehicle (if on then ignitionOn s2 else ignitionOff s2)

/-- A change of qualified PARK (R159). -/
def parkChange (engaged : Bool) (s : State) : State :=
  activity .vehicle (deriveDrive { s with lines.parkEngaged := engaged })

/-- A dock arrival (R161) or departure (R162). -/
def presenceChange (docked : Bool) (s : State) : State :=
  let s1 := { s with lines.docked := docked }
  if docked then wakeSource .dockArrival s1 else endSession s1

/-- A change of qualified LATCH (R163). -/
def latchChange (opened : Bool) (s : State) : State :=
  let s1 := plainRecord .latch (if opened then 1 else 2) { s with lines.latchOpen := opened }
  if opened then wakeSource .latch s1 else s1

/-- The rule of each line for a change of its qualified level. -/
def lineChange (line : Line) (level : Bool) (s : State) : State :=
  match line with
  | .ign => ignChange level s
  | .park => parkChange level s
  | .presence => presenceChange level s
  | .latch => latchChange level s

/-- The expiry of a line's qualification timer (R155). -/
def lineExpiry (line : Line) (s : State) : State :=
  if due s (lineTimer s.lines line) then
    let s' := setLineTimer line none s
    let level := lineLevel s.lines.levels line
    if level = qualified s.lines line then s' else lineChange line level s'
  else s

end Sys2Proof.Machine
end

