-- ==== Sys2Proof/Machine/Measurement.lean ====
section
/-! DEFINITION. The Measurement Unit (spec 08, R139 to R142) and the light tick's and idle timer's due times. -/

namespace Sys2Proof.Machine

/-- A due time of the converter: a multiple of 8 ms, once, with no conversion in progress (R139). -/
def conversionIsDue (s : State) : Bool :=
  onGrid s 8 && s.measure.dueAt != some (now s) && s.measure.converting == .none

/-- A supply conversion starts; at a multiple of 64 ms an ambient conversion is marked pending (R139). -/
def startConversion (s : State) : State :=
  { s with
    measure.dueAt := some (now s), measure.converting := .supply,
    measure.ambientPending := s.measure.ambientPending || onGrid s 64 }

/-- Millivolts of a supply code (section 8.1). -/
def millivoltsOf (code : BitVec 10) : Nat := code.toNat * 20

/-- A pending ambient conversion starts at the supply conversion's completion (R139). -/
def afterSupply (s : State) : State :=
  { s with
    measure.converting := if s.measure.ambientPending then .ambient else .none, measure.ambientPending := false }

/-- The completion of a supply conversion: the word, then the sample (R140). -/
def supplyDone (code : BitVec 10) (s : State) : State :=
  afterSupply (sample (millivoltsOf code) { s with measure.millivolts := BitVec.ofNat 16 (millivoltsOf code) })

/-- The ambient history with a new code (R141, step 1). -/
def nextHistory (history : List (BitVec 10)) (code : BitVec 10) : List (BitVec 10) :=
  if history = [] then [code, code, code, code] else history.drop 1 ++ [code]

/-- Floor of the mean of the four codes (R141, step 2). -/
def averageOf (history : List (BitVec 10)) : Nat := (history.foldl (fun acc c => acc + c.toNat) 0) / 4

/-- The completion of an ambient conversion (R141). -/
def ambientDone (code : BitVec 10) (s : State) : State :=
  let h := nextHistory s.measure.history code
  recompute { s with measure.history := h, measure.converting := .none, light.ambient := averageOf h }

/-- A tick of the Light Controller falls at every multiple of 16 ms (R147). -/
def tickIsDue (s : State) : Bool := onGrid s 16 && s.light.tickAt != some (now s)

/-- A tick (R147). -/
def lightTick (s : State) : State := if tickIsDue s then tickStep { s with light.tickAt := some (now s) } else s

/-- The idle timer's time left reaches 0 (R149). -/
def idleExpiry (s : State) : State :=
  if s.light.idle = .running ∧ dueAt s s.light.idleEnds = true then recompute { s with light.idle := .dimmed } else s

end Sys2Proof.Machine
end

