-- ==== Sys2Proof/Machine/Starts.lean ====
section
/-! DEFINITION. Part starts (R23, R24, R91, R122, R138, R142, R153, R165, R176, R177), the survival comparator (R169) and
the link events (R25). -/

namespace Sys2Proof.Machine

/-! ### Cold start and supply dip reset -/

/-- The state every block takes at a cold start and at a supply dip reset alike; the queue of commands, the count of
messages and the free-value counter belong to the model and go on. -/
def freshStart (levels : LineLevels) (s : State) : State :=
  { State.reset with
    pending := s.pending, freeCount := s.freeCount, link.messages := s.link.messages, lines := Lines.start levels }

/-- The part held in a cold start's power-up, before the start (R178); it stands for no event of the table. -/
def poweringUp (levels : LineLevels) : State :=
  { State.reset with lines := Lines.start levels, link.up := false, power.held := true, power.poweringUp := true }

/-- A cold start with these levels at the line inputs (R176). -/
def coldStart (levels : LineLevels) (s : State) : State := freshStart levels s

/-- The regions that a supply dip reset and a function reset keep: Key Journal, Profile Area, Staging Area; the Slot Array
becomes all zero (R24). -/
def keptMemory (s : State) : Memory := s.mem.clear 0 Config.journalBase

/-- The start that follows a trip of the survival comparator (R169, R176, R177). -/
def dipStart (s : State) : State :=
  let s' := freshStart s.lines.levels s
  { s' with
    mem := keptMemory s,
    power.startCause := .supplyDip, power.prior := s.power.captured, power.dipCount := min (s.power.dipCount + 1) 255 }

/-- The power state as the start record shows it (R176). -/
def priorOf (s : State) : PriorPower := if s.power.standby then .standby else .active

/-- The comparator trips: the power state is captured, the session ends, every block stops, the link is left, and the part
is held in reset (R169). -/
def trip (s : State) : State :=
  let s1 := endSession s
  { s1 with
    power.captured := priorOf s, power.held := true, power.poweringUp := false, link.up := false,
    picture := Picture.start, scanout.waiting := none, scanout.carry := none }

/-! ### Function reset (R23) -/

/-- The link, exchange and journal of a function reset: PCIe configuration kept, the rest as after a start (R23, R24). -/
def exchangeReset (s : State) : State :=
  { s with mem := keptMemory s, link.intEnable := false, exch := Exchange.start, journal := Journal.start }

/-- The key path of a function reset (R47, R71, R91). -/
def keyPathReset (s : State) : State :=
  { s with
    scanner := { Scanner.start with passAt := now s, driven := s.scanner.driven },
    composer := { Composer.start with downAt := now s },
    profile := ProfileUnit.start }

/-- Conversions and VEHICLE settings of a function reset (R142, R165, R177). -/
def settingsReset (s : State) : State :=
  { s with
    measure.converting := .none, measure.ambientPending := false, measure.history := [],
    lines.parkTime := 500, scanout.driveBlanking := true,
    power.lingerMin := 30, power.lingerSources := 0b101#3,
    power.keyWake := true, power.swallow := true, power.dockWake := true, power.latchWake := false }

/-- Power state, linger timer and start record of a function reset (R176, R177). -/
def powerReset (prior : PriorPower) (s : State) : State :=
  { s with
    power.standby := false,
    power.lingerEnds := if s.lines.ignOn then none else some (after s 1800000),
    power.startCause := .functionReset, power.prior := prior }

/-- The panel of a function reset: wish ON, and R123 acts on the state found (R138). -/
def panelReset (s : State) : State := panelTest { s with scanout.wish := true, scanout.presented := false }

/-- What stands in work at a function reset: the session ends, reads are given up, and a row whose write has begun runs to
its end (R120, R137). DEDUCED: that row's request keeps its pixels written, its marks and its other fields until the write
has ended, and they are clear from then on (R122, log entry 21). -/
def workReset (s : State) : State := stopCarry (giveUpReads (abandonPicture (endSession s)))

/-- The function reset (R23). -/
def resetFunction (s : State) : State :=
  let prior := priorOf s
  lightFunctionReset (panelReset (powerReset prior (settingsReset (keyPathReset (exchangeReset (workReset s))))))

/-! ### The register window (R22, R23) -/

/-- A write to CONTROL: interrupt enable with its effects, then a function reset when the field is set (R23). -/
def controlWrite (v : Word) (s : State) : State :=
  let s' := setInterruptEnable (v.getLsbD 0) s
  if v.getLsbD 1 then resetFunction s' else s'

/-- A write to the register-window word with an index (R22, R23). -/
def registerWrite (word : BitVec 10) (be : BitVec 4) (v : Word) (s : State) : State :=
  if word = 1 ∧ be = 0xF then controlWrite v s else s

/-! ### Link events (R25) -/

/-- Whether a HOST row is being fetched for a slot that the open session holds. -/
def fetchesHostRow (s : State) : Bool := s.exch.sessionOpen && s.picture.work == .row && !s.picture.writing

/-- The failed reads of a lost link that are taken before the session end (R120): the failure and the end may be taken in
either order, the free value of log entry 11. A failure taken first completes its slot, and the freed context looks at
the queue (R12, step 4); a HOST row that it takes there meets the same choice. A take removes a slot, so the queue's
length bounds the failures. -/
def failFetches : (fuel : Nat) → State → State
  | 0, s => s
  | fuel + 1, s =>
    if fetchesHostRow s then
      let (failFirst, s') := takeOrder s
      if failFirst then failFetches fuel (look (failPicture s')) else s'
    else s

/-- The link goes down: the session ends and the reads are given up, as failed reads (R25, R120). -/
def linkLost (s : State) : State :=
  giveUpReads (endSession (failFetches (s.exch.queue.length + 1) { s with link.up := false }))

def linkDown (s : State) : State := if s.link.up then linkLost s else s

/-- A link reset: the session ends, the reads are given up, the configuration takes its start values (R25). Whether the
link is up, and CONTROL interrupt enable, stay. -/
def linkReset (s : State) : State :=
  let s1 := giveUpReads (endSession s)
  { s1 with
    link.windowsAssigned := false, link.memoryDecoding := false, link.busMastering := false, link.msiEnable := false,
    link.intxDisable := false }

def linkUp (s : State) : State := { s with link.up := true }

end Sys2Proof.Machine
end

