-- ==== Sys2Proof/Machine/Views.lean ====
section
/-! DEFINITION. What the outside reads of the part: the words of the Exchange Memory (R4, R26), the registers (R22, R23),
the pins (R124, R151, R178) and the buffer on the panel (R132). Nothing here changes State. -/

namespace Sys2Proof.Machine

/-- A word from two 16-bit numbers, the first in the low half. -/
def pack16 (lo hi : Nat) : Word := BitVec.ofNat 32 (lo % 65536 + 65536 * (hi % 65536))

/-- A word from four byte-sized numbers, the first in the lowest byte. -/
def pack8 (b0 b1 b2 b3 : Nat) : Word := pack16 (b0 % 256 + 256 * (b1 % 256)) (b2 % 256 + 256 * (b3 % 256))

def flag (b : Bool) : Nat := if b then 1 else 0

def StartCause.code : StartCause → Nat
  | .cold => 1
  | .supplyDip => 2
  | .functionReset => 3

def PriorPower.code : PriorPower → Nat
  | .none => 0
  | .active => 1
  | .standby => 2

/-- The header word at an offset below 0x0100 (section 1.8.1). Bytes that carry no field read zero (R2). -/
def headerWord (s : State) (o : Nat) : Word :=
  match o with
  | 0x00 => 0x00010640
  | 0x04 => BitVec.ofNat 32 (flag s.exch.sessionOpen)
  | 0x08 => s.exch.sessionNo
  | 0x0C => s.journal.head
  | 0x10 => s.journal.taken
  | 0x14 => s.journal.mark
  | 0x18 => BitVec.ofNat 32 (flag s.journal.armed)
  | 0x1C => pack16 s.journal.lost (flag s.journal.episode)
  | 0x20 => s.exch.attention.setWidth 32
  | 0x24 => 0
  | 0x28 => pack16 s.exch.refused s.exch.lastRefused.toNat
  | 0x2C => pack8 s.power.startCause.code s.power.prior.code s.power.dipCount 0
  | 0x30 => s.scanout.frame
  | 0x34 => pack16 s.profile.active.tag.toNat 0
  | 0x38 => pack16 s.light.ambient s.measure.millivolts.toNat
  | 0x3C => pack8 s.light.output s.light.keyLight s.scanner.vib s.composer.held.length
  | 0x40 => s.power.dockTime
  | _ => 0

/-- The guarded and part-owned words of a slot record (section 1.8.2). -/
def slotWord (r : SlotRec) (o : Nat) : Word :=
  match o with
  | 0x00 => r.state.toWord
  | 0x08 => pack8 r.code.toByte.toNat r.flags.toNat 0 0
  | 0x0C => r.postNo
  | 0x10 => r.frame
  | 0x14 => r.time
  | 0x18 => BitVec.ofNat 32 r.count
  | _ => 0

/-- A tablet read of the 32-bit word at an offset that is a multiple of 4 (R4). -/
def readWord (s : State) (o : Nat) : Word :=
  if o < Config.slotBase then headerWord s o
  else if o < Config.journalBase then
    let k := Fin.ofNat 16 ((o - Config.slotBase) / 64)
    let r := (o - Config.slotBase) % 64
    if slotWordKind k r = .plain then s.mem.word o else slotWord (slot s k) r
  else s.mem.word o

/-- A tablet read of one byte (R1, R4): the byte of its word. -/
def readByte (s : State) (a : Nat) : Byte := byteOf (readWord s (a - a % 4)) (a % 4)

/-! ### Registers (section 1.8.6) -/

def Band.code : Band → Nat
  | .normal => 0
  | .low => 1
  | .crank => 2

def PanelState.code : PanelState → Nat
  | .off => 0
  | .starting => 1
  | .on => 2
  | .stopping => 3

def Source.code : Source → Nat
  | .front => 0
  | .standby => 1

/-- STATUS (R22, section 1.8.6). -/
def statusRegister (s : State) : Word :=
  BitVec.ofNat 32
    (flag s.power.standby + 2 * flag s.exch.sessionOpen + 4 * s.power.band.code + 16 * flag s.lines.drive
      + 32 * s.scanout.panel.code + 128 * s.scanout.source.code)

/-- A tablet read of the register-window word with an index: ID, CONTROL, STATUS, and zero elsewhere (R22, R23). -/
def readRegister (s : State) (word : BitVec 10) : Word :=
  if word = 0 then 0x40010640
  else if word = 1 then BitVec.ofNat 32 (flag s.link.intEnable)
  else if word = 2 then statusRegister s
  else 0

/-- A tablet read of a register-window word with the byte enables it carries: a read narrower than 32 bits returns zero
(R22). -/
def registerRead (s : State) (word : BitVec 10) (be : BitVec 4) : Word := if be = 0xF then readRegister s word else 0

/-! ### Pins (R124, R125, R147, R148, R151, R178) -/

/-- The outputs of the part. -/
structure Pins where
  panelRails : Bool
  panelInterface : Bool
  backlightEnable : Bool
  backlightDuty : Nat
  keyDuty : Nat
  /-- The duty of each lit lamp: bits 0 to 4 the tablet's, 5 DRIVE, 6 ALERT (section 1.8.3). -/
  lampsLit : BitVec 7
  lampDuty : Nat
  matrixDriven : Bool
  dramIdle : Bool
  deriving DecidableEq, Repr

/-- The safe state of the outputs (R178). R178 does not name the panel interface; that it is stopped too is the model's
choice (DESIGN CHOICE, log entry 37). -/
def Pins.safe : Pins := ⟨false, false, false, 0, 0, 0, 0, false, true⟩

/-- The three panel controls by state and stage: rails, interface, backlight enable (R124, R125). -/
def panelControls (p : PanelState) (st : Option Stage) : Bool × Bool × Bool :=
  match p, st with
  | .off, _ => (false, false, false)
  | .on, _ => (true, true, true)
  | _, some .rails => (true, false, false)
  | _, some .signals => (true, true, false)
  | _, some .enable => (true, true, true)
  | _, some .disable => (true, true, false)
  | _, some .signalsOff => (true, false, false)
  | _, some .railsOff => (false, false, false)
  | _, none => (false, false, false)

/-- The lamps whose state is on (R151). -/
def lampStates (s : State) : BitVec 7 :=
  s.light.lamps.setWidth 7 ||| (if s.lines.drive then 0x20#7 else 0) ||| (if alertFeed s then 0x40#7 else 0)

/-- The outputs as their owners set them; the safe state while the part is held in reset (R178). -/
def pins (s : State) : Pins :=
  if s.power.held then Pins.safe
  else
    let c := panelControls s.scanout.panel s.scanout.stage
    { panelRails := c.1
      panelInterface := c.2.1
      backlightEnable := c.2.2
      backlightDuty := s.light.output
      keyDuty := s.light.keyLight
      lampsLit := if s.power.standby then 0 else lampStates s
      lampDuty := s.light.keyLight
      matrixDriven := s.scanner.driven
      dramIdle := !s.frames.clearing && !s.picture.writing && s.scanout.panel != .on && s.scanout.carry.isNone }

/-! ### The panel's picture (R105, R132) -/

/-- The buffer that the panel shows, while it is ON. -/
def shownBuffer (s : State) : Option Buffer :=
  if s.power.held = false ∧ s.scanout.panel = .on then
    some (match s.scanout.source with | .front => frontBuffer s | .standby => .standby)
  else none

/-- Whether pixel (x, y) of a buffer lies in the row that a COPY or FILL is writing (R117). -/
def inWrite (s : State) (buf : Buffer) (x y : Nat) : Bool :=
  s.picture.writing && s.picture.dest == buf && s.picture.nextRow == y && decide (s.picture.clip.x0 ≤ x) &&
    decide (x < s.picture.clip.x0 + s.picture.rowPixels.length)

/-- Pixel (x, y) of a buffer as the scan finds it at a moment: in a row that is still being written it is the new pixel or
the one from before, the free value of log entry 40 (R107). -/
def scannedPixel (s : State) (buf : Buffer) (moment x y : Nat) : Half :=
  if inWrite s buf x y && Config.landed moment x then s.picture.rowPixels.getD (x - s.picture.clip.x0) 0
  else pixel s buf x y

/-- Pixel (x, y) of the frames that the panel interface sends, at a moment: of the source's buffer while the panel is ON,
black in the signals, enable and disable stages (R107, R124, R125), and none while the interface is stopped. -/
def shownPixel (s : State) (moment x y : Nat) : Option Half :=
  match shownBuffer s with
  | some buf => some (scannedPixel s buf moment x y)
  | none => if (pins s).panelInterface then some 0 else none

end Sys2Proof.Machine
end

