-- ==== Sys2Proof/Machine/ExchangeCommands.lean ====
section
/-! DEFINITION. The meanings of the tablet's writes to the two windows and of the SETTINGS completion (spec 01). -/

namespace Sys2Proof.Machine

/-- EXCHANGE_MEMORY_WRITE (R1 to R3): stored, refused or ignored by the kind of word; a guarded word's owner decides. -/
def execExchangeMemoryWrite (word : BitVec 14) (be : BitVec 4) (v : Word) (s : State) : Result :=
  .next (whenLinked (exchangeWrite word be v) s)

/-- SESSION_OPEN (R5, R6). -/
def execSessionOpen (s : State) : Result := .next (whenLinked (sessionWrite 1) s)

/-- SESSION_CLOSE (R5, R8). -/
def execSessionClose (s : State) : Result := .next (whenLinked (sessionWrite 2) s)

/-- POST (R9). -/
def execPost (k : Fin 16) (s : State) : Result := .next (whenLinked (postWrite k) s)

/-- CANCEL (R10). -/
def execCancel (k : Fin 16) (s : State) : Result := .next (whenLinked (cancelWrite k) s)

/-- FREE (R11). -/
def execFree (k : Fin 16) (s : State) : Result := .next (whenLinked (freeWrite k) s)

/-- SETTINGS_COMPLETION (R13): the context is then free and looks at the queue (R12). -/
def execSettingsCompletion (s : State) : Result := .next (whenRunning (fun s => look (settingsComplete s)) s)

/-- ATTENTION_ACKNOWLEDGE (R19, R20). -/
def execAttentionAcknowledge (v : Word) (s : State) : Result := .next (whenLinked (ackWrite v) s)

/-- JOURNAL_TAKEN_WRITE (R78). -/
def execJournalTakenWrite (v : Word) (s : State) : Result := .next (whenLinked (takenWrite v) s)

/-- NOTIFY_MARK_WRITE (R80). -/
def execNotifyMarkWrite (v : Word) (s : State) : Result := .next (whenLinked (markWrite v) s)

/-- INTERRUPT_ENABLE_WRITE (R23): a CONTROL write. -/
def execInterruptEnableWrite (v : Word) (s : State) : Result := .next (whenLinked (controlWrite v) s)

/-- FUNCTION_RESET (R23): a CONTROL write with the function reset field, bit 1, set. -/
def execFunctionReset (v : Word) (s : State) : Result := .next (whenLinked (controlWrite (v ||| 2)) s)

/-- REGISTER_WRITE_IGNORED (R22): a write to the register window. -/
def execRegisterWriteIgnored (word : BitVec 10) (be : BitVec 4) (v : Word) (s : State) : Result :=
  .next (whenLinked (registerWrite word be v) s)

end Sys2Proof.Machine
end

