-- ==== Sys2Proof/Machine/LinkCommands.lean ====
section
/-! DEFINITION. The meanings of the link events and of the tablet's changes of the function's configuration (R20, R21,
R25). -/

namespace Sys2Proof.Machine

/-- LINK_DOWN (R25). -/
def execLinkDown (s : State) : Result := .next (whenRunning linkDown s)

/-- LINK_RESET (R25). -/
def execLinkReset (s : State) : Result := .next (whenRunning linkReset s)

/-- LINK_UP (R25). -/
def execLinkUp (s : State) : Result := .next (whenRunning linkUp s)

/-- MSI_ENABLE_CHANGE (R21): no message is sent by it; INTx follows from the state. -/
def execMsiEnableChange (on : Bool) (s : State) : Result :=
  .next (whenLinked (fun s => { s with link.msiEnable := on }) s)

/-- INTERRUPT_DISABLE_CHANGE (R21): INTx follows from the state. -/
def execInterruptDisableChange (on : Bool) (s : State) : Result :=
  .next (whenLinked (fun s => { s with link.intxDisable := on }) s)

/-- BUS_MASTERING_CHANGE (R25): the configuration as the tablet leaves it. Bus mastering decides whether reads are issued
(R113) and messages are sent (R20); no rule of the spec gives memory decoding or the windows an effect (log entry 6). -/
def execBusMasteringChange (config : FunctionConfig) (s : State) : Result :=
  .next (whenLinked (fun s =>
    { s with
      link.windowsAssigned := config.windows, link.memoryDecoding := config.decoding,
      link.busMastering := config.busMastering }) s)

end Sys2Proof.Machine
end

