-- ==== Sys2Proof/Machine/KeyCommands.lean ====
section
/-! DEFINITION. The meanings of the key path's events (spec 02, 03, 05). An event whose time has not come has no effect
(log entry 3). -/

namespace Sys2Proof.Machine

/-- What an event does when it is due. -/
def ifDue (c : State → Bool) (f : State → State) (s : State) : State := if c s then f s else s

/-- FAST_PASS (R28) of the levels read (R180), with the takes of the contexts that its events let (R15). -/
def execFastPass (levels : BitVec 128) (s : State) : Result :=
  .next (whenRunning (ifDue fastDue fun s => look (fastPass (rawOfLevels levels) s)) s)

/-- WINDOW_END (R38): due when 64 passes of the window have been made and the window has not ended. A FAST pass ends its
window itself, as the last step of the 64th (R28; log entry 16). -/
def execWindowEnd (s : State) : Result :=
  .next (whenRunning (ifDue (fun s => s.scanner.mode == .fast && windowFull s) endWindow) s)

/-- SLOW_SCAN_ENTRY (R45): due when the idle pass count has reached 2000 in FAST scan in STANDBY. A FAST pass makes the
entry itself, at its end (R28; log entry 16). -/
def execSlowScanEntry (s : State) : Result := .next (whenRunning (ifDue slowDue enterSlow) s)

/-- SLOW_PASS (R42) of the levels read (R180). -/
def execSlowPass (levels : BitVec 128) (s : State) : Result :=
  .next (whenRunning (ifDue slowPassDue fun s => look (slowPass (rawOfLevels levels) s)) s)

/-- The down-time advance is made once at each millisecond (R60). -/
def downDue (s : State) : Bool := now s != s.composer.downAt

/-- DOWN_TIME_ADVANCE (R60 to R62). -/
def execDownTimeAdvance (s : State) : Result := .next (whenRunning (ifDue downDue advanceDownTimes) s)

/-- HOLD (R61) for one key; the advance makes the same test for every DOWN key (R60; log entry 17). -/
def execHold (p : Fin 128) (s : State) : Result := .next (whenRunning (holdTest p) s)

/-- STUCK (R62) for one key; the advance makes the same test for every DOWN key (R60; log entry 17). -/
def execStuck (p : Fin 128) (s : State) : Result := .next (whenRunning (stuckTest p) s)

/-- REPEAT_EXPIRY (R66). -/
def execRepeatExpiry (s : State) : Result := .next (whenRunning repeatFires s)

/-- PROFILE_WAIT_EXPIRY (R100): the PROFILE context is then free and looks at the queue. -/
def execProfileWaitExpiry (s : State) : Result := .next (whenRunning (fun s => look (profileExpiry s)) s)

end Sys2Proof.Machine
end

