-- ==== Sys2Proof/Machine/PictureCommands.lean ====
section
/-! DEFINITION. The meanings of the picture path's events (spec 06, 07). The contexts look at the queue at the end (R15). -/

namespace Sys2Proof.Machine

/-- HOST_READ_COMPLETION (R113, R114): it arrives over the link. -/
def execHostReadCompletion (tag place : Nat) (data : List Byte) (error poisoned : Bool) (s : State) : Result :=
  .next (whenLinked (fun s => look (hostCompletion tag place data error poisoned s)) s)

/-- HOST_READ_TIMEOUT (R114). -/
def execHostReadTimeout (tag : Nat) (s : State) : Result := .next (whenRunning (fun s => look (hostTimeout tag s)) s)

/-- ROW_WRITE_COMPLETE (R117). -/
def execRowWriteComplete (s : State) : Result := .next (whenRunning (fun s => look (rowWritten s)) s)

/-- The end of clearing frame memory, at a Dock Time from 1 ms on (R106; log entry 20): it lifts the hold (R17). -/
def endClearing (s : State) : State :=
  if s.frames.clearing = true ∧ now s ≠ 0 then { s with frames.clearing := false } else s

/-- CLEARING_END (R106). -/
def execClearingEnd (s : State) : Result := .next (whenRunning (fun s => look (endClearing s)) s)

/-- CARRY_COPY_ROW_COMPLETE (R136). -/
def execCarryCopyRowComplete (s : State) : Result := .next (whenRunning (fun s => look (carryRowDone s)) s)

/-- VERTICAL_BLANK_START (R131). -/
def execVerticalBlankStart (s : State) : Result := .next (whenRunning (fun s => look (verticalBlank s)) s)

/-- PANEL_STAGE_EXPIRY (R124, R125). -/
def execPanelStageExpiry (s : State) : Result := .next (whenRunning (fun s => look (stageExpiry s)) s)

end Sys2Proof.Machine
end

