-- ==== Sys2Proof/Machine/PowerCommands.lean ====
section
/-! DEFINITION. The meanings of the events of measurement, light, lines, supply and starts (spec 08 to 10). The contexts
look at the queue where the event can free one or end a hold (R15). -/

namespace Sys2Proof.Machine

/-- CONVERSION_DUE (R139). -/
def execConversionDue (s : State) : Result := .next (whenRunning (ifDue conversionIsDue startConversion) s)

/-- SUPPLY_CONVERSION_COMPLETE (R140). -/
def execSupplyConversionComplete (code : BitVec 10) (s : State) : Result :=
  .next (whenRunning (ifDue (fun s => s.measure.converting == .supply) fun s => look (supplyDone code s)) s)

/-- AMBIENT_CONVERSION_COMPLETE (R141). -/
def execAmbientConversionComplete (code : BitVec 10) (s : State) : Result :=
  .next (whenRunning (ifDue (fun s => s.measure.converting == .ambient) (ambientDone code)) s)

/-- LIGHT_TICK (R147). -/
def execLightTick (s : State) : Result := .next (whenRunning lightTick s)

/-- IDLE_EXPIRY (R149). -/
def execIdleExpiry (s : State) : Result := .next (whenRunning idleExpiry s)

/-- LINE_EDGE (R155, R179): the level at the input changes even while the part is held in reset. -/
def execLineEdge (line : Line) (high : Bool) (s : State) : Result := .next (lineEdge line high s)

/-- QUALIFICATION_EXPIRY (R155). -/
def execQualificationExpiry (line : Line) (s : State) : Result :=
  .next (whenRunning (fun s => look (lineExpiry line s)) s)

/-- DOCK_TIME_ADVANCE (R166). -/
def execDockTimeAdvance (s : State) : Result :=
  .next (whenRunning (fun s => { s with power.dockTime := s.power.dockTime + 1 }) s)

/-- LINGER_EXPIRY (R170, R172). -/
def execLingerExpiry (s : State) : Result := .next (whenRunning (fun s => look (lingerExpiry s)) s)

/-- SURVIVAL_COMPARATOR_TRIP (R169): during the hold it has no further effect. -/
def execSurvivalComparatorTrip (s : State) : Result := .next (whenRunning trip s)

/-- SUPPLY_DIP_START (R169, R176): the part starts when it is held in reset after a trip. -/
def execSupplyDipStart (s : State) : Result :=
  .next (if s.power.held && !s.power.poweringUp then dipStart s else s)

/-- COLD_START (R176): power-up from off, whatever state the part was in before it lost its supply. -/
def execColdStart (levels : LineLevels) (s : State) : Result := .next (coldStart levels s)

end Sys2Proof.Machine
end

