-- ==== Sys2Proof/Machine/Dispatch.lean ====
section
/-! DEFINITION. One arm per command: each is one direct call of its meaning. -/

namespace Sys2Proof.Machine

def exec (i : Instr) (s : State) : Host.Outcome State Fault Refusal :=
  match i with
  | .exchangeMemoryWrite word be value => Sys2Proof.Machine.execExchangeMemoryWrite word be value s
  | .sessionOpen => Sys2Proof.Machine.execSessionOpen s
  | .sessionClose => Sys2Proof.Machine.execSessionClose s
  | .post slot => Sys2Proof.Machine.execPost slot s
  | .cancel slot => Sys2Proof.Machine.execCancel slot s
  | .free slot => Sys2Proof.Machine.execFree slot s
  | .settingsCompletion => Sys2Proof.Machine.execSettingsCompletion s
  | .attentionAcknowledge value => Sys2Proof.Machine.execAttentionAcknowledge value s
  | .journalTakenWrite value => Sys2Proof.Machine.execJournalTakenWrite value s
  | .notifyMarkWrite value => Sys2Proof.Machine.execNotifyMarkWrite value s
  | .interruptEnableWrite value => Sys2Proof.Machine.execInterruptEnableWrite value s
  | .functionReset value => Sys2Proof.Machine.execFunctionReset value s
  | .registerWriteIgnored word be value => Sys2Proof.Machine.execRegisterWriteIgnored word be value s
  | .linkDown => Sys2Proof.Machine.execLinkDown s
  | .linkReset => Sys2Proof.Machine.execLinkReset s
  | .msiEnableChange on => Sys2Proof.Machine.execMsiEnableChange on s
  | .interruptDisableChange on => Sys2Proof.Machine.execInterruptDisableChange on s
  | .fastPass levels => Sys2Proof.Machine.execFastPass levels s
  | .windowEnd => Sys2Proof.Machine.execWindowEnd s
  | .slowScanEntry => Sys2Proof.Machine.execSlowScanEntry s
  | .slowPass levels => Sys2Proof.Machine.execSlowPass levels s
  | .downTimeAdvance => Sys2Proof.Machine.execDownTimeAdvance s
  | .hold position => Sys2Proof.Machine.execHold position s
  | .stuck position => Sys2Proof.Machine.execStuck position s
  | .repeatExpiry => Sys2Proof.Machine.execRepeatExpiry s
  | .profileWaitExpiry => Sys2Proof.Machine.execProfileWaitExpiry s
  | .hostReadCompletion tag place data error poisoned => Sys2Proof.Machine.execHostReadCompletion tag place data error poisoned s
  | .hostReadTimeout tag => Sys2Proof.Machine.execHostReadTimeout tag s
  | .rowWriteComplete => Sys2Proof.Machine.execRowWriteComplete s
  | .clearingEnd => Sys2Proof.Machine.execClearingEnd s
  | .carryCopyRowComplete => Sys2Proof.Machine.execCarryCopyRowComplete s
  | .verticalBlankStart => Sys2Proof.Machine.execVerticalBlankStart s
  | .panelStageExpiry => Sys2Proof.Machine.execPanelStageExpiry s
  | .conversionDue => Sys2Proof.Machine.execConversionDue s
  | .supplyConversionComplete code => Sys2Proof.Machine.execSupplyConversionComplete code s
  | .ambientConversionComplete code => Sys2Proof.Machine.execAmbientConversionComplete code s
  | .lightTick => Sys2Proof.Machine.execLightTick s
  | .idleExpiry => Sys2Proof.Machine.execIdleExpiry s
  | .lineEdge line high => Sys2Proof.Machine.execLineEdge line high s
  | .qualificationExpiry line => Sys2Proof.Machine.execQualificationExpiry line s
  | .dockTimeAdvance => Sys2Proof.Machine.execDockTimeAdvance s
  | .lingerExpiry => Sys2Proof.Machine.execLingerExpiry s
  | .survivalComparatorTrip => Sys2Proof.Machine.execSurvivalComparatorTrip s
  | .supplyDipStart => Sys2Proof.Machine.execSupplyDipStart s
  | .coldStart levels => Sys2Proof.Machine.execColdStart levels s
  | .linkUp => Sys2Proof.Machine.execLinkUp s
  | .busMasteringChange config => Sys2Proof.Machine.execBusMasteringChange config s

end Sys2Proof.Machine
end

