-- ==== Sys2Proof/Safety.lean ====
section
/-! DEFINITION. The terms in which claims are stated: when the part runs and is reached, and the invariants that the rules
give its blocks. -/

namespace Sys2Proof.Machine

/-! ### Where a command has its effect -/

/-- The part is not held in reset (R169). -/
def Running (s : State) : Prop := s.power.held = false

/-- An access of the tablet reaches the part: it runs, and the link is up (R5). -/
def Linked (s : State) : Prop := s.power.held = false ∧ s.link.up = true

/-! ### Invariants -/

/-- The Exchange Memory and the three frame buffers are in their canonical form. -/
def MemoryInv (s : State) : Prop :=
  s.mem.wf = true ∧ s.frames.a.wf = true ∧ s.frames.b.wf = true ∧ s.frames.standby.wf = true

/-- The Held Set holds exactly the DOWN positions, each once, at most 10 (R50); a key that is not DOWN has down time 0
(R60); the repeat subject is DOWN (R66). -/
structure HeldInv (s : State) : Prop where
  table : s.composer.keys.length = 128
  once : s.composer.held.Nodup
  most : s.composer.held.length ≤ 10
  down : ∀ p : Fin 128, p ∈ s.composer.held ↔ (key s p).state = .down
  time : ∀ p : Fin 128, (key s p).state ≠ .down → (key s p).downTime = 0
  subject : ∀ p : Fin 128, s.composer.subject = some p → (key s p).state = .down

/-- (Head - Taken) modulo 2^32 never exceeds 256 (R77), with a Held Set whose group fits an empty ring (R50, R83), and the
Lost count saturates (R82). -/
structure JournalInv (s : State) : Prop where
  ring : untaken s ≤ 256
  held : s.composer.held.length ≤ 10
  lost : s.journal.lost ≤ 65535

/-- The stage of the panel's power sequence belongs to the panel state (R124, R125). -/
def stageFits : PanelState → Option Stage → Bool
  | .off, st => st.isNone
  | .on, st => st.isNone
  | .starting, st => st == some .rails || st == some .signals || st == some .enable
  | .stopping, st => st == some .disable || st == some .signalsOff || st == some .railsOff

/-- The stage belongs to the panel state (R124, R125), and a panel that is ON or STARTING is wanted (R123); the target is
the one its inputs give (R146); it is the output in the immediate cases (R147); the key light follows the output (R148). -/
structure LightInv (s : State) : Prop where
  stage : stageFits s.scanout.panel s.scanout.stage = true
  wanted : s.scanout.panel = .on ∨ s.scanout.panel = .starting → s.power.standby = false ∧ s.scanout.wish = true
  target : s.light.target = targetLevel s
  atOnce : immediate s = true → s.light.output = s.light.target
  keyLight : s.light.keyLight = s.light.output * s.light.settings.keyRatio / 16

/-- The ranges of a profile (R90). -/
structure ProfileRanges (p : Profile) : Prop where
  press : 2 ≤ p.pressBase ∧ p.pressBase ≤ 12
  release : p.releaseBase < p.pressBase
  stuck : p.stuckLimit = 0 ∨ (5 ≤ p.stuckLimit ∧ p.stuckLimit ≤ 120)
  delay : 100 ≤ p.repeatDelay ∧ p.repeatDelay ≤ 2000
  period : 20 ≤ p.repeatPeriod ∧ p.repeatPeriod ≤ 500
  hold : 200 ≤ p.holdTime ∧ p.holdTime ≤ 5000
  classes : p.classes.length = 128
  usages : p.usages.length = 128

/-- The ranges of the scanner and the integrators (R32, R37, R38, R40, R45), with the profiles it reads them under. -/
structure ScannerInv (s : State) : Prop where
  active : ProfileRanges s.profile.active
  staged : ∀ st, s.profile.staged = some st → ProfileRanges st.profile
  vib : s.scanner.vib ≤ 8
  adaptation : s.profile.active.adaptation = false → s.scanner.vib = 0
  integ : ∀ k ∈ s.composer.keys, k.integ ≤ pressThreshold s
  chatter : s.scanner.chatter ≤ 255
  window : s.scanner.windowPasses < 64
  idleFast : s.scanner.mode = .fast → s.scanner.idlePasses < 2000
  active45 : s.power.standby = false → s.scanner.mode = .fast ∧ s.scanner.idlePasses = 0
  slow : s.scanner.mode = .slow →
    s.scanner.vib = 0 ∧ s.scanner.chatter = 0 ∧ s.scanner.windowPasses = 0 ∧
      ∀ k ∈ s.composer.keys, k.integ = 0 ∧ (k.state = .up ∨ k.state = .stuck)

/-- The slots that the three contexts hold. -/
def jobSlots (s : State) : List (Fin 16) :=
  (s.picture.job.map Job.slot).toList ++ (s.profile.job.map Job.slot).toList ++
    (s.exch.settingsJob.map Job.slot).toList

/-- The Post Queue holds exactly the POSTED slots, each once (R14); the contexts hold exactly the ACTIVE and CANCELLING
slots, each its own (R15); abandoned work holds no slot (R120); a PRESENT waits or copies, and alone in the engine (R134,
R136); while the session is CLOSED every slot is FREE, attention is empty, and nothing is staged or presented (R8, R19). -/
structure ExchangeInv (s : State) : Prop where
  slots : s.exch.slots.length = 16
  queueOnce : (s.exch.queue.map Entry.slot).Nodup
  queued : ∀ k : Fin 16, k ∈ s.exch.queue.map Entry.slot ↔ (slot s k).state = .posted
  jobsOnce : (jobSlots s).Nodup
  inWork : ∀ k : Fin 16, k ∈ jobSlots s ↔ (slot s k).state.inWork = true
  staged : s.profile.staged.isSome = s.profile.job.isSome
  abandoned : s.picture.abandon = true → s.picture.job = none
  waiting : s.scanout.waiting.isSome = true → s.picture.job.isSome = true
  notBoth : s.scanout.waiting.isSome = true → s.scanout.carry = none
  presentAlone : s.scanout.waiting.isSome = true ∨ s.scanout.carry.isSome = true →
    s.picture.work = .free ∧ s.picture.writing = false ∧ s.picture.reads = []
  closedSlots : s.exch.sessionOpen = false → ∀ k : Fin 16, (slot s k).state = .free
  closedAttention : s.exch.sessionOpen = false → s.exch.attention = 0
  closedPresented : s.exch.sessionOpen = false → s.scanout.presented = false
  refused : s.exch.refused ≤ 65535

/-- Drive mode is on exactly while qualified IGN is ON and PARK is RELEASED (R157), and the linger timer runs exactly while
IGN is OFF and the power state is ACTIVE (R170); the linger time keeps its range (R164). -/
structure PowerInv (s : State) : Prop where
  drive : s.lines.drive = (s.lines.ignOn && !s.lines.parkEngaged)
  linger : s.power.lingerEnds.isSome = (!s.lines.ignOn && !s.power.standby)
  lingerTime : s.power.lingerMin ≤ 240
  recovery : s.power.recovery ≤ 3
  dips : s.power.dipCount ≤ 255

/-- A read of tablet memory has at most 256 bytes and does not cross a 4096-byte boundary (R113). -/
def ReadPlan.legal (r : ReadPlan) : Prop := r.len ≤ 256 ∧ r.address.toNat % 4096 + r.len ≤ 4096

/-- At most 8 reads are outstanding, and every read is a legal one (R113). -/
structure ReadsInv (s : State) : Prop where
  most : s.picture.reads.length ≤ 8
  issued : ∀ r ∈ s.picture.reads, r.plan.legal
  planned : ∀ r ∈ s.picture.toIssue, r.legal

/-! ### Commands and offsets named in claims -/

/-- The commands that can be a part start (section 10.6): the two starts, and the writes that can reach CONTROL (R23). -/
def mayStart : Instr → Bool
  | .functionReset _ | .interruptEnableWrite _ | .registerWriteIgnored _ _ _ | .supplyDipStart | .coldStart _ => true
  | _ => false

/-- The offset, within its slot record, of a word of the Slot Array (R1). -/
def inSlot (o : Nat) : Nat := (o - 0x0100) % 64

/-- The offsets of the plain words (R2). -/
def plainOffset (o : Nat) : Prop := (0x0100 ≤ o ∧ o < 0x0500 ∧ (inSlot o = 4 ∨ 0x1C ≤ inSlot o)) ∨ 0x1500 ≤ o

/-- The offsets of the part-owned words (R2). -/
def partOwnedOffset (o : Nat) : Prop :=
  (o < 0x0044 ∧ o ≠ 0x0004 ∧ o ≠ 0x0010 ∧ o ≠ 0x0014 ∧ o ≠ 0x0024) ∨
    (0x0100 ≤ o ∧ o < 0x0500 ∧ inSlot o ≠ 0 ∧ inSlot o ≠ 4 ∧ inSlot o < 0x1C) ∨ (0x0500 ≤ o ∧ o < 0x1500)

/-- The offsets of the guarded words (R2). -/
def guardedOffset (o : Nat) : Prop :=
  o = 0x0004 ∨ o = 0x0010 ∨ o = 0x0014 ∨ o = 0x0024 ∨ (0x0100 ≤ o ∧ o < 0x0500 ∧ inSlot o = 0)

/-- The state after a refused write of the word at an offset (R3). -/
def afterRefusal (o : Nat) (s : State) : State :=
  { s with exch.refused := min (s.exch.refused + 1) 65535, exch.lastRefused := BitVec.ofNat 16 o }

/-- Three other closed raw samples complete a rectangle with position `p` (R30). -/
def rectangle (raw : BitVec 128) (p : Nat) : Prop :=
  ∃ d' c', d' < 8 ∧ c' < 16 ∧ d' ≠ p / 16 ∧ c' ≠ p % 16 ∧
    raw.getLsbD (p / 16 * 16 + c') = true ∧ raw.getLsbD (d' * 16 + p % 16) = true ∧
      raw.getLsbD (d' * 16 + c') = true

/-- Position `p` is given a closed sample in a pass (R29, R30). -/
def closedSample (raw : BitVec 128) (s : State) (p : Fin 128) : Prop :=
  raw.getLsbD p.val = true ∧ classOf s p ≠ .none ∧ ((key s p).state = .up → ¬rectangle raw p.val)

/-- The record that lies at the place of sequence number `seq` (R73, R74). -/
def recordAt (m : Memory) (seq time : Word) (r : Rec) : Prop :=
  m.reads (0x0500 + 16 * (seq.toNat % 256)) 16 = recordBytes seq time r

/-- Every byte outside the place of sequence number `seq` reads alike (R73). -/
def sameOutsidePlace (seq : Word) (m m' : Memory) : Prop :=
  ∀ a, a < 0x0500 + 16 * (seq.toNat % 256) ∨ 0x0510 + 16 * (seq.toNat % 256) ≤ a → m'.read a = m.read a

/-- Records can be written: the session is OPEN, no loss episode is running, and the ring has room for `n` (R76). -/
def Writable (n : Nat) (s : State) : Prop :=
  s.exch.sessionOpen = true ∧ s.journal.episode = false ∧ untaken s + n ≤ 256

/-- From `s` to `t` the records `rs` are written at the places from the Head of `s` on, and Head counts them, where they can
be written (R73, R76, R77). -/
def Writes (rs : List Rec) (s t : State) : Prop :=
  s.mem.wf = true → Writable rs.length s →
    t.journal.head = s.journal.head + BitVec.ofNat 32 rs.length ∧
      ∀ (i : Nat) (h : i < rs.length), recordAt t.mem (s.journal.head + BitVec.ofNat 32 i) s.power.dockTime rs[i]

/-- The modifier snapshot of the keys `held` (R67). -/
def snapshotOf (s : State) (held : List (Fin 128)) : Byte :=
  snapshot { s with composer := { s.composer with held := held } }

/-- The records of a down-time advance of the keys of a list, in its order, while `held` is the Held Set: for each key the
HOLD record of R61, then the RELEASE record of R62, flagged STUCK, with the key out of the Held Set (R60). -/
def advanceRecords (s : State) : List (Fin 128) → List (Fin 128) → List Rec
  | [], _ => []
  | p :: ps, held =>
    let limit := s.profile.active.stuckLimit
    let time := min (if limit = 0 then 120000 else 1000 * limit) ((key s p).downTime + 1)
    let left := held.filter fun q => q != p
    (if classOf s p = .hold ∧ (key s p).holdSeen = false ∧ s.profile.active.holdTime ≤ time then
      [⟨.hold, some p, usageOf s p, snapshotOf s held, 0, 0⟩] else []) ++
    (if limit ≠ 0 ∧ 1000 * limit ≤ time then
      ⟨.release, some p, usageOf s p, snapshotOf s left, 1, 0⟩ :: advanceRecords s ps left
    else advanceRecords s ps held)

/-- A slot as a completion leaves it (R12, steps 1 and 2). -/
def completedSlot (s : State) (k : Fin 16) (st : SlotState) (code : ResultCode) (flags : Byte) (count : Nat) : SlotRec :=
  { slot s k with
    state := st, code := code, flags := flags, count := count, frame := s.scanout.frame, time := s.power.dockTime }

/-- From `s` to `t` slot `k` is posted and ends in its take, with count 0, and SLOT is raised when its notify byte says so
(R9, R12). -/
def EndsInTake (s : State) (k : Fin 16) (st : SlotState) (code : ResultCode) (flags : Byte) (t : State) : Prop :=
  slot t k = ⟨st, code, flags, s.exch.nextPost, s.scanout.frame, s.power.dockTime, 0⟩ ∧
  t.exch.attention.getLsbD 1 = (s.mem.read (0x0106 + 64 * k.val) != 0 || s.exch.attention.getLsbD 1)

/-- The Picture Engine with no request (R122). -/
def emptyEngine (s : State) : Picture := { Picture.start with nextTag := s.picture.nextTag }

/-- From `s` to `t` an activity event of a source (0 KEY, 1 PICTURE, 2 VEHICLE) reaches the two timers: where its setting
selects the source, an idle timer that is not OFF is RUNNING with its whole timeout, and a running linger timer is loaded
with the wake load; a timer that is not so reached stays (R56, R135, R149, R170). -/
def ActivityTaken (source : Nat) (s t : State) : Prop :=
  t.power = { s.power with lingerEnds :=
    if s.power.lingerSources.getLsbD source then s.power.lingerEnds.map fun _ =>
      s.power.dockTime + ms (if s.power.lingerMin = 0 then 60000 else 60000 * s.power.lingerMin)
    else s.power.lingerEnds } ∧
  t.light = { s.light with
    idle := t.light.idle, idleEnds := t.light.idleEnds, target := t.light.target, output := t.light.output,
    keyLight := t.light.keyLight } ∧
  (if s.light.settings.idleSources.getLsbD source = true ∧ s.light.idle ≠ .off then
    t.light.idle = .running ∧ t.light.idleEnds = s.power.dockTime + ms (s.light.settings.idleTimeout * 1000)
  else t.light.idle = s.light.idle ∧ t.light.idleEnds = s.light.idleEnds)

/-- From `s` to `t` the PRESENT that the job `j` stands for is swapped, with its carry choice: the roles, and then, without
carry, its completion with the frame number of `s`, the presented flag and the PICTURE activity event, or, with carry, the
carry copy at its first row boundary (R135, R136). -/
def Swapped (carry : Bool) (j : Job) (s t : State) : Prop :=
  t.frames = s.frames ∧
  t.scanout = { s.scanout with
    front := (match s.scanout.front with | .a => .b | .b => .a), waiting := none,
    presented := s.scanout.presented || !carry,
    carry := if carry then some ⟨0, !(s.power.band == .crank || s.power.standby), false, false⟩
      else s.scanout.carry } ∧
  t.picture = { s.picture with job := if carry then some j else none } ∧
  (carry = false → slot t j.slot = completedSlot s j.slot .done .ok 0 0 ∧
    (j.notify = true → t.exch.attention.getLsbD 1 = true) ∧ ActivityTaken 1 s t) ∧
  (carry = true → slot t j.slot = slot s j.slot ∧ t.power = s.power ∧ t.light.idle = s.light.idle ∧
    t.light.idleEnds = s.light.idleEnds)

/-- From `s` to `t` STANDBY is entered: the power state, the dark output, the idle pass count; a panel that is ON or
STARTING turns to the stage that undoes its last action, with the swap of a waiting PRESENT, any other goes on; a PANEL
slot that waits for ON is DONE, any other stays (R45, R123, R126, R130, R135, R146, R172). -/
def StandbyEntered (s t : State) : Prop :=
  let stops := s.scanout.panel = .on ∨ s.scanout.panel = .starting
  let enters := fun (st : Stage) (time : Nat) =>
    t.scanout.panel = .stopping ∧ t.scanout.stage = some st ∧ t.scanout.stageEnds = s.power.dockTime + ms time
  let handed := { s with
    power := { s.power with standby := true, lingerEnds := none },
    scanout := { s.scanout with
      panel := t.scanout.panel, stage := t.scanout.stage, stageEnds := t.scanout.stageEnds } }
  let waitsForOn := fun (j : Job) => j.kind = kindPanel ∧ j.params.getD 0 0 ≠ 0
  t.power = handed.power ∧ t.light.output = 0 ∧ t.light.target = 0 ∧ t.light.keyLight = 0 ∧
  t.scanner = { s.scanner with idlePasses := 0 } ∧ t.composer = s.composer ∧ t.lines = s.lines ∧
  t.exch.sessionOpen = s.exch.sessionOpen ∧ t.exch.queue = s.exch.queue ∧ t.profile = s.profile ∧ t.frames = s.frames ∧
  t.measure = s.measure ∧
  (s.scanout.panel = .on → enters .disable 10) ∧
  (s.scanout.panel = .starting →
    (s.scanout.stage = some .rails → enters .railsOff 20) ∧ (s.scanout.stage = some .signals → enters .signalsOff 50) ∧
    (s.scanout.stage = some .enable → enters .disable 10)) ∧
  (∀ carry j, stops → s.scanout.waiting = some carry → s.picture.job = some j → Swapped carry j handed t) ∧
  (s.scanout.waiting = none ∨ ¬stops → t.scanout = handed.scanout ∧ t.picture = s.picture ∧
    t.light.idle = s.light.idle ∧ t.light.idleEnds = s.light.idleEnds) ∧
  (s.scanout.panel = .stopping ∨ s.scanout.panel = .off → t.scanout = s.scanout) ∧
  (∀ j, s.exch.settingsJob = some j →
    (waitsForOn j → t.exch.settingsJob = none ∧ slot t j.slot = completedSlot s j.slot .done .ok 0 0 ∧
      (j.notify = true → t.exch.attention.getLsbD 1 = true)) ∧
    (¬waitsForOn j → t.exch.settingsJob = some j ∧ slot t j.slot = slot s j.slot))

/-- From `s` to `t` the pause of what stands paused in the picture path ends: a COPY or FILL takes its row boundary again
in a state `v` of the same engine, slots, frame memory and Staging Area, and a carry copy goes on with its row (R118,
R136). -/
def PauseEnds (s t : State) : Prop :=
  (s.scanout.carry = none →
    (s.picture.work = .paused → ∃ v,
      v.picture = s.picture ∧ v.exch = { s.exch with attention := v.exch.attention } ∧
      v.link = { s.link with messages := v.link.messages } ∧ v.frames = s.frames ∧
      v.scanout.frame = s.scanout.frame ∧ v.power.dockTime = s.power.dockTime ∧ pauses v = false ∧
      (s.mem.wf = true → ∀ a, 0x1500 ≤ a → v.mem.read a = s.mem.read a) ∧
      t.picture = (pictureBoundary v).picture ∧ t.exch = (pictureBoundary v).exch) ∧
    (s.picture.work ≠ .paused → t.picture = s.picture ∧ t.scanout.carry = none)) ∧
  (∀ c, s.scanout.carry = some c →
    (c.inRow = true → t.scanout.carry = some c) ∧
    (c.inRow = false → c.stopping = false → c.row < 800 → t.scanout.carry = some { c with inRow := true }))

/-- `u` is `s` after a failed read, or after bus mastering was found disabled: the request ends FAILED with READ_ERROR and
the pixels written; abandoned work only stops (R114, R120). -/
def ReadFailed (s u : State) : Prop :=
  (∀ j, s.picture.job = some j → s.picture.abandon = false →
    u = { s with
      picture := emptyEngine s, link := { s.link with messages := u.link.messages },
      exch := { s.exch with
        slots := s.exch.slots.set j.slot.val
          (completedSlot s j.slot .failed .readError (if s.picture.clipped then 1 else 0) s.picture.pixels),
        attention := if j.notify then s.exch.attention ||| 2 else s.exch.attention } }) ∧
  (s.picture.job = none ∨ s.picture.abandon = true → u = { s with picture := emptyEngine s })

end Sys2Proof.Machine
end

