-- ==== Sys2Proof/WellFormed.lean ====
section
/-! DEFINITION. Which commands are well formed: each check says that the command belongs to the row it names. `exec` runs an
ill-formed command too, by the rule of the write or event it stands for. -/

namespace Sys2Proof

open Sys2Proof.Machine

/-- The byte enables of a naturally aligned 32-bit, 16-bit or 8-bit write (R1). -/
def naturalEnables (be : BitVec 4) : Bool := be ∈ [0xF#4, 0x3#4, 0xC#4, 0x1#4, 0x2#4, 0x4#4, 0x8#4]

/-- A write that no other row of the table names (R2). -/
def ownExchangeWrite (word : BitVec 14) (be : BitVec 4) (value : Word) : Bool :=
  commandOfWrite word be value == .exchangeMemoryWrite word be value

/-- A write to the register window that changes nothing: any but a 32-bit write of CONTROL (R22, R23). -/
def ignoredRegisterWrite (word : BitVec 10) (be : BitVec 4) : Bool := !(word == 1 && be == 0xF)

/-- The bytes of a completion lie within a read of at most 256 bytes, and one that reports nothing brings bytes (R113). -/
def completionFits (place : Nat) (data : List Byte) (error poisoned : Bool) : Bool :=
  decide (place + data.length ≤ Config.readBytes) && (error || poisoned || !data.isEmpty)

/-- The well-formed commands. -/
def Instr.wellFormed : Instr → Bool
  | .exchangeMemoryWrite word be value => naturalEnables be && ownExchangeWrite word be value
  | .interruptEnableWrite value => !value.getLsbD 1
  | .functionReset value => value.getLsbD 1
  | .registerWriteIgnored word be _ => naturalEnables be && ignoredRegisterWrite word be
  | .hostReadCompletion _ place data error poisoned => completionFits place data error poisoned
  | .sessionOpen | .sessionClose | .post _ | .cancel _ | .free _ | .settingsCompletion | .attentionAcknowledge _
  | .journalTakenWrite _ | .notifyMarkWrite _ | .linkDown | .linkReset | .msiEnableChange _
  | .interruptDisableChange _ | .fastPass _ | .windowEnd | .slowScanEntry | .slowPass _ | .downTimeAdvance
  | .hold _ | .stuck _ | .repeatExpiry | .profileWaitExpiry | .hostReadTimeout _ | .rowWriteComplete
  | .clearingEnd | .carryCopyRowComplete | .verticalBlankStart | .panelStageExpiry | .conversionDue
  | .supplyConversionComplete _ | .ambientConversionComplete _ | .lightTick | .idleExpiry | .lineEdge _ _
  | .qualificationExpiry _ | .dockTimeAdvance | .lingerExpiry | .survivalComparatorTrip | .supplyDipStart
  | .coldStart _ | .linkUp | .busMasteringChange _ => true

end Sys2Proof
end

