-- ==== Sys2Proof/Certificates/Slice0/Obligations.lean ====
section
/-! DEFINITION. The statements for the provers. -/

open Sys2Proof Sys2Proof.Machine

/-! ### The step and the whole machine -/

/-- A step runs the command in front of the queue on the queue's rest; on an empty queue the block idles, which is the
model's choice (log entry 1). -/
def Obligations.StepRunsTheFrontCommand : Prop :=
  (∀ (s : State) (c : Instr) (rest : List Instr), s.pending = c :: rest →
    step s = exec c { s with pending := rest }) ∧
  (∀ s : State, s.pending = [] → step s = .next s)

/-- Every command in every state answers a next state, and none touches the queue of commands. -/
def Obligations.EveryCommandCompletes : Prop :=
  ∀ (c : Instr) (s : State), ∃ t, exec c s = .next t ∧ t.pending = s.pending

/-- Every step keeps the four memories in their canonical form. The canonical form, with 0 for an unlisted byte, is
the model's (log entry 27). -/
def Obligations.StepKeepsMemoriesCanonical : Prop :=
  ∀ s t : State, MemoryInv s → step s = .next t → MemoryInv t

/-- Every step keeps the Held Set equal to the DOWN positions, each once, at most 10 (R50, R60, R66). -/
def Obligations.StepKeepsHeldSet : Prop :=
  ∀ s t : State, HeldInv s → step s = .next t → HeldInv t

/-- Every step keeps (Head - Taken) modulo 2^32 at most 256 (R77). -/
def Obligations.StepKeepsRingBound : Prop :=
  ∀ s t : State, JournalInv s → step s = .next t → JournalInv t

/-- Every step keeps the backlight law: the target of R146, the immediate cases of R147, the key light of R148; the
output is then 0 while the panel is not ON or the power state is STANDBY, and at most 8 in the CRANK band. With it goes
what it rests on: the stage belongs to the panel state, and the panel is ON or STARTING only while it is wanted, in ACTIVE
with the wish ON (R123 to R126). -/
def Obligations.StepKeepsBacklightLaw : Prop :=
  ∀ s t : State, LightInv s → step s = .next t →
    LightInv t ∧
      (t.scanout.panel ≠ .on ∨ t.power.standby = true → t.light.output = 0 ∧ t.light.keyLight = 0) ∧
      (t.power.band = .crank → t.light.output ≤ 8)

/-- Every step keeps 0 ≤ I ≤ T_press, the ranges of the profile, and the scanner's counts and modes (R32, R37, R40, R42,
R45, R90). -/
def Obligations.StepKeepsScannerRanges : Prop :=
  ∀ s t : State, ScannerInv s → step s = .next t → ScannerInv t

/-- Every step keeps the Post Queue equal to the POSTED slots, the contexts' slots equal to the ACTIVE and CANCELLING
ones, and a CLOSED exchange empty (R8, R14, R15, R19). -/
def Obligations.StepKeepsSlotsAndQueue : Prop :=
  ∀ s t : State, ExchangeInv s → step s = .next t → ExchangeInv t

/-- No step leaves a slot waiting for a context that could take it (R15). -/
def Obligations.StepLeavesNoOpenTake : Prop :=
  ∀ s t : State, ExchangeInv s → oneTake s = none → step s = .next t → oneTake t = none

/-- Every step keeps drive mode derived from IGN and PARK, the linger timer running exactly in ACTIVE with IGN OFF, and
the linger time at most 240 minutes (R157, R164, R170). -/
def Obligations.StepKeepsDriveAndLinger : Prop :=
  ∀ s t : State, PowerInv s → step s = .next t → PowerInv t

/-- Every step keeps the reads of tablet memory at most 8, each of at most 256 bytes within one 4096-byte page (R113).
-/
def Obligations.StepKeepsReadsLegal : Prop :=
  ∀ s t : State, ReadsInv s → step s = .next t → ReadsInv t

/-- The state right after a cold start has every invariant. The reset levels of the lines and the link down are the
model's (log entries 8 and 9). -/
def Obligations.InvariantsHoldAtReset : Prop :=
  MemoryInv State.reset ∧ HeldInv State.reset ∧ JournalInv State.reset ∧ LightInv State.reset ∧
    ScannerInv State.reset ∧ ExchangeInv State.reset ∧ oneTake State.reset = none ∧ PowerInv State.reset ∧
    ReadsInv State.reset

/-- Only the end of a row write, the end of a carry copy's row, and the two starts that clear frame memory change a
frame buffer (R106, R117, R136). -/
def Obligations.OnlyRowEndsWriteFrameMemory : Prop :=
  ∀ (c : Instr) (s t : State), exec c s = .next t →
    c ≠ .rowWriteComplete → c ≠ .carryCopyRowComplete → c ≠ .supplyDipStart → (∀ l, c ≠ .coldStart l) →
    t.frames.a = s.frames.a ∧ t.frames.b = s.frames.b ∧ t.frames.standby = s.frames.standby

/-- Outside the journal ring, and outside the word that an EXCHANGE_MEMORY_WRITE names, no command but a part start
changes a byte of the Exchange Memory (R2, R24). -/
def Obligations.OnlyTabletWritesChangePlainBytes : Prop :=
  ∀ (c : Instr) (s t : State), s.mem.wf = true → exec c s = .next t → mayStart c = false →
    ∀ a, a < 0x0500 ∨ 0x1500 ≤ a →
      (∀ w be v, c = .exchangeMemoryWrite w be v → a < 4 * w.toNat ∨ 4 * w.toNat + 4 ≤ a) →
      t.mem.read a = s.mem.read a

/-- Dock Time moves only by DOCK_TIME_ADVANCE and the frame number only at a vertical blank start; COLD_START and
SUPPLY_DIP_START alone set them back (R24, R131, R166). -/
def Obligations.OnlyTheirEventsMoveTheClocks : Prop :=
  ∀ (c : Instr) (s t : State), exec c s = .next t → c ≠ .supplyDipStart → (∀ l, c ≠ .coldStart l) →
    t.power.dockTime =
      (if c = .dockTimeAdvance ∧ s.power.held = false then s.power.dockTime + 1 else s.power.dockTime) ∧
    t.scanout.frame =
      (if c = .verticalBlankStart ∧ s.power.held = false ∧ s.scanout.panel = .on then s.scanout.frame + 1
       else s.scanout.frame)

/-- The active profile changes only at a part start and at the swap of a staged profile at a pass boundary (R92, R97,
R98). -/
def Obligations.OnlyStartsAndSwapsChangeTheProfile : Prop :=
  ∀ (c : Instr) (s t : State), exec c s = .next t → t.profile.active ≠ s.profile.active →
    mayStart c = true ∨
      ((∃ raw, c = .fastPass raw ∨ c = .slowPass raw) ∧
        ∃ st, s.profile.staged = some st ∧ t.profile.active = st.profile)

/-! ### Writes to the Exchange Memory and the session (R1 to R8) -/

/-- EXCHANGE_MEMORY_WRITE by the kind of word: a plain word stores the bytes its enables cover and nothing else; a
part-owned word, a narrow write and any other value of a guarded word are counted with their offset; an unused header
word is ignored. What the tablet reads: every field of the header and of a slot record at its offset and size, with its
codes, zero in the bytes of the two that carry no field, and the stored bytes in the plain words and the regions
behind the Slot Array (R1 to R5, R11, R26). Byte enables that are not naturally aligned are the model's choice (log
entry 29). -/
def Obligations.ExchangeWritesFollowTheirWord : Prop :=
  (∀ (s : State) (w : BitVec 14) (be : BitVec 4) (v : Word), Linked s →
    (s.mem.wf = true → plainOffset (4 * w.toNat) →
      ∃ t, exec (.exchangeMemoryWrite w be v) s = .next t ∧ t = { s with mem := t.mem } ∧
        (∀ i, i < 4 → be.getLsbD i = true → readByte t (4 * w.toNat + i) = byteOf v i) ∧
        (∀ a, (∀ i, i < 4 → be.getLsbD i = true → a ≠ 4 * w.toNat + i) → t.mem.read a = s.mem.read a)) ∧
    (partOwnedOffset (4 * w.toNat) →
      exec (.exchangeMemoryWrite w be v) s = .next (afterRefusal (4 * w.toNat) s)) ∧
    (guardedOffset (4 * w.toNat) → be ≠ 0xF →
      exec (.exchangeMemoryWrite w be v) s = .next (afterRefusal (4 * w.toNat) s)) ∧
    (w = 1 → v ≠ 1 → v ≠ 2 →
      exec (.exchangeMemoryWrite w 0xF v) s = .next (afterRefusal 0x0004 s)) ∧
    (0x0100 ≤ 4 * w.toNat → 4 * w.toNat < 0x0500 → inSlot (4 * w.toNat) = 0 → v ≠ 0 → v ≠ 1 → v ≠ 8 →
      exec (.exchangeMemoryWrite w 0xF v) s = .next (afterRefusal (4 * w.toNat) s)) ∧
    (0x0044 ≤ 4 * w.toNat → 4 * w.toNat < 0x0100 → exec (.exchangeMemoryWrite w be v) s = .next s)) ∧
  (∀ s : State,
    let at16 := fun a => half (readByte s a) (readByte s (a + 1))
    (∀ w i, i < 4 → readByte s (4 * w + i) = byteOf (readWord s (4 * w)) i) ∧
    readWord s 0x0000 = 0x00010640 ∧ readWord s 0x0004 = (if s.exch.sessionOpen then 1 else 0) ∧
    readWord s 0x0008 = s.exch.sessionNo ∧ readWord s 0x000C = s.journal.head ∧ readWord s 0x0010 = s.journal.taken ∧
    readWord s 0x0014 = s.journal.mark ∧ readWord s 0x0018 = (if s.journal.armed then 1 else 0) ∧
    at16 0x001C = BitVec.ofNat 16 s.journal.lost ∧ readByte s 0x001E = (if s.journal.episode then 1 else 0) ∧
    readByte s 0x001F = 0 ∧ readWord s 0x0020 = s.exch.attention.setWidth 32 ∧ readWord s 0x0024 = 0 ∧
    at16 0x0028 = BitVec.ofNat 16 s.exch.refused ∧ at16 0x002A = s.exch.lastRefused ∧
    readByte s 0x002C = (match s.power.startCause with | .cold => 1 | .supplyDip => 2 | .functionReset => 3) ∧
    readByte s 0x002D = (match s.power.prior with | .none => 0 | .active => 1 | .standby => 2) ∧
    readByte s 0x002E = BitVec.ofNat 8 s.power.dipCount ∧ readByte s 0x002F = 0 ∧
    readWord s 0x0030 = s.scanout.frame ∧ at16 0x0034 = s.profile.active.tag ∧ at16 0x0036 = 0 ∧
    at16 0x0038 = BitVec.ofNat 16 s.light.ambient ∧ at16 0x003A = s.measure.millivolts ∧
    readByte s 0x003C = BitVec.ofNat 8 s.light.output ∧ readByte s 0x003D = BitVec.ofNat 8 s.light.keyLight ∧
    readByte s 0x003E = BitVec.ofNat 8 s.scanner.vib ∧ readByte s 0x003F = BitVec.ofNat 8 s.composer.held.length ∧
    readWord s 0x0040 = s.power.dockTime ∧ (∀ w, 0x0044 ≤ 4 * w → 4 * w < 0x0100 → readWord s (4 * w) = 0) ∧
    (∀ k : Fin 16,
      let o := 0x0100 + 64 * k.val
      readWord s o = (match (slot s k).state with
        | .free => 0 | .posted => 1 | .active => 2 | .cancelling => 3 | .done => 4 | .failed => 5 | .cancelled => 6) ∧
      readByte s (o + 8) = (match (slot s k).code with
        | .ok => 0 | .cancelled => 1 | .badKind => 2 | .badParam => 3 | .badAlign => 4 | .readError => 5
        | .keysHeld => 6) ∧
      readByte s (o + 9) = (slot s k).flags ∧ readByte s (o + 0xA) = 0 ∧ readByte s (o + 0xB) = 0 ∧
      readWord s (o + 0x0C) = (slot s k).postNo ∧
      readWord s (o + 0x10) = (slot s k).frame ∧ readWord s (o + 0x14) = (slot s k).time ∧
      readWord s (o + 0x18) = BitVec.ofNat 32 (slot s k).count ∧
      (∀ i, i = 4 ∨ (0x1C ≤ i ∧ i < 64 ∧ i % 4 = 0) → readWord s (o + i) = s.mem.word (o + i))) ∧
    (∀ w, 0x0500 ≤ 4 * w → readWord s (4 * w) = s.mem.word (4 * w)))

/-- SESSION_OPEN while CLOSED and DOCKED: the counts start afresh, and the RESYNC group of the Held Set stands at
sequence numbers 0 to n (R6, R84, R87). That the session number wraps to 0 past 2^32 - 1 is the model's choice (log
entry 38). -/
def Obligations.SessionOpenWritesResyncGroup : Prop :=
  ∀ s : State, Linked s → s.exch.sessionOpen = false → s.lines.docked = true → s.mem.wf = true →
    s.composer.held.length ≤ 10 →
    ∃ t, exec .sessionOpen s = .next t ∧
      t = { s with
        mem := t.mem,
        exch := { s.exch with sessionOpen := true, sessionNo := s.exch.sessionNo + 1, refused := 0, lastRefused := 0,
                              nextPost := 0, attention := 0 },
        journal := ⟨BitVec.ofNat 32 (1 + s.composer.held.length), 0, 0, false, 0, false⟩,
        scanout.presented := false } ∧
      recordAt t.mem 0 s.power.dockTime
        ⟨.resync, none, 0, snapshot s, 0, BitVec.ofNat 16 s.composer.held.length⟩ ∧
      (∀ (i : Nat) (h : i < s.composer.held.length),
        recordAt t.mem (BitVec.ofNat 32 (i + 1)) s.power.dockTime
          ⟨.held, some s.composer.held[i], usageOf s s.composer.held[i], snapshot s, 0, BitVec.ofNat 16 (i + 1)⟩) ∧
      (∀ a, a < 0x0500 ∨ 0x0510 + 16 * s.composer.held.length ≤ a → t.mem.read a = s.mem.read a)

/-- SESSION_CLOSE while OPEN: every slot FREE with its other fields kept, the queue and attention empty, the contexts'
work abandoned, the journal frozen, the presented flag clear. An open while OPEN and a close while CLOSED are ignored,
an open while not docked is refused, and the word reads CLOSED or OPEN (R5, R8, R88). That the engine's fields are
cleared when it is FREE is the model's choice (log entry 28). -/
def Obligations.SessionCloseFreesEverySlot : Prop :=
  (∀ s : State, Linked s → s.exch.sessionOpen = true →
      ∃ t, exec .sessionClose s = .next t ∧
        t = { s with
          exch := { s.exch with sessionOpen := false, slots := s.exch.slots.map (fun r => { r with state := .free }),
                                queue := [], attention := 0, settingsJob := none },
          profile := { s.profile with staged := none, job := none },
          picture := t.picture,
          scanout := { s.scanout with presented := false, waiting := none,
                                      carry := s.scanout.carry.map (fun c => { c with abandoned := true }) } } ∧
        t.picture = (match s.picture.work with
          | .free => { s.picture with job := none }
          | .paused => emptyEngine s
          | .row | .stopping => { s.picture with job := none, work := .stopping, abandon := true }) ∧
        intx t = false) ∧
  (∀ s : State, Linked s →
      (s.exch.sessionOpen = true → exec .sessionOpen s = .next s) ∧
      (s.exch.sessionOpen = false → s.lines.docked = false → exec .sessionOpen s = .next (afterRefusal 0x0004 s)) ∧
      (s.exch.sessionOpen = false → exec .sessionClose s = .next s) ∧
      readWord s 0x0004 = (if s.exch.sessionOpen then 1 else 0))

/-! ### Slots and the contexts (R9 to R18) -/

/-- POST of a FREE slot: the fields of R9, and the contexts then look at the queue; any other POST is refused (R9,
R11). -/
def Obligations.PostQueuesTheSlot : Prop :=
  ∀ (s : State) (k : Fin 16), Linked s →
    (s.exch.sessionOpen = true → (slot s k).state = .free →
      exec (.post k) s = .next (look { s with
        exch := { s.exch with
          slots := s.exch.slots.set k.val ⟨.posted, .ok, 0, s.exch.nextPost, 0, 0, 0⟩,
          nextPost := s.exch.nextPost + 1,
          queue := s.exch.queue ++
            [⟨k, s.mem.read (0x0104 + 64 * k.val), s.mem.read (0x0105 + 64 * k.val) == 1,
              s.mem.read (0x0106 + 64 * k.val) != 0⟩] } })) ∧
    (s.exch.sessionOpen = false ∨ (slot s k).state ≠ .free →
      exec (.post k) s = .next (afterRefusal (0x0100 + 64 * k.val) s))

/-- When the contexts have looked at the queue, no free context has a slot of its kinds left in it, unless PICTURE is
held; the PICTURE context takes only while it is free and not held, and from the queue as it stands a picture slot with
no PRESENT before it, the first URGENT one before which no PRESENT stands, or with none the first picture slot; the
SETTINGS and PROFILE contexts take the first URGENT slot of their kinds, or with none the first of them (R15 to R18,
R104). -/
def Obligations.ContextsTakeByTheRules : Prop :=
  (∀ s t : State, look s = t →
      (t.exch.settingsJob = none → ∀ e ∈ t.exch.queue, isSettingsKind e.kind = false) ∧
      (t.profile.job = none → ∀ e ∈ t.exch.queue, e.kind ≠ kindProfile) ∧
      (t.picture.job = none → t.picture.work = .free → t.scanout.carry = none → t.power.standby = false →
        t.frames.clearing = false → ∀ e ∈ t.exch.queue, isPictureKind e.kind = false)) ∧
  (∀ s t : State, pictureTake s = some t →
      s.picture.job = none ∧ s.picture.work = .free ∧ s.scanout.carry = none ∧ s.power.standby = false ∧
      s.frames.clearing = false ∧ ∃ e before behind, t = takeByPicture e s ∧
        s.exch.queue = before ++ e :: behind ∧ isPictureKind e.kind = true ∧
        (∀ x ∈ before, x.kind ≠ kindPresent) ∧
        (e.urgent = true → ∀ x ∈ before, isPictureKind x.kind = true → x.urgent = false) ∧
        (e.urgent = false →
          (∀ x ∈ before, isPictureKind x.kind = false) ∧
          (∀ mid x rest, behind = mid ++ x :: rest → e.kind ≠ kindPresent → (∀ y ∈ mid, y.kind ≠ kindPresent) →
            isPictureKind x.kind = true → x.urgent = false))) ∧
  (∀ s t : State,
      let chosen := fun (own : Byte → Bool) (e : Entry) => ∃ before behind, s.exch.queue = before ++ e :: behind ∧
        own e.kind = true ∧ (e.urgent = true → ∀ x ∈ before, own x.kind = true → x.urgent = false) ∧
        (e.urgent = false → (∀ x ∈ before, own x.kind = false) ∧ ∀ x ∈ behind, own x.kind = true → x.urgent = false)
      (settingsTake s = some t → s.exch.settingsJob = none ∧
        ∃ e, t = takeBySettings e s ∧ chosen (fun k => !isPictureKind k && k != kindProfile) e) ∧
      (profileTake s = some t → s.profile.job = none ∧ ∃ e, t = takeByProfile e s ∧ chosen (fun k => k == kindProfile) e))

/-- CANCEL of a slot that no context holds: a POSTED slot ends CANCELLED and leaves the queue, a finished one is
ignored, a FREE one or any while CLOSED is refused. FREE gives back a DONE, FAILED or CANCELLED slot with its other
fields kept; any other FREE is refused (R10, R11). -/
def Obligations.CancelAndFreeOutsideWork : Prop :=
  (∀ (s : State) (k : Fin 16), Linked s →
      (∀ e, s.exch.sessionOpen = true → (slot s k).state = .posted →
        s.exch.queue.find? (fun x => x.slot == k) = some e → ∃ u,
          exec (.cancel k) s = .next (look (if e.notify then raise .slot u else u)) ∧
          u = { s with exch := { s.exch with
            queue := s.exch.queue.filter (fun x => x.slot != k),
            slots := s.exch.slots.set k.val (completedSlot s k .cancelled .cancelled 0 0) } }) ∧
      (s.exch.sessionOpen = true →
        (slot s k).state = .cancelling ∨ (slot s k).state = .done ∨ (slot s k).state = .failed ∨
          (slot s k).state = .cancelled → exec (.cancel k) s = .next s) ∧
      (s.exch.sessionOpen = false ∨ (slot s k).state = .free →
        exec (.cancel k) s = .next (afterRefusal (0x0100 + 64 * k.val) s))) ∧
  (∀ (s : State) (k : Fin 16), Linked s →
      (s.exch.sessionOpen = true →
        (slot s k).state = .done ∨ (slot s k).state = .failed ∨ (slot s k).state = .cancelled →
        exec (.free k) s = .next { s with exch := { s.exch with
          slots := s.exch.slots.set k.val { slot s k with state := .free } } }) ∧
      (s.exch.sessionOpen = false ∨ (slot s k).state = .free ∨ (slot s k).state = .posted ∨
          (slot s k).state = .active ∨ (slot s k).state = .cancelling →
        exec (.free k) s = .next (afterRefusal (0x0100 + 64 * k.val) s)))

/-- CANCEL of an ACTIVE slot: INDICATORS, LIGHT, VEHICLE and a COPY or FILL in a row become CANCELLING and go on; a
waiting PANEL, a staged PROFILE, a paused COPY or FILL and a PRESENT before its swap end CANCELLED at once (R13, R101,
R119, R130, R137). That the engine's fields are cleared when it is FREE is the model's choice (log entry 28). -/
def Obligations.CancelOfActiveSlot : Prop :=
  ∀ (s : State) (j : Job), ExchangeInv s → Linked s → s.exch.sessionOpen = true → (slot s j.slot).state = .active →
    (s.exch.settingsJob = some j ∧ completesLater j.kind = true ∨
        s.picture.job = some j ∧ s.scanout.waiting = none ∧ s.picture.work ≠ .paused →
      exec (.cancel j.slot) s = .next (look { s with exch := { s.exch with
        slots := s.exch.slots.set j.slot.val { slot s j.slot with state := .cancelling } } })) ∧
    (s.exch.settingsJob = some j → j.kind = kindPanel → ∃ u,
      exec (.cancel j.slot) s = .next (look (if j.notify then raise .slot u else u)) ∧
      u = { s with exch := { s.exch with
        settingsJob := none, slots := s.exch.slots.set j.slot.val (completedSlot s j.slot .cancelled .cancelled 0 0) } }) ∧
    (∀ st, s.profile.job = some j → s.profile.staged = some st → ∃ u,
      exec (.cancel j.slot) s = .next (look (if j.notify then raise .slot u else u)) ∧
      u = { s with
        profile := { s.profile with staged := none, job := none },
        exch := { s.exch with
          slots := s.exch.slots.set j.slot.val
            (completedSlot s j.slot .cancelled .cancelled (if st.clamped then 2 else 0) 0) } }) ∧
    (s.picture.job = some j → s.scanout.waiting.isSome = true → ∃ u,
      exec (.cancel j.slot) s = .next (look (if j.notify then raise .slot u else u)) ∧
      u = { s with
        picture := { s.picture with job := none }, scanout := { s.scanout with waiting := none },
        exch := { s.exch with
          slots := s.exch.slots.set j.slot.val (completedSlot s j.slot .cancelled .cancelled 0 0) } }) ∧
    (s.picture.job = some j → s.scanout.waiting = none → s.picture.work = .paused → ∃ u,
      exec (.cancel j.slot) s = .next (look (if j.notify then raise .slot u else u)) ∧
      u = { s with
        picture := emptyEngine s,
        exch := { s.exch with
          slots := s.exch.slots.set j.slot.val
            (completedSlot s j.slot .cancelled .cancelled (if s.picture.clipped then 1 else 0) s.picture.pixels) } })

/-! ### Attention, the register window and the link (R19 to R25) -/

/-- ATTENTION_ACKNOWLEDGE: the named causes go while OPEN, and a message falls due when attention is non-empty after it;
while CLOSED it is ignored. A cause is raised into attention, with a message when attention leaves empty. A message is
sent while MSI, bus mastering and the link allow it (R19, R20). -/
def Obligations.AttentionAndItsMessages : Prop :=
  ∀ s : State,
    let sent := fun (fallsDue : Bool) =>
      if fallsDue && s.link.msiEnable && s.link.busMastering && s.link.up then s.link.messages + 1
      else s.link.messages
    (∀ v : Word, Linked s →
      (s.exch.sessionOpen = true → exec (.attentionAcknowledge v) s = .next { s with
        exch := { s.exch with attention := s.exch.attention &&& ~~~v.setWidth 3 },
        link := { s.link with messages := sent (s.exch.attention &&& ~~~v.setWidth 3 != 0 && s.link.intEnable) } }) ∧
      (s.exch.sessionOpen = false → exec (.attentionAcknowledge v) s = .next s)) ∧
    (∀ c : Cause, raise c s = { s with
      exch := { s.exch with attention := s.exch.attention |||
        (match c with | .mark => 1 | .slot => 2 | .loss => 4) },
      link := { s.link with messages := sent (s.exch.attention == 0 && s.link.intEnable) } })

/-- INTERRUPT_ENABLE_WRITE stores interrupt enable, with a message when it goes from clear to set while attention is
non-empty; with the function reset field set it is a FUNCTION_RESET; REGISTER_WRITE_IGNORED changes nothing; the
registers read as R22 and R23 say, and zero to a read narrower than 32 bits. That a value with the reset field is a
reset in either row is the model's reading (log entry 31). -/
def Obligations.RegisterWindowActs : Prop :=
  ∀ (s : State) (v : Word), Linked s →
    (v.getLsbD 1 = false → exec (.interruptEnableWrite v) s = .next { s with link := { s.link with
      intEnable := v.getLsbD 0,
      messages := if s.link.intEnable = false ∧ v.getLsbD 0 = true ∧ s.exch.attention ≠ 0 ∧ s.link.msiEnable = true ∧
        s.link.busMastering = true then s.link.messages + 1 else s.link.messages } }) ∧
    (v.getLsbD 1 = true → exec (.interruptEnableWrite v) s = exec (.functionReset v) s) ∧
    (∀ (word : BitVec 10) (be : BitVec 4), word ≠ 1 ∨ be ≠ 0xF →
      exec (.registerWriteIgnored word be v) s = .next s) ∧
    (∀ (word : BitVec 10) (be : BitVec 4), registerRead s word be = if be = 0xF then readRegister s word else 0) ∧
    readRegister s 0 = 0x40010640 ∧ readRegister s 1 = (if s.link.intEnable then 1 else 0) ∧
    (∀ word : BitVec 10, 2 < word.toNat → readRegister s word = 0) ∧
    (readRegister s 2).getLsbD 0 = s.power.standby ∧ (readRegister s 2).getLsbD 1 = s.exch.sessionOpen ∧
    (readRegister s 2).extractLsb' 2 2 = (match s.power.band with | .normal => 0 | .low => 1 | .crank => 2) ∧
    (readRegister s 2).getLsbD 4 = s.lines.drive ∧
    (readRegister s 2).extractLsb' 5 2 =
      (match s.scanout.panel with | .off => 0 | .starting => 1 | .on => 2 | .stopping => 3) ∧
    (readRegister s 2).getLsbD 7 = (s.scanout.source == .standby) ∧ (readRegister s 2).toNat < 256

/-- LINK_UP and the changes of the configuration by the tablet store their setting and change nothing else; INTx is
asserted exactly while its conditions hold, with the link up. LINK_DOWN and LINK_RESET end an open session and give
the reads up, while a row whose write has begun runs on as abandoned work. Where LINK_DOWN meets a HOST row in its fetch, the failed read or the session end comes first, as the free
value of log entry 11 says: a failure taken first completes the slot with READ_ERROR, the contexts look at the queue,
and the loss of the link goes on from there. With the session CLOSED the two only give the reads up; the link reset sets
the configuration to its start values; every other block stays, but for what such a look takes (R12, R21, R25, R120). The
start value of the interrupt-disable control, the cleared engine and that a link reset leaves link.up are the model's
(log entries 7, 28 and 33); that only an access over the link changes the configuration, and that windows and memory
decoding are stored and gate nothing, is log entry 6. -/
def Obligations.LinkEventsAct : Prop :=
  (∀ (s : State) (on : Bool) (config : FunctionConfig),
      (Running s → exec .linkUp s = .next { s with link := { s.link with up := true } }) ∧
      (s.link.up = false → exec .linkDown s = .next s) ∧
      (Linked s →
        exec (.msiEnableChange on) s = .next { s with link := { s.link with msiEnable := on } } ∧
        exec (.interruptDisableChange on) s = .next { s with link := { s.link with intxDisable := on } } ∧
        exec (.busMasteringChange config) s = .next { s with link := { s.link with
          windowsAssigned := config.windows, memoryDecoding := config.decoding, busMastering := config.busMastering } } ∧
        (intx s = true ↔ s.link.msiEnable = false ∧ s.exch.attention ≠ 0 ∧ s.link.intEnable = true ∧
          s.link.intxDisable = false))) ∧
  (∀ s : State, Running s → s.exch.sessionOpen = true →
      let ended := fun (t : State) =>
        t.exch = { s.exch with
          sessionOpen := false, slots := t.exch.slots, queue := [], attention := 0, settingsJob := none } ∧
        (∀ k, (slot t k).state = .free) ∧ t.profile = { s.profile with staged := none, job := none } ∧
        t.scanout = { s.scanout with
          presented := false, waiting := none, carry := s.scanout.carry.map (fun c => { c with abandoned := true }) } ∧
        t.picture = (match s.picture.work with
          | .free => { s.picture with job := none }
          | .paused => emptyEngine s
          | .row | .stopping =>
            if s.picture.writing then { s.picture with job := none, work := .stopping, abandon := true }
            else emptyEngine s) ∧
        t.journal = s.journal ∧ t.mem = s.mem ∧ t.frames = s.frames ∧ t.scanner = s.scanner ∧
        t.composer = s.composer ∧ t.measure = s.measure ∧ t.light = s.light ∧ t.lines = s.lines ∧ t.power = s.power
      (s.link.up = true → ∃ t, exec .linkDown s = .next t ∧ t.link = { s.link with up := false } ∧ intx t = false ∧
        t.exch.sessionOpen = false ∧ t.exch.queue = [] ∧ t.exch.attention = 0 ∧ (∀ k, (slot t k).state = .free) ∧
        t.picture.job = none ∧ t.frames = s.frames ∧
        (if s.picture.work = .row ∧ s.picture.writing = false ∧ Config.eitherOrder s.freeCount = true then
          ∃ u, ReadFailed { s with freeCount := s.freeCount + 1, link := { s.link with up := false } } u ∧
            exec .linkDown { look u with link := { (look u).link with up := true } } = .next t
        else ended t)) ∧
      (∃ t, exec .linkReset s = .next t ∧ ended t ∧ t.link = { s.link with
        windowsAssigned := false, memoryDecoding := false, busMastering := false, msiEnable := false,
        intxDisable := false })) ∧
  (∀ s : State, Running s → s.exch.sessionOpen = false →
      let given : State := { s with
        picture := (if s.picture.work = .stopping ∧ s.picture.writing = false then emptyEngine s else s.picture) }
      (s.link.up = true → exec .linkDown s = .next { given with link := { s.link with up := false } }) ∧
      exec .linkReset s = .next { given with link := { s.link with
        windowsAssigned := false, memoryDecoding := false, busMastering := false, msiEnable := false,
        intxDisable := false } })

/-! ### The key path (spec 02, 03) -/

/-- FAST_PASS, in ACTIVE and in STANDBY alike: every integrator and previous sample follow the masked sample of the levels
read, low being closed; an UP key leaves UP exactly at T_press, any other key becomes UP exactly at Rb: the release
decisions are taken first and the press decisions then, each in ascending position order; C counts the chattering
positions, and the drive lines are taken up. Then come the window accounting, the idle accounting and, at the
pass boundary, the quiet test; with nothing staged, outside a window's last pass, in ACTIVE, only the window count
grows. A sense line that reads high under every drive line gives open samples; a drive line with all sixteen levels low
gives closed ones, under the mask. Unless a due linger timer meets KEY activity, or a key may wake the part, the picture
path, the panel, the power state and the light settings stay (R28 to R37, R45, R97, R175, R178, R180). The mark of the
last pass is the model's own (log entry 5). -/
def Obligations.FastPassJudgesEveryKey : Prop :=
  ∀ (s : State) (levels : BitVec 128), HeldInv s → PowerInv s → Running s → s.scanner.mode = .fast →
    s.scanner.passAt ≠ s.power.dockTime → ∃ u,
    exec (.fastPass levels) s = .next (look (quietTest (countIdle (countWindow u)))) ∧
    (s.profile.staged = none → s.scanner.windowPasses < 63 → u.power.standby = false →
      exec (.fastPass levels) s = .next (look { u with scanner := { u.scanner with
        windowPasses := s.scanner.windowPasses + 1 } })) ∧
    (∀ p : Fin 128, ((key u p).prev = true ↔ closedSample (~~~levels) s p) ∧
      (key u p).integ = (if (key u p).prev then min (s.profile.active.pressBase + s.scanner.vib) ((key s p).integ + 1)
        else (key s p).integ - 1) ∧
      ((key s p).state = .up →
        ((key u p).state ≠ .up ↔ s.profile.active.pressBase + s.scanner.vib ≤ (key u p).integ)) ∧
      ((key s p).state ≠ .up →
        (key u p).state = (if (key u p).integ ≤ s.profile.active.releaseBase then .up else (key s p).state))) ∧
    (∀ p : Fin 128, (∀ d, d < 8 → levels.getLsbD (16 * d + p.val % 16) = true) → (key u p).prev = false) ∧
    (∀ p : Fin 128, classOf s p ≠ .none →
      (∀ c, c < 16 → levels.getLsbD (16 * (p.val / 16) + c) = false) →
      (key s p).state ≠ .up ∨ (∀ q : Fin 128, q.val / 16 ≠ p.val / 16 → levels.getLsbD q.val = true) →
      (key u p).prev = true) ∧
    (let released := positions.filter fun p =>
       (key s p).state != .up && decide ((key u p).integ ≤ s.profile.active.releaseBase)
     let pressed := positions.filter fun p =>
       (key s p).state == .up && decide (s.profile.active.pressBase + s.scanner.vib ≤ (key u p).integ)
     ∃ v : State,
      v = { s with
        scanner := { s.scanner with passAt := s.power.dockTime, driven := true },
        composer := { s.composer with keys := v.composer.keys } } ∧
      v.composer.keys.length = 128 ∧ (∀ p, key v p = { key s p with integ := (key u p).integ }) ∧
      let w := pressed.foldl (fun x p => press p x) (released.foldl (fun x p => release p x) v)
      u = { w with
        scanner := { w.scanner with chatter := u.scanner.chatter },
        composer := { w.composer with keys := u.composer.keys } } ∧
      u.composer.keys.length = 128 ∧ ∀ p, key u p = { key w p with prev := (key u p).prev }) ∧
    u.scanner = { s.scanner with
      passAt := s.power.dockTime, driven := true, idlePasses := u.scanner.idlePasses,
      chatter := min 255 (s.scanner.chatter + (positions.filter fun p =>
        classOf s p != .none && (key u p).prev != (key s p).prev &&
          decide (s.profile.active.releaseBase < (key s p).integ) &&
          decide ((key s p).integ < s.profile.active.pressBase + s.scanner.vib)).length) } ∧
    (pins u).matrixDriven = true ∧ u.profile = s.profile ∧ u.frames = s.frames ∧ u.measure = s.measure ∧
    u.lines = s.lines ∧
    (due s s.power.lingerEnds = false ∨ s.power.lingerSources.getLsbD 0 = false →
      s.power.standby = false ∨ s.power.keyWake = false →
      u.scanner.idlePasses = s.scanner.idlePasses ∧ u.picture = s.picture ∧ u.scanout = s.scanout ∧
      u.power = { s.power with lingerEnds := u.power.lingerEnds } ∧
      u.light = { s.light with
        idle := u.light.idle, idleEnds := u.light.idleEnds, target := u.light.target, output := u.light.output,
        keyLight := u.light.keyLight })

/-- A press decision takes the first of its cases: the wake, swallowed or followed by the other cases, drive, rollover,
ordinary, with the record of the case and the repeat context of R65, and ends with its KEY activity event. Where a due linger timer meets its KEY activity in
ACTIVE, the expiry or the activity comes first, as the free value of log entry 11 says. A release decision makes a DOWN
key UP, takes it out of the Held Set, stops its own repeat and builds a RELEASE record; a MUTED or STUCK key becomes UP
and nothing else changes (R49 to R58, R64, R65, R67, R175). -/
def Obligations.KeyDecisionsTakeTheirCase : Prop :=
  (∀ (s : State) (p : Fin 128), (key s p).state = .up →
      let t := press p s
      let meets := !s.power.standby && s.power.lingerSources.getLsbD 0 && due s s.power.lingerEnds
      let record := fun (kind : RecordKind) (mods : Byte) (detail : Half) =>
        (⟨kind, some p, usageOf s p, mods, 0, detail⟩ : Rec)
      let records := fun (rs : List Rec) =>
        Writes (rs ++ if meets && t.power.standby then [⟨.power, none, 0, snapshot t, 0, 0⟩] else []) s t
      let awake := fun (w : State) (rs : List Rec) =>
        let muted := t.composer = { w.composer with keys := w.composer.keys.set p.val { key w p with state := .muted } }
        (driveForbids s p = true → muted ∧ records (rs ++ [record .suppressed (snapshot s) 0])) ∧
        (driveForbids s p = false → 10 ≤ s.composer.held.length →
          muted ∧ records (rs ++ [record .rollover (snapshot s) 0])) ∧
        (driveForbids s p = false → s.composer.held.length < 10 →
          let held := s.composer.held ++ [p]
          t.composer.keys = w.composer.keys.set p.val { key w p with state := .down, downTime := 0, holdSeen := false } ∧
          t.composer.held = held ∧
          (classOf s p = .repeating → t.composer.subject = some p ∧ t.composer.repeatCount = 0 ∧
            t.composer.repeatEnds = s.power.dockTime + ms s.profile.active.repeatDelay) ∧
          (classOf s p = .plain ∨ classOf s p = .hold → t.composer.subject = none ∧ t.composer.repeatCount = 0) ∧
          (∀ r, classOf s p = .modifier r →
            t.composer = { w.composer with keys := t.composer.keys, held := held }) ∧
          records (rs ++ [record .press (snapshotOf s held) 0]))
      let met := if s.power.standby && s.power.keyWake then wakeSource (.key p) s else s
      (meets = false → ActivityTaken 0 met t) ∧
      (meets = true → s.light.settings.idleSources.getLsbD 0 = true → s.light.idle ≠ .off →
        t.light.idle = .running ∧ t.light.idleEnds = s.power.dockTime + ms (s.light.settings.idleTimeout * 1000)) ∧
      (s.power.standby = true → s.power.keyWake = true →
        let woken := wakeSource (.key p) s
        t.power.standby = false ∧ (∀ q, (key woken q).state = (key s q).state) ∧
        (s.power.swallow = true →
          t.composer = { woken.composer with
            keys := woken.composer.keys.set p.val { key woken p with state := .muted } } ∧
          t.composer.held = s.composer.held ∧ t.composer.subject = s.composer.subject ∧
          records [record .power (snapshot s) 2]) ∧
        (s.power.swallow = false → awake woken [record .power (snapshot s) 2])) ∧
      (s.power.standby = false ∨ s.power.keyWake = false →
        awake s [] ∧ (meets = false → t.power.standby = s.power.standby) ∧
        (meets = true →
          t.power.standby = Config.eitherOrder s.freeCount ∧ t.freeCount = s.freeCount + 1 ∧
          t.power.lingerEnds = (if t.power.standby then none
            else some (s.power.dockTime + ms (if s.power.lingerMin = 0 then 60000 else 60000 * s.power.lingerMin)))))) ∧
  (∀ (s : State) (p : Fin 128),
      let held := s.composer.held.filter (fun q => q != p)
      let t := release p s
      ((key s p).state = .up → t = s) ∧
      ((key s p).state = .muted ∨ (key s p).state = .stuck → t = { s with composer := { s.composer with
        keys := s.composer.keys.set p.val { key s p with state := .up } } }) ∧
      ((key s p).state = .down →
        t = { s with composer := t.composer, mem := t.mem, journal := t.journal, exch := t.exch, link := t.link } ∧
        t.composer.keys = s.composer.keys.set p.val { key s p with state := .up, downTime := 0 } ∧
        t.composer.held = held ∧
        (s.composer.subject = some p → t.composer.subject = none ∧ t.composer.repeatCount = 0) ∧
        (s.composer.subject ≠ some p →
          t.composer = { s.composer with keys := t.composer.keys, held := held }) ∧
        Writes [⟨.release, some p, usageOf s p, snapshotOf s held, 0, 0⟩] s t))

/-- WINDOW_END: V jumps to raw, falls by one or stays, or is 0 with adaptation off; every integrator is clamped to the
new T_press; C and the count of the window become 0. SLOW_SCAN_ENTRY at 2000 idle passes in FAST scan in STANDBY: SLOW
scan, with every integrator, V, C and the window 0; key states and all else stay. The window accounting and the idle
accounting that end a FAST pass make the same end or entry where their count reaches 64 or 2000; before it the count
alone grows, a key that is DOWN or MUTED sets the idle count to 0, and in ACTIVE there is no idle accounting (R37 to
R40, R45; log entry 16). The mark of the entry is the model's own (log entry 5), and that the idle pass count keeps its
value is log entry 24. -/
def Obligations.WindowEndAndSlowEntry : Prop :=
  (∀ s : State, Running s → s.scanner.mode = .fast →
      (64 ≤ s.scanner.windowPasses → ∃ t, exec .windowEnd s = .next t ∧
        t = { s with scanner := t.scanner, composer := t.composer } ∧
        t.scanner = { s.scanner with vib := t.scanner.vib, chatter := 0, windowPasses := 0 } ∧
        (s.profile.active.adaptation = true → s.scanner.vib < min 8 (s.scanner.chatter / 4) →
          t.scanner.vib = min 8 (s.scanner.chatter / 4)) ∧
        (s.profile.active.adaptation = true → min 8 (s.scanner.chatter / 4) < s.scanner.vib →
          t.scanner.vib = s.scanner.vib - 1) ∧
        (s.profile.active.adaptation = true → s.scanner.vib = min 8 (s.scanner.chatter / 4) →
          t.scanner.vib = s.scanner.vib) ∧
        (s.profile.active.adaptation = false → t.scanner.vib = 0) ∧
        byteOf (readWord t 0x003C) 2 = BitVec.ofNat 8 t.scanner.vib ∧
        t.composer = { s.composer with keys := s.composer.keys.map fun k =>
          { k with integ := min k.integ (s.profile.active.pressBase + t.scanner.vib) } }) ∧
      (s.scanner.windowPasses < 64 → exec .windowEnd s = .next s) ∧
      (s.scanner.windowPasses = 63 →
        exec .windowEnd { s with scanner := { s.scanner with windowPasses := 64 } } = .next (countWindow s)) ∧
      (s.scanner.windowPasses < 63 →
        countWindow s = { s with scanner := { s.scanner with windowPasses := s.scanner.windowPasses + 1 } })) ∧
  (∀ s : State, Running s → s.scanner.mode = .fast →
      (s.power.standby = true → 2000 ≤ s.scanner.idlePasses → exec .slowScanEntry s = .next { s with
        scanner := { s.scanner with
          mode := .slow, vib := 0, chatter := 0, windowPasses := 0, passAt := s.power.dockTime },
        composer := { s.composer with keys := s.composer.keys.map fun k => { k with integ := 0 } } }) ∧
      (s.power.standby = false ∨ s.scanner.idlePasses < 2000 → exec .slowScanEntry s = .next s) ∧
      (s.power.standby = true → (∀ k ∈ s.composer.keys, k.state = .up ∨ k.state = .stuck) → s.scanner.idlePasses = 1999 →
        exec .slowScanEntry { s with scanner := { s.scanner with idlePasses := 2000 } } = .next (countIdle s)) ∧
      (s.power.standby = true → (∀ k ∈ s.composer.keys, k.state = .up ∨ k.state = .stuck) → s.scanner.idlePasses < 1999 →
        countIdle s = { s with scanner := { s.scanner with idlePasses := s.scanner.idlePasses + 1 } }) ∧
      (s.power.standby = true → (∃ k ∈ s.composer.keys, k.state = .down ∨ k.state = .muted) →
        countIdle s = { s with scanner := { s.scanner with idlePasses := 0 } }) ∧
      (s.power.standby = false → countIdle s = s))

/-- SLOW_PASS at a 32nd millisecond: the samples of R29 and R30 are stored, open STUCK keys become UP, and a closed
sample of an UP key switches the scan to FAST with fresh integrators and a fresh window; at the boundary comes the quiet
test, and where the switch meets a staged profile the swap is made before or after it, as the free value of log entry 11
says (R42 to R44, R97, R99, R180). That a SLOW_PASS at any other time has no effect is the model's (log entry 3), as is
the mark of the last pass (log entry 5). -/
def Obligations.SlowPassSwitchesAndReleases : Prop :=
  (∀ (s : State) (levels : BitVec 128), Running s → s.composer.keys.length = 128 → s.scanner.mode = .slow →
    (s.power.dockTime ≠ s.scanner.passAt → (s.power.dockTime - s.scanner.passAt).toNat % 32 = 0 →
      (∀ p, (key s p).state = .up ∨ (key s p).state = .stuck) → ∃ u,
      u = { s with
        scanner := { s.scanner with passAt := s.power.dockTime, driven := true },
        composer := { s.composer with keys := u.composer.keys } } ∧
      (∀ p, ((key u p).prev = true ↔ closedSample (~~~levels) s p) ∧ (key u p).integ = (key s p).integ ∧
        (key u p).state = (if (key u p).prev then (key s p).state else .up)) ∧
      ((¬∃ p, (key s p).state = .up ∧ closedSample (~~~levels) s p) →
        exec (.slowPass levels) s = .next (look (quietTest u)) ∧
        (s.profile.staged = none → exec (.slowPass levels) s = .next (look u))) ∧
      ((∃ p, (key s p).state = .up ∧ closedSample (~~~levels) s p) →
        (s.profile.staged = none → exec (.slowPass levels) s = .next (look (switchToFast u))) ∧
        (s.profile.staged ≠ none →
          let u' := { u with freeCount := s.freeCount + 1 }
          exec (.slowPass levels) s = .next (look
            (if Config.eitherOrder s.freeCount then switchToFast (quietTest u') else quietTest (switchToFast u')))))) ∧
    (s.power.dockTime = s.scanner.passAt ∨ (s.power.dockTime - s.scanner.passAt).toNat % 32 ≠ 0 →
      exec (.slowPass levels) s = .next s)) ∧
  (∀ s : State,
    let t := switchToFast s
    t = { s with
      scanner := ⟨.fast, 0, 0, s.scanner.vib, 0, s.power.dockTime, s.scanner.driven⟩,
      composer := { s.composer with keys := t.composer.keys } } ∧
    t.composer.keys.length = s.composer.keys.length ∧
    ∀ p, key t p = { key s p with integ :=
      if (key s p).state = .stuck then s.profile.active.pressBase + s.scanner.vib else 0 })

/-- DOWN_TIME_ADVANCE: every DOWN key's down time grows by 1 up to its limit, sets the hold-reported flag of R61, and
at the stuck limit the key goes STUCK and leaves the Held Set; the HOLD records of R61 and the STUCK-flagged RELEASE
records of R62 are written in Held Set order, each with the snapshot of its moment; other keys stay as they are (R60 to
R62, R67). The mark of the last advance, and with it that a second advance in a millisecond has no effect, is the
model's own (log entries 3 and 5). -/
def Obligations.DownTimeAdvances : Prop :=
  ∀ s : State, HeldInv s → Running s →
    let l := s.profile.active.stuckLimit
    let d := fun p => min (if l = 0 then 120000 else 1000 * l) ((key s p).downTime + 1)
    let sticks := fun p => l ≠ 0 ∧ 1000 * l ≤ d p
    (s.composer.downAt ≠ s.power.dockTime → ∃ t, exec .downTimeAdvance s = .next t ∧
      t = { s with composer := t.composer, mem := t.mem, journal := t.journal, exch := t.exch, link := t.link } ∧
      t.composer.downAt = s.power.dockTime ∧
      (∀ p, (key s p).state ≠ .down → key t p = key s p) ∧
      (∀ p, (key s p).state = .down →
        (sticks p → (key t p).state = .stuck ∧ (key t p).downTime = 0) ∧
        (¬sticks p → (key t p).state = .down ∧ (key t p).downTime = d p) ∧
        ((key t p).holdSeen = true ↔
          (key s p).holdSeen = true ∨ (classOf s p = .hold ∧ s.profile.active.holdTime ≤ d p)) ∧
        (key t p).integ = (key s p).integ ∧ (key t p).prev = (key s p).prev) ∧
      t.composer.held = s.composer.held.filter (fun p => decide (¬sticks p)) ∧
      (∀ p, s.composer.subject = some p → (sticks p → t.composer.subject = none) ∧
        (¬sticks p → t.composer.subject = some p ∧ t.composer.repeatEnds = s.composer.repeatEnds)) ∧
      Writes (advanceRecords s s.composer.held s.composer.held) s t) ∧
    (s.composer.downAt = s.power.dockTime → exec .downTimeAdvance s = .next s)

/-- HOLD and STUCK of a key whose down time has reached the hold time or the stuck limit: the flag and one HOLD
record, or STUCK, out of the Held Set, with a RELEASE record flagged STUCK; of any other key they have no effect (R61,
R62; log entry 17). -/
def Obligations.HoldAndStuckAct : Prop :=
  ∀ (s : State) (p : Fin 128), Running s →
    let holds := (key s p).state = .down ∧ classOf s p = .hold ∧ (key s p).holdSeen = false ∧
      s.profile.active.holdTime ≤ (key s p).downTime
    let sticks := (key s p).state = .down ∧ s.profile.active.stuckLimit ≠ 0 ∧
      1000 * s.profile.active.stuckLimit ≤ (key s p).downTime
    let held := s.composer.held.filter (fun q => q != p)
    (holds → ∃ t, exec (.hold p) s = .next t ∧
      t = { s with composer := t.composer, mem := t.mem, journal := t.journal, exch := t.exch, link := t.link } ∧
      t.composer = { s.composer with keys := s.composer.keys.set p.val { key s p with holdSeen := true } } ∧
      (s.mem.wf = true → Writable 1 s → t.journal.head = s.journal.head + 1 ∧
        recordAt t.mem s.journal.head s.power.dockTime ⟨.hold, some p, usageOf s p, snapshot s, 0, 0⟩)) ∧
    (¬holds → exec (.hold p) s = .next s) ∧
    (sticks → ∃ t, exec (.stuck p) s = .next t ∧
      t = { s with composer := t.composer, mem := t.mem, journal := t.journal, exch := t.exch, link := t.link } ∧
      t.composer.keys = s.composer.keys.set p.val { key s p with state := .stuck, downTime := 0 } ∧
      t.composer.held = held ∧
      t.composer.subject = (if s.composer.subject = some p then none else s.composer.subject) ∧
      alertFeed t = true ∧ byteOf (readWord t 0x003C) 3 = BitVec.ofNat 8 held.length ∧
      (s.mem.wf = true → Writable 1 s → t.journal.head = s.journal.head + 1 ∧
        recordAt t.mem s.journal.head s.power.dockTime
          ⟨.release, some p, usageOf s p, snapshot { s with composer := { s.composer with held := held } }, 1, 0⟩)) ∧
    (¬sticks → exec (.stuck p) s = .next s)

/-- REPEAT_EXPIRY of a repeat timer that has run out: the count grows up to 65,535, a REPEAT record of the subject
carries it, and the timer takes the repeat period (R66). That the timer runs out once Dock Time has reached its end,
and that a REPEAT_EXPIRY before, or with no subject, has no effect, is the model's (log entries 3 and 4). -/
def Obligations.RepeatExpiryRepeats : Prop :=
  ∀ s : State, Running s →
    (s.composer.subject = none → exec .repeatExpiry s = .next s) ∧
    (∀ p, s.composer.subject = some p →
      (reached s.power.dockTime s.composer.repeatEnds = false → exec .repeatExpiry s = .next s) ∧
      (reached s.power.dockTime s.composer.repeatEnds = true → ∃ t, exec .repeatExpiry s = .next t ∧
        t = { s with composer := t.composer, mem := t.mem, journal := t.journal, exch := t.exch, link := t.link } ∧
        t.composer = { s.composer with
          repeatCount := min (s.composer.repeatCount + 1) 65535,
          repeatEnds := s.power.dockTime + ms s.profile.active.repeatPeriod } ∧
        (s.mem.wf = true → Writable 1 s → t.journal.head = s.journal.head + 1 ∧
          recordAt t.mem s.journal.head s.power.dockTime ⟨.repeating, some p, usageOf s p, snapshot s, 0,
            BitVec.ofNat 16 (min (s.composer.repeatCount + 1) 65535)⟩)))

/-! ### The journal (spec 04) -/

/-- A record handed to the Journal Writer takes the first case that applies: discarded while CLOSED, dropped with the
recovery test in an episode, dropped with LOSS and a new episode at a full ring, or written whole at its place with
Head advanced and the mark tested. A record at a place is its fields at their offsets: the sequence number, Dock Time,
the kind's code, the position or 0xFF, the usage, the modifier snapshot, the flags and the detail (R26, R73 to R76, R81
to R85). -/
def Obligations.HandedRecordTakesItsCase : Prop :=
  (∀ (m : Memory) (seq time : Word) (r : Rec),
    let o := 0x0500 + 16 * (seq.toNat % 256)
    recordAt m seq time r ↔
      m.word o = seq ∧ m.word (o + 4) = time ∧
      m.read (o + 8) = (match r.kind with
        | .press => 1 | .release => 2 | .repeating => 3 | .hold => 4 | .rollover => 5 | .suppressed => 6 | .resync => 7
        | .held => 8 | .profile => 9 | .vehicle => 10 | .latch => 11 | .supply => 12 | .power => 13) ∧
      m.read (o + 9) = (match r.position with | some p => BitVec.ofNat 8 p.val | none => 0xFF) ∧
      m.half (o + 0xA) = r.usage ∧ m.read (o + 0xC) = r.mods ∧ m.read (o + 0xD) = r.flags ∧
      m.half (o + 0xE) = r.detail) ∧
  (∀ (s : State) (r : Rec), s.mem.wf = true → JournalInv s →
    let t := handRecord r s
    let h := s.journal.head
    let n := s.composer.held.length
    let dropped := min (s.journal.lost + 1) 65535
    let marks := fun h' => s.journal.armed && reached h' s.journal.mark
    let advanced := fun (h' : Word) (lost : Nat) =>
      t = { s with mem := t.mem, exch := t.exch, link := t.link, journal := { s.journal with
        head := h', armed := s.journal.armed && !marks h', lost := lost, episode := false } } ∧
      t.exch = { s.exch with
        attention := if marks h' then s.exch.attention ||| 1 else s.exch.attention } ∧
      t.link = { s.link with messages := t.link.messages }
    (s.exch.sessionOpen = false → t = s) ∧
    (s.exch.sessionOpen = true → s.journal.episode = true →
      (256 - untaken s < 1 + n → t = { s with journal := { s.journal with lost := dropped } }) ∧
      (1 + n ≤ 256 - untaken s →
        advanced (h + BitVec.ofNat 32 (1 + n)) dropped ∧
        recordAt t.mem h s.power.dockTime ⟨.resync, none, 0, snapshot s, 0, BitVec.ofNat 16 n⟩ ∧
        ∀ (i : Nat) (hi : i < n), recordAt t.mem (h + BitVec.ofNat 32 (i + 1)) s.power.dockTime
          ⟨.held, some s.composer.held[i], usageOf s s.composer.held[i], snapshot s, 0, BitVec.ofNat 16 (i + 1)⟩)) ∧
    (s.exch.sessionOpen = true → s.journal.episode = false → untaken s = 256 →
      t = { s with
        journal := { s.journal with lost := dropped, episode := true },
        exch := { s.exch with attention := s.exch.attention ||| 4 },
        link := { s.link with messages := t.link.messages } }) ∧
    (s.exch.sessionOpen = true → s.journal.episode = false → untaken s < 256 →
      advanced (h + 1) s.journal.lost ∧ recordAt t.mem h s.power.dockTime r ∧ sameOutsidePlace h s.mem t.mem))

/-- JOURNAL_TAKEN_WRITE: accepted up to Head, clamped to Head and counted beyond it, refused behind Taken, refused while
CLOSED or narrow; where Taken moves in an episode the recovery test follows. NOTIFY_MARK_WRITE: the mark is stored;
MARK is raised at once where Head has reached it, or else the mark is ARMED; refused while CLOSED or narrow (R78,
R80). -/
def Obligations.JournalWritesTakeTheirCase : Prop :=
  (∀ (s : State) (v : Word), Linked s →
      let d := (v - s.journal.taken).toNat
      let h := (s.journal.head - s.journal.taken).toNat
      let moved := fun (w : Word) =>
        let s' := { s with journal := { s.journal with taken := w } }
        if s.journal.taken ≠ w ∧ s.journal.episode = true then recoveryTest s' else s'
      (s.exch.sessionOpen = true → d ≤ h → exec (.journalTakenWrite v) s = .next (moved v)) ∧
      (s.exch.sessionOpen = true → h < d → (v - s.journal.head).toNat < 2 ^ 31 →
        exec (.journalTakenWrite v) s = .next (afterRefusal 0x0010 (moved s.journal.head))) ∧
      (s.exch.sessionOpen = true → h < d → 2 ^ 31 ≤ (v - s.journal.head).toNat →
        exec (.journalTakenWrite v) s = .next (afterRefusal 0x0010 s)) ∧
      (s.exch.sessionOpen = false → exec (.journalTakenWrite v) s = .next (afterRefusal 0x0010 s)) ∧
      (∀ be : BitVec 4, be ≠ 0xF → exec (.exchangeMemoryWrite 4 be v) s = .next (afterRefusal 0x0010 s)) ∧
      readWord s 0x0010 = s.journal.taken) ∧
  (∀ (s : State) (m : Word), Linked s →
      (s.exch.sessionOpen = true → (s.journal.head - m).toNat < 2 ^ 31 →
        ∃ t, exec (.notifyMarkWrite m) s = .next t ∧ t = { s with
          journal := { s.journal with mark := m, armed := false },
          exch := { s.exch with attention := s.exch.attention ||| 1 },
          link := { s.link with messages := t.link.messages } }) ∧
      (s.exch.sessionOpen = true → 2 ^ 31 ≤ (s.journal.head - m).toNat →
        exec (.notifyMarkWrite m) s = .next { s with journal := { s.journal with mark := m, armed := true } }) ∧
      (s.exch.sessionOpen = false → exec (.notifyMarkWrite m) s = .next (afterRefusal 0x0014 s)) ∧
      (∀ be : BitVec 4, be ≠ 0xF → exec (.exchangeMemoryWrite 5 be m) s = .next (afterRefusal 0x0014 s)) ∧
      readWord s 0x0014 = s.journal.mark ∧ readWord s 0x0018 = (if s.journal.armed then 1 else 0))

/-! ### The SETTINGS context (spec 01, 07, 08, 09) -/

/-- SETTINGS_COMPLETION: INDICATORS, LIGHT and VEHICLE end DONE with their flags and count 0, and the context looks at
the queue; that it completes nothing with a PANEL slot waiting, or no slot, is the model's (log entry 3). A POST of
INDICATORS that the free context takes at once: the set mask, then the clear mask, over the five tablet-owned lamps,
and the slot ACTIVE; an unknown kind is FAILED with BAD_KIND. The lamps at the pins: the tablet's five by their states,
DRIVE by drive mode and ALERT by a STUCK key, at the key light level, all dark in STANDBY (R12, R13, R15, R18, R70, R128,
R151, R152). -/
def Obligations.SettingsEndsAndIndicators : Prop :=
  (∀ s : State, Running s →
      (∀ j, s.exch.settingsJob = some j → completesLater j.kind = true → ∃ u,
        exec .settingsCompletion s = .next (look (if j.notify then raise .slot u else u)) ∧
        u = { s with exch := { s.exch with
          settingsJob := none, slots := s.exch.slots.set j.slot.val (completedSlot s j.slot .done .ok j.flags 0) } }) ∧
      ((∀ j, s.exch.settingsJob = some j → j.kind = kindPanel) → exec .settingsCompletion s = .next (look s))) ∧
  (∀ (s : State) (k : Fin 16), ExchangeInv s → Linked s → s.exch.sessionOpen = true → (slot s k).state = .free →
      s.exch.queue = [] → s.exch.settingsJob = none →
      (s.mem.read (0x0104 + 64 * k.val) = kindIndicators → ∃ t,
        exec (.post k) s = .next t ∧ t = { s with exch := t.exch, light := t.light } ∧
        t.light = { s.light with lamps :=
          (s.light.lamps ||| (s.mem.read (0x011C + 64 * k.val)).setWidth 5) &&&
            ~~~(s.mem.read (0x011D + 64 * k.val)).setWidth 5 } ∧
        (slot t k).state = .active ∧ t.exch.queue = [] ∧ t.exch.settingsJob.map Job.slot = some k) ∧
      (s.mem.read (0x0104 + 64 * k.val) = 0 ∨ 8 < s.mem.read (0x0104 + 64 * k.val) → ∃ t,
        exec (.post k) s = .next t ∧ t = { s with exch := t.exch, link := t.link } ∧
        EndsInTake s k .failed .badKind 0 t ∧ t.exch.queue = [] ∧ t.exch.settingsJob = none)) ∧
  (∀ s : State, Running s →
      (pins s).lampDuty = s.light.keyLight ∧ (pins s).keyDuty = s.light.keyLight ∧
      (s.power.standby = true → (pins s).lampsLit = 0) ∧
      (s.power.standby = false →
        (∀ i, i < 5 → (pins s).lampsLit.getLsbD i = s.light.lamps.getLsbD i) ∧
        (pins s).lampsLit.getLsbD 5 = s.lines.drive ∧
        ((pins s).lampsLit.getLsbD 6 = true ↔ ∃ k ∈ s.composer.keys, k.state = .stuck)))

/-- A LIGHT slot that a free SETTINGS context takes at the POST: a bad mode or curve fails it with BAD_PARAM and changes
no light; else its settings are brought into range and applied, with the idle timer of R150 and the immediate cases of
R147 (R143, R144, R148). -/
def Obligations.LightRequestIsChecked : Prop :=
  ∀ (s : State) (k : Fin 16), ExchangeInv s → Linked s → s.exch.sessionOpen = true → (slot s k).state = .free →
    s.exch.queue = [] → s.exch.settingsJob = none →
    s.mem.read (0x0104 + 64 * k.val) = kindLight →
    let byte := fun o => (s.mem.read (0x0100 + 64 * k.val + o)).toNat
    let a := fun i => byte (0x28 + 2 * i) + 256 * byte (0x29 + 2 * i)
    let timeout := byte 0x22 + 256 * byte 0x23
    let valid := byte 0x1C ≤ 1 ∧ a 0 < a 1 ∧ a 1 < a 2 ∧ a 2 < a 3 ∧ a 3 ≤ 1023
    ∃ t, exec (.post k) s = .next t ∧
      (¬valid → t = { s with exch := t.exch, link := t.link } ∧
        EndsInTake s k .failed .badParam 0 t ∧ t.exch.settingsJob = none) ∧
      (valid → t = { s with exch := t.exch, light := t.light } ∧ (slot t k).state = .active ∧
        t.light.settings =
          { mode := if byte 0x1C = 0 then .auto else .manual, manual := byte 0x1D,
            p0 := ⟨a 0, byte 0x30⟩, p1 := ⟨a 1, byte 0x31⟩, p2 := ⟨a 2, byte 0x32⟩, p3 := ⟨a 3, byte 0x33⟩,
            slew := max 1 (min 32 (byte 0x1E)), driveCap := byte 0x1F, dim := byte 0x20,
            idleTimeout := if timeout = 0 then 0 else max 5 (min 600 timeout),
            idleSources := (s.mem.read (0x0124 + 64 * k.val)).setWidth 3,
            keyRatio := min 16 (byte 0x21) } ∧
        t.light.idle =
          (if timeout = 0 then .off else if s.light.idle = .dimmed then .dimmed else .running) ∧
        (timeout ≠ 0 → s.light.idle ≠ .dimmed →
          t.light.idleEnds = s.power.dockTime + ms (max 5 (min 600 timeout) * 1000)) ∧
        t.light.target = targetLevel t ∧
        t.light.output = (if immediate s then targetLevel t else s.light.output) ∧
        t.light.keyLight = t.light.output * min 16 (byte 0x21) / 16 ∧
        (t.exch.settingsJob.map Job.flags = some
          (if byte 0x1E = 0 ∨ 32 < byte 0x1E ∨ 16 < byte 0x21 ∨ (timeout ≠ 0 ∧ (timeout < 5 ∨ 600 < timeout)) then 2
           else 0)))

/-- A VEHICLE slot that a free SETTINGS context takes at the POST: its settings in range at their blocks, running line
timers kept, and the linger timer reloaded or, with a linger time of 0, STANDBY entered (R155, R164, R171). -/
def Obligations.VehicleRequestIsApplied : Prop :=
  ∀ (s : State) (k : Fin 16), ExchangeInv s → Linked s → s.exch.sessionOpen = true → (slot s k).state = .free →
    s.exch.queue = [] → s.exch.settingsJob = none →
    s.mem.read (0x0104 + 64 * k.val) = kindVehicle →
    let byte := fun o => (s.mem.read (0x0100 + 64 * k.val + o)).toNat
    let switches := s.mem.read (0x0120 + 64 * k.val)
    let park := byte 0x1C + 256 * byte 0x1D
    ∃ t, exec (.post k) s = .next t ∧ (slot t k).state = .active ∧
      t.composer = s.composer ∧ t.frames = s.frames ∧ t.profile = s.profile ∧ t.measure = s.measure ∧
      t.lines = { s.lines with parkTime := max 100 (min 3000 park) } ∧
      t.power.lingerMin = min 240 (byte 0x1E) ∧
      t.power.lingerSources = (s.mem.read (0x011F + 64 * k.val)).setWidth 3 ∧
      t.scanout.driveBlanking = switches.getLsbD 0 ∧ t.power.keyWake = switches.getLsbD 1 ∧
      t.power.swallow = switches.getLsbD 2 ∧ t.power.dockWake = switches.getLsbD 3 ∧
      t.power.latchWake = switches.getLsbD 4 ∧
      t.exch.settingsJob.map Job.flags =
        some (if park < 100 ∨ 3000 < park ∨ 240 < byte 0x1E then 2 else 0) ∧
      (s.power.lingerEnds = none → t.power.lingerEnds = none ∧ t.power.standby = s.power.standby) ∧
      (s.power.lingerEnds ≠ none → byte 0x1E ≠ 0 →
        t.power.lingerEnds = some (s.power.dockTime + ms (60000 * min 240 (byte 0x1E))) ∧
          t.power.standby = s.power.standby) ∧
      (s.power.lingerEnds ≠ none → byte 0x1E = 0 →
        StandbyEntered { s with
          lines := t.lines, power := { t.power with standby := s.power.standby, lingerEnds := s.power.lingerEnds },
          scanout := { s.scanout with driveBlanking := switches.getLsbD 0 },
          exch := { s.exch with
            settingsJob := t.exch.settingsJob,
            slots := s.exch.slots.set k.val ⟨.active, .ok, 0, s.exch.nextPost, 0, 0, 0⟩ } } t ∧
          Writes [⟨.power, none, 0, snapshot s, 0, 0⟩] s t)

/-- A PANEL slot that a free SETTINGS context takes at the POST: the wish is stored; OFF with the panel OFF, and ON with
the panel ON, end DONE at once; ON with the panel OFF begins the start sequence, OFF with the panel ON the stop
sequence, with the swap of a waiting PRESENT; OFF with the panel STARTING stops it at the stage that undoes its last action; with the panel STARTING and ON,
or STOPPING, the sequence goes on and the slot waits; ON wakes the part from STANDBY (R123, R126, R128, R129, R135,
R137). A panel that is ON in STANDBY, which no run reaches (StepKeepsBacklightLaw), ends it DONE too, after its wake. -/
def Obligations.PanelRequestSetsTheWish : Prop :=
  ∀ (s : State) (k : Fin 16), ExchangeInv s → Linked s → s.exch.sessionOpen = true → (slot s k).state = .free →
    s.exch.queue = [] → s.exch.settingsJob = none →
    s.mem.read (0x0104 + 64 * k.val) = kindPanel →
    let on := s.mem.read (0x011C + 64 * k.val) ≠ 0
    ∃ t, exec (.post k) s = .next t ∧ t.scanout.wish = decide on ∧
      t.lines = s.lines ∧ t.frames = s.frames ∧ t.profile = s.profile ∧ t.measure = s.measure ∧
      (on → t.power.standby = false) ∧ (¬on → t.power = { s.power with lingerEnds := t.power.lingerEnds }) ∧
      (¬on → s.scanout.panel = .off → EndsInTake s k .done .ok 0 t ∧ t.exch.settingsJob = none ∧
        t.scanout = { s.scanout with wish := false }) ∧
      (on → s.scanout.panel = .on → (slot t k).state = .done ∧ t.exch.settingsJob = none ∧
        (s.power.standby = false → EndsInTake s k .done .ok 0 t ∧ t.scanout = { s.scanout with wish := true })) ∧
      (on → s.scanout.panel = .off → (slot t k).state = .active ∧ t.scanout.panel = .starting ∧
        t.scanout.stage = some .rails ∧ t.scanout.stageEnds = s.power.dockTime + ms 20) ∧
      (¬on → s.scanout.panel = .on → (slot t k).state = .active ∧ t.scanout.panel = .stopping ∧
        t.scanout.stage = some .disable ∧ t.scanout.stageEnds = s.power.dockTime + ms 10 ∧
        t.light.output = 0 ∧ t.light.keyLight = 0 ∧
        let stopped : State := { s with scanout := { s.scanout with
          wish := false, panel := .stopping, stage := some .disable, stageEnds := s.power.dockTime + ms 10 } }
        (s.scanout.waiting = none → t.scanout = stopped.scanout ∧ t.picture = s.picture ∧ t.power = s.power) ∧
        (∀ carry j, s.scanout.waiting = some carry → s.picture.job = some j → Swapped carry j stopped t)) ∧
      (on → s.scanout.panel = .starting ∨ s.scanout.panel = .stopping →
        (slot t k).state = .active ∧ t.scanout.panel = s.scanout.panel ∧ t.scanout.stage = s.scanout.stage ∧
        t.scanout.stageEnds = s.scanout.stageEnds ∧
        (s.power.standby = false → t.scanout = { s.scanout with wish := true })) ∧
      (¬on → s.scanout.panel = .starting → (slot t k).state = .active ∧ t.scanout.panel = .stopping ∧
        t.light.output = 0 ∧ t.light.keyLight = 0 ∧
        (s.scanout.stage = some .rails → t.scanout.stage = some .railsOff ∧
          t.scanout.stageEnds = s.power.dockTime + ms 20) ∧
        (s.scanout.stage = some .signals → t.scanout.stage = some .signalsOff ∧
          t.scanout.stageEnds = s.power.dockTime + ms 50) ∧
        (s.scanout.stage = some .enable → t.scanout.stage = some .disable ∧
          t.scanout.stageEnds = s.power.dockTime + ms 10)) ∧
      (¬on → s.scanout.panel = .stopping → (slot t k).state = .active ∧
        t.scanout = { s.scanout with wish := false })

/-! ### Profiles (spec 05) -/

/-- A PROFILE slot that a free PROFILE context takes at the POST: a wrong offset or class byte fails it with BAD_PARAM;
else the image is staged with every number in its range, marked as clamped when one had to be brought there, and the
active profile stays (R93 to R96). -/
def Obligations.ProfileRequestIsStaged : Prop :=
  ∀ (s : State) (k : Fin 16), ExchangeInv s → Linked s → s.exch.sessionOpen = true → (slot s k).state = .free →
    s.exch.queue = [] → s.profile.job = none → s.profile.staged = none →
    s.mem.read (0x0104 + 64 * k.val) = kindProfile →
    let offset := (s.mem.half (0x011C + 64 * k.val)).toNat
    let limit := (s.mem.half (0x011E + 64 * k.val)).toNat
    let image := fun o => s.mem.read (0x1500 + offset + o)
    let number := fun o => (s.mem.half (0x1500 + offset + o)).toNat
    let validClass := fun (b : Byte) => b ≤ 3 ∨ (0x10 ≤ b ∧ b ≤ 0x17)
    let valid := (offset = 0 ∨ offset = 512 ∨ offset = 1024 ∨ offset = 1536) ∧
      ∀ p, p < 128 → validClass (image (0x20 + p))
    let out := fun (lo hi v : Nat) => v < lo ∨ hi < v
    ∃ t, exec (.post k) s = .next t ∧ t = { s with exch := t.exch, link := t.link, profile := t.profile } ∧
      t.profile.active = s.profile.active ∧
      (¬valid → t.profile = s.profile ∧ EndsInTake s k .failed .badParam 0 t) ∧
      (valid → (slot t k).state = .active ∧ t.profile.job.map Job.slot = some k ∧ ∃ st,
        t.profile.staged = some st ∧ ProfileRanges st.profile ∧
        st.ends = s.power.dockTime + ms (max 100 (min 10000 limit)) ∧
        st.profile.tag = s.mem.half (0x1500 + offset) ∧
        st.profile.pressBase = max 2 (min 12 (image 2).toNat) ∧
        st.profile.releaseBase = min (st.profile.pressBase - 1) (image 3).toNat ∧
        (st.profile.adaptation = true ↔ image 4 ≠ 0) ∧
        st.profile.stuckLimit = (if image 6 = 0 then 0 else max 5 (min 120 (image 6).toNat)) ∧
        st.profile.repeatDelay = max 100 (min 2000 (number 8)) ∧
        st.profile.repeatPeriod = max 20 (min 500 (number 10)) ∧
        st.profile.holdTime = max 200 (min 5000 (number 12)) ∧
        (st.clamped = true ↔ out 2 12 (image 2).toNat ∨ out 0 (st.profile.pressBase - 1) (image 3).toNat ∨
          (image 6 ≠ 0 ∧ out 5 120 (image 6).toNat) ∨ out 100 2000 (number 8) ∨ out 20 500 (number 10) ∨
          out 200 5000 (number 12) ∨ out 100 10000 limit) ∧
        (∀ p : Fin 128, st.profile.drivePermitted.getLsbD p.val = (image (0x10 + p.val / 8)).getLsbD (p.val % 8) ∧
          st.profile.usages.getD p.val 0 = s.mem.half (0x1500 + offset + 0xA0 + 2 * p.val) ∧
          image (0x20 + p.val) = (match st.profile.classes.getD p.val .none with
            | .none => 0 | .plain => 1 | .repeating => 2 | .hold => 3 | .modifier r => 0x10 + BitVec.ofNat 8 r.val)))

/-- The quiet test at a pass boundary puts the staged profile in force when no key is DOWN or MUTED: V, the integrators,
0 where a position leaves NONE and else clamped to the new T_press, repeat stopped, the record, the slot DONE.
PROFILE_WAIT_EXPIRY once the wait timer has run out discards it, with the slot FAILED and KEYS_HELD (R41, R72, R97, R98,
R100). That the timer runs out once Dock Time has reached its end, and that an expiry before only looks, is the model's
(log entries 3 and 4). -/
def Obligations.StagedProfileEnds : Prop :=
  (∀ (s : State) (st : Staged) (j : Job), s.profile.staged = some st → s.profile.job = some j →
      s.exch.slots.length = 16 →
      ((∃ k ∈ s.composer.keys, k.state = .down ∨ k.state = .muted) → quietTest s = s) ∧
      ((∀ k ∈ s.composer.keys, k.state = .up ∨ k.state = .stuck) →
        let t := quietTest s
        let v := if st.profile.adaptation then s.scanner.vib else 0
        t.profile = ⟨st.profile, none, none⟩ ∧ t.scanner = { s.scanner with vib := v } ∧
        t.composer = { s.composer with
          keys := t.composer.keys, subject := none, repeatEnds := 0, repeatCount := 0 } ∧
        t.composer.keys.length = s.composer.keys.length ∧
        (∀ p, key t p = { key s p with
          integ := (if classOf s p = .none ∧ classOf t p ≠ .none then 0
            else min (key s p).integ (st.profile.pressBase + v)) }) ∧
        slot t j.slot = completedSlot s j.slot .done .ok (if st.clamped then 2 else 0) 0 ∧
        t.exch.attention.getLsbD 1 = (j.notify || s.exch.attention.getLsbD 1) ∧
        t = { s with
          profile := t.profile, scanner := t.scanner, composer := t.composer, mem := t.mem, journal := t.journal,
          exch := t.exch, link := { s.link with messages := t.link.messages } } ∧
        headerWord t 0x34 = BitVec.ofNat 32 st.profile.tag.toNat ∧
        (s.mem.wf = true → Writable 1 s →
          recordAt t.mem s.journal.head s.power.dockTime
            ⟨.profile, none, 0, snapshot { s with profile.active := st.profile }, 0, st.profile.tag⟩ ∧
          t.journal.head = s.journal.head + 1))) ∧
  (∀ (s : State) (st : Staged) (j : Job), Running s → s.profile.staged = some st → s.profile.job = some j →
      (reached s.power.dockTime st.ends = true → ∃ u,
        exec .profileWaitExpiry s = .next (look (if j.notify then raise .slot u else u)) ∧
        u = { s with
          profile := { s.profile with staged := none, job := none },
          exch := { s.exch with
            slots := s.exch.slots.set j.slot.val
              (completedSlot s j.slot .failed .keysHeld (if st.clamped then 2 else 0) 0) } }) ∧
      (reached s.power.dockTime st.ends = false → exec .profileWaitExpiry s = .next (look s)))

/-! ### The picture path (spec 06, 07) -/

/-- A COPY slot that a free PICTURE context takes at the POST meets the five checks of R108 in order; a request that a
check decides completes in the take with no flags and count 0, and one that lies wholly off the panel is DONE with
CLIPPED; any other goes to its first row boundary with its clipped rectangle, its buffer by the roles as they stand and
its parameters (R105, R108, R110, R112). -/
def Obligations.CopyChecksRunInOrder : Prop :=
  ∀ (s : State) (k : Fin 16), ExchangeInv s → Linked s → s.exch.sessionOpen = true → (slot s k).state = .free →
    s.exch.queue = [] → pictureFree s = true → pictureHeld s = false →
    s.mem.read (0x0104 + 64 * k.val) = kindCopy →
    let at8 := fun o => s.mem.read (0x0100 + 64 * k.val + o)
    let at16 := fun o => s.mem.half (0x0100 + 64 * k.val + o)
    let at32 := fun o => (s.mem.word (0x0100 + 64 * k.val + o)).toNat
    let w := (at16 0x2C).toNat
    let h := (at16 0x2E).toNat
    let x := (at16 0x30).toInt
    let y := (at16 0x32).toInt
    let params := s.mem.reads (0x011C + 64 * k.val) 36
    let bytes := if at8 0x1D = 0 then 2 else 4
    let source := if at8 0x1C = 0 then at32 0x20 + at32 0x24 * 2 ^ 32 else at32 0x20
    let zero := w = 0 ∨ h = 0
    let badCode := 1 < at8 0x1C ∨ 1 < at8 0x1D ∨ 1 < at8 0x1E
    let badStride := at32 0x28 < w * bytes
    let badAlign := source % bytes ≠ 0 ∨ at32 0x28 % bytes ≠ 0
    let badExtent := at8 0x1C = 1 ∧ 58112 < source + (h - 1) * at32 0x28 + w * bytes
    let offPanel := 1279 < x ∨ x + w ≤ 0 ∨ 799 < y ∨ y + h ≤ 0
    ∃ t, exec (.post k) s = .next t ∧ t = { s with exch := t.exch, link := t.link, picture := t.picture } ∧
      let ends := fun (st : SlotState) (code : ResultCode) (flags : Byte) =>
        EndsInTake s k st code flags t ∧ t.picture = s.picture
      (zero → ends .done .ok 0) ∧
      (¬zero → badCode ∨ badStride → ends .failed .badParam 0) ∧
      (¬zero → ¬badCode → ¬badStride → badAlign → ends .failed .badAlign 0) ∧
      (¬zero → ¬badCode → ¬badStride → ¬badAlign → badExtent → ends .failed .badParam 0) ∧
      (¬zero → ¬badCode → ¬badStride → ¬badAlign → ¬badExtent → offPanel → ends .done .ok 1) ∧
      (¬zero → ¬badCode → ¬badStride → ¬badAlign → ¬badExtent → ¬offPanel → ∃ (r : Rect) (u : State),
        t = pictureBoundary u ∧
        (r.x0 : Int) = max x 0 ∧ (r.x1 : Int) = min (x + w - 1) 1279 ∧
        (r.y0 : Int) = max y 0 ∧ (r.y1 : Int) = min (y + h - 1) 799 ∧
        u = { s with
          exch := { s.exch with
            slots := s.exch.slots.set k.val ⟨.active, .ok, 0, s.exch.nextPost, 0, 0, 0⟩,
            nextPost := s.exch.nextPost + 1 },
          picture := { emptyEngine s with
            job := some ⟨k, kindCopy, s.mem.read (0x0106 + 64 * k.val) != 0, params, 0⟩,
            work := .row, params := params, dest := if at8 0x1E = 0 then backBuffer s else .standby, clip := r,
            nextRow := r.y0, clipped := decide (r.x1 + 1 - r.x0 < w ∨ r.y1 + 1 - r.y0 < h) } })

/-- A FILL slot that a free PICTURE context takes at the POST: a zero size is DONE, a wrong buffer code fails it with
BAD_PARAM, and one wholly off the panel is DONE with CLIPPED; any other takes its clipped rectangle and its buffer by
the roles as they stand, and begins its first row, the colour in every pixel, or is PAUSED in CRANK (R105, R109, R110,
R112, R117, R118). -/
def Obligations.FillBeginsItsFirstRow : Prop :=
  ∀ (s : State) (k : Fin 16), ExchangeInv s → Linked s → s.exch.sessionOpen = true → (slot s k).state = .free →
    s.exch.queue = [] → pictureFree s = true → pictureHeld s = false →
    s.mem.read (0x0104 + 64 * k.val) = kindFill →
    let w := (s.mem.half (0x012C + 64 * k.val)).toNat
    let h := (s.mem.half (0x012E + 64 * k.val)).toNat
    let x := (s.mem.half (0x0130 + 64 * k.val)).toInt
    let y := (s.mem.half (0x0132 + 64 * k.val)).toInt
    let zero := w = 0 ∨ h = 0
    let badCode := 1 < s.mem.read (0x011E + 64 * k.val)
    let offPanel := 1279 < x ∨ x + w ≤ 0 ∨ 799 < y ∨ y + h ≤ 0
    ∃ t, exec (.post k) s = .next t ∧ t = { s with exch := t.exch, link := t.link, picture := t.picture } ∧
      (zero → EndsInTake s k .done .ok 0 t ∧ t.picture = s.picture) ∧
      (¬zero → badCode → EndsInTake s k .failed .badParam 0 t ∧ t.picture = s.picture) ∧
      (¬zero → ¬badCode → offPanel → EndsInTake s k .done .ok 1 t ∧ t.picture = s.picture) ∧
      (¬zero → ¬badCode → ¬offPanel → ∃ r, (slot t k).state = .active ∧ t.link = s.link ∧ t.picture.clip = r ∧
        (r.x0 : Int) = max x 0 ∧ (r.x1 : Int) = min (x + w - 1) 1279 ∧
        (r.y0 : Int) = max y 0 ∧ (r.y1 : Int) = min (y + h - 1) 799 ∧
        t.picture.clipped = decide (r.x1 + 1 - r.x0 < w ∨ r.y1 + 1 - r.y0 < h) ∧
        t.picture.dest = (if s.mem.read (0x011E + 64 * k.val) = 0 then backBuffer s else .standby) ∧
        t.picture.job.map Job.slot = some k ∧ t.picture.nextRow = r.y0 ∧ t.picture.pixels = 0 ∧
        (s.power.band = .crank → t.picture.work = .paused ∧ t.picture.writing = false) ∧
        (s.power.band ≠ .crank → t.picture.work = .row ∧ t.picture.writing = true ∧
          t.picture.rowPixels = List.replicate (r.x1 + 1 - r.x0) (s.mem.half (0x011C + 64 * k.val))))

/-- A HOST row's fetch: its reads cover the row's bytes once, in order, each within one 4096-byte page and of at most
256 bytes (R113). -/
def Obligations.RowReadsCoverTheRow : Prop :=
  ∀ address len : Nat,
    (∀ r ∈ planReads len address 0 len, r.legal ∧ 0 < r.len ∧ r.place + r.len ≤ len ∧
      r.address = BitVec.ofNat 64 (address + r.place)) ∧
    (∀ i, i < len → ∃! r, r ∈ planReads len address 0 len ∧ r.place ≤ i ∧ i < r.place + r.len) ∧
    (planReads len address 0 len).Pairwise (fun r r' => r.place < r'.place)

/-- HOST_READ_COMPLETION of an outstanding read places its bytes in the row; one that does not bring the whole read
changes nothing else; one that does lets the next reads go out, at most 8 outstanding, or, with bus mastering off, fails
the request; the last one of the row begins the write of the converted row, for abandoned work too. One that reports an
error or poisoned data, and HOST_READ_TIMEOUT of a read 50 ms after its issue, fail the request with READ_ERROR and the
pixels written so far, or stop abandoned work. A completion after the 50 ms, or of a read that is not outstanding, is
discarded (R113, R114, R116, R120). That a timeout of no outstanding read, or before the 50 ms, does nothing is the
model's (log entry 3), as are how a completion names its read, which of the two counts at 50 ms, and the cleared engine
(log entries 13 and 28). -/
def Obligations.HostReadsEnd : Prop :=
  (∀ (s : State) (tag place : Nat) (data : List Byte) (error poisoned : Bool), Linked s →
      let answer := exec (.hostReadCompletion tag place data error poisoned) s
      (s.picture.reads.find? (fun q => q.tag == tag) = none → answer = .next (look s)) ∧
      (∀ r, s.picture.reads.find? (fun q => q.tag == tag) = some r →
        let first := r.plan.place + place
        let stop := r.plan.place + r.plan.len
        let row := (List.range s.picture.rowBuf.length).map fun i =>
          if first ≤ i ∧ i < stop ∧ i < first + data.length then data[i - first]? else s.picture.rowBuf.getD i none
        let whole := ∀ i, r.plan.place ≤ i → i < stop → i < row.length → (row.getD i none).isSome = true
        let others := s.picture.reads.filter (fun q => q.tag != tag)
        let k := min (8 - others.length) s.picture.toIssue.length
        let age := (s.power.dockTime - r.issued).toNat
        (50 < age → answer = .next (look s)) ∧
        (age ≤ 50 → error = true ∨ poisoned = true → ∃ u, answer = .next (look u) ∧ ReadFailed s u) ∧
        (age ≤ 50 → error = false → poisoned = false →
          (¬whole → answer = .next (look { s with picture := { s.picture with rowBuf := row } })) ∧
          (whole → s.picture.toIssue ≠ [] → s.link.busMastering = true →
            answer = .next (look { s with picture := { s.picture with
              rowBuf := row, toIssue := s.picture.toIssue.drop k, nextTag := s.picture.nextTag + k,
              reads := others ++ mapFrom (fun i plan => ⟨s.picture.nextTag + i, plan, s.power.dockTime⟩) 0
                (s.picture.toIssue.take k) } })) ∧
          (whole → s.picture.toIssue ≠ [] → s.link.busMastering = false → others.length < 8 →
            ∃ u, answer = .next (look u) ∧ ReadFailed s u) ∧
          (whole → s.picture.toIssue = [] → others ≠ [] →
            answer = .next (look { s with picture := { s.picture with rowBuf := row, reads := others } })) ∧
          (whole → s.picture.toIssue = [] → others = [] → s.picture.writing = false →
            s.picture.work = .row ∨ s.picture.work = .stopping →
            answer = .next (look { s with picture := { s.picture with
              work := if s.picture.abandon then .stopping else .row, writing := true, reads := [], rowBuf := [],
              rowPixels := convertRow s.picture.params (row.map fun b => b.getD 0) } }))))) ∧
  (∀ (s : State) (tag : Nat), Running s →
      (s.picture.reads.find? (fun q => q.tag == tag) = none → exec (.hostReadTimeout tag) s = .next (look s)) ∧
      (∀ r, s.picture.reads.find? (fun q => q.tag == tag) = some r →
        (50 ≤ (s.power.dockTime - r.issued).toNat →
          ∃ u, exec (.hostReadTimeout tag) s = .next (look u) ∧ ReadFailed s u) ∧
        ((s.power.dockTime - r.issued).toNat < 50 → exec (.hostReadTimeout tag) s = .next (look s))))

/-- ROW_WRITE_COMPLETE: the row lands whole in the destination buffer and nowhere else, the pixels written grow by the
clipped width, and the next row boundary follows. CLEARING_END lifts the hold of the PICTURE context (R17, R106, R112,
R117). That the row lands at the end of its write is log entry 14; that CLEARING_END is accepted from the first
millisecond on is the choice of log entry 20; that it only looks while clearing is over is the model's (log entry 3). -/
def Obligations.RowWriteAndClearingEnd : Prop :=
  (∀ s : State, Running s → s.picture.writing = true → (s.frames.get s.picture.dest).wf = true → ∃ u,
      exec .rowWriteComplete s = .next (look (pictureBoundary u)) ∧
      u = { s with frames := u.frames, picture := u.picture } ∧
      u.picture = { s.picture with
        writing := false, rowPixels := [], nextRow := s.picture.nextRow + 1,
        pixels := s.picture.pixels + (s.picture.clip.x1 + 1 - s.picture.clip.x0) } ∧
      (∀ (i : Nat) (h : i < s.picture.rowPixels.length),
        pixel u s.picture.dest (s.picture.clip.x0 + i) s.picture.nextRow = s.picture.rowPixels[i]) ∧
      (∀ a, a < 2560 * s.picture.nextRow + 2 * s.picture.clip.x0 ∨
          2560 * s.picture.nextRow + 2 * (s.picture.clip.x0 + s.picture.rowPixels.length) ≤ a →
        (u.frames.get s.picture.dest).read a = (s.frames.get s.picture.dest).read a) ∧
      (∀ buf, buf ≠ s.picture.dest → u.frames.get buf = s.frames.get buf) ∧ u.frames.clearing = s.frames.clearing) ∧
  (∀ s : State, Running s →
      (s.frames.clearing = true → s.power.dockTime ≠ 0 →
        exec .clearingEnd s = .next (look { s with frames := { s.frames with clearing := false } })) ∧
      (s.frames.clearing = false ∨ s.power.dockTime = 0 → exec .clearingEnd s = .next (look s)))

/-- What follows at a row boundary, the first case that applies: abandoned work stops, a CANCELLING request ends
CANCELLED, one whose rows are written ends DONE, in CRANK or STANDBY the request pauses, and else its next row begins:
a FILL row in writing with its colour; a STAGING row in writing with the pixels at its place in the Staging Area,
converted; a HOST row with at most 8 of its reads issued in order, or READ_ERROR with bus mastering off (R111 to
R120). That the engine's fields are cleared when it is FREE, how reads are numbered, and that a STAGING row is read in
the event are the model's (log entries 13, 28 and 34). -/
def Obligations.RowBoundaryCases : Prop :=
  ∀ s : State, s.exch.slots.length = 16 →
    let t := pictureBoundary s
    (s.picture.abandon = true → t = { s with picture := emptyEngine s }) ∧
    (∀ j, s.picture.job = some j → s.picture.abandon = false →
      let ends := fun (st : SlotState) (code : ResultCode) =>
        slot t j.slot = completedSlot s j.slot st code (if s.picture.clipped then 1 else 0) s.picture.pixels ∧
        t.picture = emptyEngine s ∧ t.frames = s.frames ∧ t.mem = s.mem
      ((slot s j.slot).state = .cancelling → ends .cancelled .cancelled) ∧
      ((slot s j.slot).state = .active → s.picture.clip.y1 < s.picture.nextRow → ends .done .ok) ∧
      ((slot s j.slot).state = .active → s.picture.nextRow ≤ s.picture.clip.y1 →
        s.power.band = .crank ∨ s.power.standby = true →
        t = { s with picture := { s.picture with work := .paused, writing := false } }) ∧
      ((slot s j.slot).state = .active → s.picture.nextRow ≤ s.picture.clip.y1 → s.power.band ≠ .crank →
        s.power.standby = false →
        let width := s.picture.clip.x1 + 1 - s.picture.clip.x0
        let byte := fun o => s.picture.params.getD (o - 0x1C) 0
        let at16 := fun o => half (byte o) (byte (o + 1))
        let at32 := fun o => (word (byte o) (byte (o + 1)) (byte (o + 2)) (byte (o + 3))).toNat
        let bytes := if byte 0x1D = 0 then 2 else 4
        let offset := ((s.picture.nextRow : Int) - (at16 0x32).toInt).toNat * at32 0x28 +
          (max 0 (-(at16 0x30).toInt)).toNat * bytes
        let written := fun pixels => { s with picture := { s.picture with
          work := .row, writing := true, rowBuf := [], rowPixels := pixels, reads := [], toIssue := [] } }
        (s.picture.fill = true → t = written (List.replicate width (at16 0x1C))) ∧
        (s.picture.fill = false → byte 0x1C ≠ 0 →
          t = written ((List.range width).map fun i =>
            let a := 0x1D00 + (at32 0x20 + offset) + i * bytes
            let c := fun o => (s.mem.read (a + o)).toNat
            if byte 0x1D = 0 then s.mem.half a
            else BitVec.ofNat 16 ((c 2 * 31 + 127) / 255 * 2048 + (c 1 * 63 + 127) / 255 * 32 +
              (c 0 * 31 + 127) / 255))) ∧
        (s.picture.fill = false → byte 0x1C = 0 →
          let plans := planReads (width * bytes) (at32 0x20 + at32 0x24 * 2 ^ 32 + offset) 0 (width * bytes)
          (s.link.busMastering = true → t = { s with picture := { s.picture with
            work := .row, writing := false, rowBuf := List.replicate (width * bytes) none, rowPixels := [],
            reads := mapFrom (fun i plan => ⟨s.picture.nextTag + i, plan, s.power.dockTime⟩) 0 (plans.take 8),
            toIssue := plans.drop 8, nextTag := s.picture.nextTag + min 8 plans.length } }) ∧
          (s.link.busMastering = false → 0 < width → ends .failed .readError))))

/-- CARRY_COPY_ROW_COMPLETE: the row of the front buffer stands in the same row of the back buffer, every other byte
of the three buffers as before; before the last row the copy goes on or pauses, and after the last the PRESENT
completes with count 800, the presented flag set and a PICTURE activity event, unless the work was abandoned or stopped
(R136, R137). That the row is copied at its end is log entry 32. -/
def Obligations.CarryCopyRowLands : Prop :=
  ∀ (s : State) (c : Carry), ExchangeInv s → Running s → s.scanout.carry = some c → c.inRow = true → c.row < 800 →
    (s.frames.get (backBuffer s)).wf = true → ∃ u,
    exec .carryCopyRowComplete s = .next (look u) ∧
    (∀ x, x < 2560 → (u.frames.get (backBuffer s)).read (2560 * c.row + x) =
      (s.frames.get (frontBuffer s)).read (2560 * c.row + x)) ∧
    (∀ a, a < 2560 * c.row ∨ 2560 * c.row + 2560 ≤ a →
      (u.frames.get (backBuffer s)).read a = (s.frames.get (backBuffer s)).read a) ∧
    u.frames.get (frontBuffer s) = s.frames.get (frontBuffer s) ∧ u.frames.standby = s.frames.standby ∧
    u.frames.clearing = s.frames.clearing ∧
    (let ends : State := { s with frames := u.frames, scanout := { s.scanout with carry := none } }
     (c.stopping = true → u = ends) ∧
     (c.stopping = false → c.row < 799 → u = { ends with scanout := { s.scanout with
      carry := some { c with row := c.row + 1, inRow := !pauses s } } }) ∧
     (c.stopping = false → c.row = 799 → c.abandoned = true → u = ends) ∧
     (∀ j, c.stopping = false → c.row = 799 → c.abandoned = false → s.picture.job = some j →
      ActivityTaken 1 s u ∧ u = { ends with
        scanout := { s.scanout with carry := none, presented := true },
        picture := { s.picture with job := none }, power := u.power, light := u.light,
        link := { s.link with messages := u.link.messages },
        exch := { s.exch with
          slots := s.exch.slots.set j.slot.val
            (if (slot s j.slot).state = .cancelling then completedSlot s j.slot .cancelled .cancelled 0 800
             else completedSlot s j.slot .done .ok 0 800),
          attention := if j.notify then s.exch.attention ||| 2 else s.exch.attention } }))

/-- VERTICAL_BLANK_START while the panel is ON: the frame number counts, a waiting PRESENT is swapped and, without carry,
ends DONE with that number and a PICTURE activity event or, with carry, begins its carry copy, and the source is decided
after it; while the panel is not ON there is none. A PRESENT that a free PICTURE context takes at the POST becomes the
waiting PRESENT while the panel is ON, and else is swapped at once, with the frame number as it stands (R131 to R136). -/
def Obligations.VerticalBlankSwapsAndDecides : Prop :=
  (∀ s : State, ExchangeInv s → Running s →
    let source := fun (presented : Bool) => if s.exch.sessionOpen = true ∧ presented = true ∧
      (s.lines.drive && s.scanout.driveBlanking) = false then Source.front else .standby
    let counted : State := { s with scanout := { s.scanout with frame := s.scanout.frame + 1 } }
    (s.scanout.panel ≠ .on → exec .verticalBlankStart s = .next (look s)) ∧
    (s.scanout.panel = .on → s.scanout.waiting = none → exec .verticalBlankStart s = .next (look
      { counted with scanout := { counted.scanout with source := source s.scanout.presented } })) ∧
    (∀ carry j, s.scanout.panel = .on → s.scanout.waiting = some carry → s.picture.job = some j → ∃ v,
      exec .verticalBlankStart s = .next (look
        { v with scanout := { v.scanout with source := source v.scanout.presented } }) ∧
      Swapped carry j counted v ∧
      (carry = true → v = { counted with scanout := v.scanout }) ∧
      (carry = false → v = { counted with
        scanout := v.scanout, picture := v.picture, power := v.power, light := v.light,
        link := { s.link with messages := v.link.messages },
        exch := { s.exch with
          slots := s.exch.slots.set j.slot.val { completedSlot s j.slot .done .ok 0 0 with frame := s.scanout.frame + 1 },
          attention := if j.notify then s.exch.attention ||| 2 else s.exch.attention } }))) ∧
  (∀ (s : State) (k : Fin 16), ExchangeInv s → Linked s → s.exch.sessionOpen = true → (slot s k).state = .free →
    s.exch.queue = [] → pictureFree s = true → pictureHeld s = false →
    s.mem.read (0x0104 + 64 * k.val) = kindPresent →
    let carry := decide (s.mem.read (0x011C + 64 * k.val) ≠ 0)
    let j : Job :=
      ⟨k, kindPresent, s.mem.read (0x0106 + 64 * k.val) != 0, s.mem.reads (0x011C + 64 * k.val) 36, 0⟩
    let taken : State := { s with
      exch := { s.exch with
        slots := s.exch.slots.set k.val ⟨.active, .ok, 0, s.exch.nextPost, 0, 0, 0⟩,
        nextPost := s.exch.nextPost + 1 },
      picture := { emptyEngine s with job := some j } }
    (s.scanout.panel = .on → exec (.post k) s = .next { taken with scanout := { s.scanout with waiting := some carry } }) ∧
    (s.scanout.panel ≠ .on → ∃ t, exec (.post k) s = .next t ∧ Swapped carry j taken t ∧
      t = { taken with
        scanout := t.scanout, picture := t.picture, exch := t.exch, power := t.power, light := t.light,
        link := { s.link with messages := t.link.messages } }))

/-- PANEL_STAGE_EXPIRY walks the two sequences with their times, and at their ends the panel is ON with its source
decided, or OFF and started again when wanted, and a PANEL slot that waits for that end is DONE. The rails, the interface
and the backlight enable at the pins follow the panel state and the stage, with the output as the backlight's duty. While
the interface runs in a sequence it sends black frames; while the panel is ON, those of the source's buffer, where a row that is
still being written shows, pixel by pixel, the new row or the one from before: the free value of log entry 40 (R107, R124,
R125, R126, R128, R132). That a stage timer runs out once Dock Time has reached its end, and that an expiry before has no effect, is the
model's (log entries 3 and 4). -/
def Obligations.PanelStagesFollowTheirSequence : Prop :=
  (∀ (s : State) (moment x y : Nat), Running s →
      let shown := shownPixel s moment x y
      let buf := match s.scanout.source with | .front => frontBuffer s | .standby => .standby
      let column := x - s.picture.clip.x0
      let inWriting := s.picture.writing = true ∧ s.picture.dest = buf ∧ s.picture.nextRow = y ∧
        s.picture.clip.x0 ≤ x ∧ column < s.picture.rowPixels.length
      let controls := ((pins s).panelRails, (pins s).panelInterface, (pins s).backlightEnable)
      (pins s).backlightDuty = s.light.output ∧
      (∀ st, s.scanout.stage = some st → stageFits s.scanout.panel (some st) = true →
        controls = (match st with
          | .rails => (true, false, false) | .signals => (true, true, false) | .enable => (true, true, true)
          | .disable => (true, true, false) | .signalsOff => (true, false, false)
          | .railsOff => (false, false, false)) ∧
        shown = if st = .signals ∨ st = .enable ∨ st = .disable then some 0 else none) ∧
      (s.scanout.panel = .on → controls = (true, true, true) ∧
        (¬inWriting → shown = some (pixel s buf x y)) ∧
        (inWriting → shown =
          some (if Config.landed moment x then s.picture.rowPixels.getD column 0 else pixel s buf x y))) ∧
      (s.scanout.panel = .off → controls = (false, false, false) ∧ shown = none)) ∧
  (∀ (s : State) (st : Stage), Running s → s.scanout.stage = some st →
    (reached s.power.dockTime s.scanout.stageEnds = false → exec .panelStageExpiry s = .next (look s)) ∧
    (reached s.power.dockTime s.scanout.stageEnds = true → ∃ u, exec .panelStageExpiry s = .next (look u) ∧
      let completes := fun (wish : Bool) =>
        let waits := fun (j : Job) => j.kind = kindPanel ∧ decide (j.params.getD 0 0 ≠ 0) = wish
        (∀ j, s.exch.settingsJob = some j → waits j → u.exch = { s.exch with
          settingsJob := none, slots := s.exch.slots.set j.slot.val (completedSlot s j.slot .done .ok 0 0),
          attention := if j.notify then s.exch.attention ||| 2 else s.exch.attention }) ∧
        ((∀ j, s.exch.settingsJob = some j → ¬waits j) → u.exch = s.exch)
      (st = .rails → u = { s with scanout := { s.scanout with
        panel := .starting, stage := some .signals, stageEnds := s.power.dockTime + ms 50 } }) ∧
      (st = .signals → u = { s with scanout := { s.scanout with
        panel := .starting, stage := some .enable, stageEnds := s.power.dockTime + ms 10 } }) ∧
      u = { s with scanout := u.scanout, light := u.light, exch := u.exch, link := u.link } ∧
      (st = .enable → completes true ∧ u.scanout = { s.scanout with
        panel := .on, stage := none,
        source := if s.exch.sessionOpen = true ∧ s.scanout.presented = true ∧
          (s.lines.drive && s.scanout.driveBlanking) = false then .front else .standby }) ∧
      (st = .disable → u = { s with scanout := { s.scanout with
        panel := .stopping, stage := some .signalsOff, stageEnds := s.power.dockTime + ms 50 } }) ∧
      (st = .signalsOff → u = { s with scanout := { s.scanout with
        panel := .stopping, stage := some .railsOff, stageEnds := s.power.dockTime + ms 20 } }) ∧
      (st = .railsOff → completes false) ∧
      (st = .railsOff → (s.power.standby = true ∨ s.scanout.wish = false) →
        u.scanout = { s.scanout with panel := .off, stage := none }) ∧
      (st = .railsOff → s.power.standby = false → s.scanout.wish = true →
        u.scanout = { s.scanout with
          panel := .starting, stage := some .rails, stageEnds := s.power.dockTime + ms 20 })))

/-! ### Measurement and light (spec 08) -/

/-- DOCK_TIME_ADVANCE counts one millisecond, wrapping at 2^32, and moves nothing else. CONVERSION_DUE at a multiple
of 8 ms starts a supply conversion and, at a multiple of 64 ms, marks an ambient one pending (R139, R166). That a
CONVERSION_DUE off the 8 ms grid has no effect is the model's (log entry 3), as is the mark of the last due time (log
entry 5). -/
def Obligations.ConversionsFollowDockTime : Prop :=
  (∀ s : State, Running s →
      exec .dockTimeAdvance s = .next { s with power := { s.power with dockTime := s.power.dockTime + 1 } } ∧
        readWord s 0x0040 = s.power.dockTime) ∧
  (∀ s : State, Running s →
      (s.power.dockTime.toNat % 8 = 0 → s.measure.dueAt ≠ some s.power.dockTime → s.measure.converting = .none →
        exec .conversionDue s = .next { s with measure := { s.measure with
          dueAt := some s.power.dockTime, converting := .supply,
          ambientPending := s.measure.ambientPending || decide (s.power.dockTime.toNat % 64 = 0) } }) ∧
      (s.power.dockTime.toNat % 8 ≠ 0 → exec .conversionDue s = .next s))

/-- SUPPLY_CONVERSION_COMPLETE: the millivolts are published, the band and the recovery count follow the table of
R167, a change into or out of CRANK builds its SUPPLY record, a pending ambient conversion starts, and where the band
leaves CRANK in ACTIVE a paused COPY or FILL takes its boundary again and a paused carry copy goes on; a sample that
leaves the band, one in STANDBY and one that enters CRANK leave the picture path and the panel as they are (R118, R136,
R139, R140, R167, R168). -/
def Obligations.SupplySampleSetsTheBand : Prop :=
  ∀ (s : State) (code : BitVec 10), Running s → s.measure.converting = .supply → ∃ u,
    exec (.supplyConversionComplete code) s = .next (look u) ∧
    u.measure = { s.measure with
      millivolts := BitVec.ofNat 16 (code.toNat * 20),
      converting := if s.measure.ambientPending then .ambient else .none, ambientPending := false } ∧
    let mv := code.toNat * 20
    (s.power.band = .normal → u.power.recovery = 0 ∧
      u.power.band = (if mv < 9000 then .crank else if mv < 10500 then .low else .normal)) ∧
    (s.power.band = .low → u.power.recovery = 0 ∧
      u.power.band = (if mv < 9000 then .crank else if mv < 11000 then .low else .normal)) ∧
    (s.power.band = .crank → mv < 9500 → u.power.recovery = 0 ∧ u.power.band = .crank) ∧
    (s.power.band = .crank → 9500 ≤ mv → s.power.recovery ≤ 2 →
      u.power.recovery = s.power.recovery + 1 ∧ u.power.band = .crank) ∧
    (s.power.band = .crank → 9500 ≤ mv → s.power.recovery = 3 → u.power.recovery = 0 ∧ u.power.band = .low) ∧
    (s.mem.wf = true → Writable 1 s →
      (s.power.band ≠ .crank → mv < 9000 →
        recordAt u.mem s.journal.head s.power.dockTime ⟨.supply, none, 0, snapshot s, 0, 1⟩) ∧
      (s.power.band = .crank → 9500 ≤ mv → s.power.recovery = 3 →
        recordAt u.mem s.journal.head s.power.dockTime ⟨.supply, none, 0, snapshot s, 0, 2⟩)) ∧
    (s.power.band = .crank → 9500 ≤ mv → s.power.recovery = 3 → s.power.standby = false → PauseEnds s u) ∧
    (s.power.standby = true ∨ u.power.band = .crank ∨ u.power.band = s.power.band →
      u.picture = s.picture ∧ u.scanout = s.scanout) ∧
    u.composer = s.composer ∧ u.lines = s.lines ∧ u.profile = s.profile ∧ u.scanner = s.scanner ∧ u.frames = s.frames

/-- AMBIENT_CONVERSION_COMPLETE: the history, the average of its four codes, and the target recomputed from it; the base
level is the manual level, or the curve with its division truncated toward zero, between the two L values of its
segment (R141, R145, R146). -/
def Obligations.AmbientAverageIsHandedOn : Prop :=
  (∀ (s : State) (code : BitVec 10), Running s → s.measure.converting = .ambient →
      ∃ t, exec (.ambientConversionComplete code) s = .next t ∧ t = { s with measure := t.measure, light := t.light } ∧
        t.measure.converting = .none ∧
        (s.measure.history = [] → t.measure.history = [code, code, code, code] ∧ t.light.ambient = code.toNat) ∧
        (∀ c0 c1 c2 c3, s.measure.history = [c0, c1, c2, c3] → t.measure.history = [c1, c2, c3, code] ∧
          t.light.ambient = (c1.toNat + c2.toNat + c3.toNat + code.toNat) / 4) ∧
        t.light.target = targetLevel t ∧ (immediate s = false → t.light.output = s.light.output) ∧
        (immediate s = true → t.light.output = t.light.target)) ∧
  (∀ s : State, let l := s.light.settings
      let avg := s.light.ambient
      (l.mode = .manual → baseLevel s = l.manual) ∧
      (l.mode = .auto → l.p0.a < l.p1.a → l.p1.a < l.p2.a → l.p2.a < l.p3.a →
        (avg ≤ l.p0.a → baseLevel s = l.p0.l) ∧ (l.p3.a ≤ avg → baseLevel s = l.p3.l) ∧
        (∀ lo hi, (lo = l.p0 ∧ hi = l.p1) ∨ (lo = l.p1 ∧ hi = l.p2) ∨ (lo = l.p2 ∧ hi = l.p3) →
          lo.a ≤ avg → avg < hi.a →
          (baseLevel s : Int) =
            lo.l + (((avg : Int) - lo.a) * ((hi.l : Int) - lo.l)).tdiv ((hi.a : Int) - lo.a) ∧
          min lo.l hi.l ≤ baseLevel s ∧ baseLevel s ≤ max lo.l hi.l)))

/-- LIGHT_TICK at a multiple of 16 ms: one slew step toward the target and not past it, or the target at once in the
immediate cases, with the key light following. IDLE_EXPIRY of a RUNNING idle timer that has run out: DIMMED, with the
target recomputed. An activity event: a selected one reloads a running idle timer, lifts a dimmed one and reloads a
running linger timer with the wake load; one that neither setting selects does nothing (R147 to R149, R170). That a tick
off the 16 ms grid, and an IDLE_EXPIRY before its time or with the timer not running, have no effect, and that the timer
runs out once Dock Time has reached its end, is the model's (log entries 3 and 4), as is the mark of the last tick (log
entry 5). -/
def Obligations.LightTickAndIdleTimer : Prop :=
  (∀ s : State, Running s →
      (s.power.dockTime.toNat % 16 = 0 → s.light.tickAt ≠ some s.power.dockTime →
        ∃ t, exec .lightTick s = .next t ∧ t = { s with light := t.light } ∧
          t.light = { s.light with
            tickAt := some s.power.dockTime, output := t.light.output,
            keyLight := t.light.output * s.light.settings.keyRatio / 16 } ∧
          (immediate s = true → t.light.output = s.light.target) ∧
          (immediate s = false → s.light.output ≤ s.light.target →
            t.light.output = min s.light.target (s.light.output + s.light.settings.slew)) ∧
          (immediate s = false → s.light.target < s.light.output →
            t.light.output = max s.light.target (s.light.output - s.light.settings.slew))) ∧
      (s.power.dockTime.toNat % 16 ≠ 0 → exec .lightTick s = .next s)) ∧
  (∀ s : State, Running s →
      (s.light.idle = .running → reached s.power.dockTime s.light.idleEnds = true →
        ∃ t, exec .idleExpiry s = .next t ∧ t = { s with light := t.light } ∧ t.light.idle = .dimmed ∧
          t.light.target = targetLevel t ∧ t.light.target ≤ s.light.settings.dim ∧
          (immediate s = false → t.light.output = s.light.output)) ∧
      (s.light.idle ≠ .running ∨ reached s.power.dockTime s.light.idleEnds = false →
        exec .idleExpiry s = .next s)) ∧
  (∀ (s : State) (a : Activity),
      (s.light.settings.idleSources.getLsbD a.bit = false → s.power.lingerSources.getLsbD a.bit = false →
        activity a s = s) ∧
      ActivityTaken (match a with | .key => 0 | .picture => 1 | .vehicle => 2) s (activity a s))

/-! ### Lines and power (spec 09, 10) -/

/-- LINE_EDGE: a change of level starts or restarts the timer of its line with its qualification time, and touches no
qualified level; no change of level is no edge. QUALIFICATION_EXPIRY with the level already believed only stops the
timer (R155, R156, R179). That during a hold the level alone changes is log entry 22; that a timer runs out once Dock
Time has reached its end, and that an expiry before only looks, is the model's (log entries 3 and 4). -/
def Obligations.LineTimersQualify : Prop :=
  (∀ (s : State) (line : Line) (high : Bool),
      let levels := putLevel s.lines.levels line high
      let ends := fun n => some (s.power.dockTime + ms n)
      (levelAt s.lines.levels line = high → exec (.lineEdge line high) s = .next s) ∧
      (levelAt s.lines.levels line ≠ high → s.power.held = true →
        exec (.lineEdge line high) s = .next { s with lines := { s.lines with levels := levels } }) ∧
      (levelAt s.lines.levels line ≠ high → Running s → exec (.lineEdge line high) s = .next { s with lines :=
        (match line with
          | .ign => { s.lines with levels := levels, ignEnds := ends 200 }
          | .park => { s.lines with levels := levels, parkEnds := ends s.lines.parkTime }
          | .presence => { s.lines with levels := levels, presenceEnds := ends 50 }
          | .latch => { s.lines with levels := levels, latchEnds := ends 50 }) })) ∧
  (∀ (s : State) (line : Line), Running s →
      (due s (lineTimer s.lines line) = false → exec (.qualificationExpiry line) s = .next (look s)) ∧
      (due s (lineTimer s.lines line) = true → lineLevel s.lines.levels line = qualified s.lines line →
        exec (.qualificationExpiry line) s = .next (look (setLineTimer line none s))))

/-- QUALIFICATION_EXPIRY with a new level: it becomes the qualified level; a change of IGN and one of drive mode build
their VEHICLE records, and a change of IGN or PARK is a VEHICLE activity event; IGN ON stops the linger timer and wakes,
IGN OFF in ACTIVE loads it or enters STANDBY and in STANDBY leaves the power state; a departure ends the session, an
arrival wakes only by its switch, and a LATCH change builds its record, OPEN waking only while latch wake is enabled
(R157 to R163, R170, R173, R174). -/
def Obligations.QualifiedChangesAct : Prop :=
  ∀ s : State, ExchangeInv s → Running s → s.lines.drive = (s.lines.ignOn && !s.lines.parkEngaged) →
    let vehicle := fun (detail : Half) => (⟨.vehicle, none, 0, snapshot s, 0, detail⟩ : Rec)
    let power := fun (detail : Half) => (⟨.power, none, 0, snapshot s, 0, detail⟩ : Rec)
    let activeIdle := fun (u : State) =>
      s.light.settings.idleSources.getLsbD 2 = true → s.light.idle ≠ .off →
        u.light.idle = .running ∧ u.light.idleEnds = s.power.dockTime + ms (s.light.settings.idleTimeout * 1000)
    let plainIdle := fun (u : State) =>
      s.light.settings.idleSources.getLsbD 2 = false → u.light.idle = s.light.idle ∧ u.light.idleEnds = s.light.idleEnds
    (due s s.lines.ignEnds = true → s.lines.levels.ign = true → s.lines.ignOn = false → ∃ u,
      exec (.qualificationExpiry .ign) s = .next (look u) ∧
      u.lines = { s.lines with ignEnds := none, ignOn := true, drive := !s.lines.parkEngaged } ∧
      u.power.standby = false ∧ u.power.lingerEnds = none ∧ activeIdle u ∧
      (s.power.standby = false → plainIdle u) ∧
      Writes (vehicle 1 :: (if s.lines.parkEngaged then [] else [vehicle 3]) ++
        (if s.power.standby then [power 1] else [])) s u) ∧
    (due s s.lines.ignEnds = true → s.lines.levels.ign = false → s.lines.ignOn = true → ∃ u,
      exec (.qualificationExpiry .ign) s = .next (look u) ∧
      u.lines = { s.lines with ignEnds := none, ignOn := false, drive := false } ∧
      u.power.standby = (s.power.standby || decide (s.power.lingerMin = 0)) ∧ activeIdle u ∧
      (s.power.standby = true ∨ s.power.lingerMin ≠ 0 → plainIdle u) ∧
      (s.power.standby = true → s.power.lingerEnds = none → u.power = s.power) ∧
      (s.power.standby = false → u.power.lingerEnds = (if s.power.lingerMin = 0 then none
        else some (s.power.dockTime + ms (60000 * s.power.lingerMin)))) ∧
      Writes (vehicle 2 :: (if s.lines.parkEngaged then [] else [vehicle 4]) ++
        (if !s.power.standby && s.power.lingerMin == 0 then [power 0] else [])) s u) ∧
    (due s s.lines.parkEnds = true → s.lines.levels.park = s.lines.parkEngaged → ∃ u,
      exec (.qualificationExpiry .park) s = .next (look u) ∧
      u.lines = { s.lines with
        parkEnds := none, parkEngaged := !s.lines.parkEngaged, drive := s.lines.ignOn && s.lines.parkEngaged } ∧
      u.power = { s.power with lingerEnds :=
        if s.power.lingerSources.getLsbD 2 then s.power.lingerEnds.map fun _ =>
          s.power.dockTime + ms (if s.power.lingerMin = 0 then 60000 else 60000 * s.power.lingerMin)
        else s.power.lingerEnds } ∧
      activeIdle u ∧ plainIdle u ∧ u.composer = s.composer ∧ u.picture = s.picture ∧ u.scanout = s.scanout ∧
      u.frames = s.frames ∧ u.profile = s.profile ∧
      Writes (if s.lines.ignOn then [vehicle (if s.lines.parkEngaged then 3 else 4)] else []) s u) ∧
    (due s s.lines.presenceEnds = true → s.lines.levels.presence = true → s.lines.docked = true → ∃ u,
      exec (.qualificationExpiry .presence) s = .next (look u) ∧
      u.lines = { s.lines with presenceEnds := none, docked := false } ∧ u.exch.sessionOpen = false ∧
      u.exch.queue = [] ∧ u.exch.attention = 0 ∧ u.journal = s.journal ∧ u.power = s.power ∧ u.mem = s.mem) ∧
    (due s s.lines.presenceEnds = true → s.lines.levels.presence = false → s.lines.docked = false → ∃ u,
      exec (.qualificationExpiry .presence) s = .next (look u) ∧
      u.lines = { s.lines with presenceEnds := none, docked := true } ∧
      u.exch.sessionOpen = s.exch.sessionOpen ∧
      u.power.standby = (s.power.standby && !s.power.dockWake) ∧
      Writes (if s.power.standby && s.power.dockWake then [power 3] else []) s u) ∧
    (due s s.lines.latchEnds = true → s.lines.levels.latch ≠ s.lines.latchOpen → ∃ u,
      exec (.qualificationExpiry .latch) s = .next (look u) ∧
      u.lines = { s.lines with latchEnds := none, latchOpen := s.lines.levels.latch } ∧
      u.power.standby = (s.power.standby && !(s.lines.levels.latch && s.power.latchWake)) ∧
      Writes (⟨.latch, none, 0, snapshot s, 0, if s.lines.levels.latch then 1 else 2⟩ ::
        (if s.power.standby && s.lines.levels.latch && s.power.latchWake then [power 4] else [])) s u)

/-- LINGER_EXPIRY of a timer that has run out enters STANDBY: the record, the power state, the dark output, the idle pass
count; a panel that is ON or STARTING turns to the stage that undoes its last action, with the swap of a waiting PRESENT,
and a PANEL slot that waits for ON is DONE. A wake source in STANDBY: ACTIVE, the STANDBY_EXIT record of its source, the
linger timer by IGN, the idle timer RUNNING afresh unless it is OFF, the panel by the wish, outside CRANK the end of the
pause of a COPY, FILL or carry copy, and FAST scan, from SLOW scan with its next pass in this millisecond where a SLOW pass
is due, or else in the next; a source whose switch is off, or any source in ACTIVE, has no effect (R45, R46, R118, R123,
R126, R130, R135, R136, R146, R149, R170, R172 to R174). That a timer runs out once Dock Time has reached its end, and that
a LINGER_EXPIRY before only looks, is the model's (log entries 3 and 4); so is the mark of the last pass (log entries 5 and
18). -/
def Obligations.StandbyIsEnteredAndLeft : Prop :=
  (∀ s : State, ExchangeInv s → Running s →
      (due s s.power.lingerEnds = true → ∃ u, exec .lingerExpiry s = .next (look u) ∧
        StandbyEntered s u ∧ Writes [⟨.power, none, 0, snapshot s, 0, 0⟩] s u) ∧
      (due s s.power.lingerEnds = false → exec .lingerExpiry s = .next (look s))) ∧
  (∀ (s : State) (w : WakeSource),
      (s.power.standby = false → wakeSource w s = s) ∧
      (w = .dockArrival → s.power.dockWake = false → wakeSource w s = s) ∧
      (w = .latch → s.power.latchWake = false → wakeSource w s = s) ∧
      (s.power.standby = true → (w = .dockArrival → s.power.dockWake = true) →
        (w = .latch → s.power.latchWake = true) →
        let t := wakeSource w s
        t.power.standby = false ∧ t.scanner.mode = .fast ∧ t.scanner.idlePasses = 0 ∧
        (s.scanner.mode = .fast → t.scanner = { s.scanner with idlePasses := 0 } ∧ t.composer = s.composer) ∧
        (s.scanner.mode = .slow →
          (s.power.dockTime ≠ s.scanner.passAt → (s.power.dockTime - s.scanner.passAt).toNat % 32 = 0 →
            fastDue t = true) ∧
          (s.power.dockTime = s.scanner.passAt ∨ (s.power.dockTime - s.scanner.passAt).toNat % 32 ≠ 0 →
            t.scanner.passAt = s.power.dockTime ∧ fastDue t = false)) ∧
        t.lines = s.lines ∧ t.frames = s.frames ∧ t.profile = s.profile ∧ t.measure = s.measure ∧
        (s.lines.ignOn = true → s.power.lingerEnds = none → t.power.lingerEnds = none) ∧
        (s.lines.ignOn = false → t.power.lingerEnds =
          some (s.power.dockTime + ms (if s.power.lingerMin = 0 then 60000 else 60000 * s.power.lingerMin))) ∧
        (s.light.idle = .off → t.light.idle = .off ∧ t.light.idleEnds = s.light.idleEnds) ∧
        (s.light.idle ≠ .off → t.light.idle = .running ∧
          t.light.idleEnds = s.power.dockTime + ms (s.light.settings.idleTimeout * 1000)) ∧
        t.light.target = targetLevel t ∧ t.light.settings = s.light.settings ∧
        (s.scanout.panel = .off → s.scanout.wish = true → t.scanout.panel = .starting ∧
          t.scanout.stage = some .rails ∧ t.scanout.stageEnds = s.power.dockTime + ms 20) ∧
        (s.scanout.panel = .off ∧ s.scanout.wish = false ∨ s.scanout.panel = .stopping →
          t.scanout.panel = s.scanout.panel ∧ t.scanout.stage = s.scanout.stage ∧
          t.scanout.stageEnds = s.scanout.stageEnds) ∧
        (s.scanout.waiting = none → s.power.band ≠ .crank → PauseEnds s t) ∧
        (s.scanout.waiting = none → s.power.band = .crank →
          t.picture = s.picture ∧ t.scanout.carry = s.scanout.carry) ∧
        Writes [⟨.power, w.position, (match w.position with | some p => usageOf s p | none => 0), snapshot s, 0,
          (match w with | .ignitionOn => 1 | .key _ => 2 | .dockArrival => 3 | .latch => 4 | .host => 5)⟩] s t))

/-! ### Starts (R23, R24, R169, R176, R177) -/

/-- SURVIVAL_COMPARATOR_TRIP: the power state is captured, the session has ended, the link is left, every output takes
its safe state, and the part is held: what follows, but for the level of a line, does nothing until the start.
SUPPLY_DIP_START of a part held after a trip: the state of a start, with the Slot Array zero and the journal, profile
and staging bytes kept, and the start record of a dip; a part that is not so held does not start. In the hold of a
cold start's power-up the outputs take the safe state and nothing but COLD_START acts (R7, R24, R169, R176 to R178;
the held phases are log entries 22 and 36, the panel interface in the safe state log entry 37). What the start keeps
for the model is log entry 23. -/
def Obligations.TripHoldsUntilTheDipStart : Prop :=
  (∀ s : State, Running s → ∃ t, exec .survivalComparatorTrip s = .next t ∧ t.power.held = true ∧
      t.power.poweringUp = false ∧
      t.power.captured = (if s.power.standby then .standby else .active) ∧ t.exch.sessionOpen = false ∧
      t.link.up = false ∧ intx t = false ∧ pins t = Pins.safe ∧ t.mem = s.mem ∧ t.power.dipCount = s.power.dipCount ∧
      (∀ c, c ≠ .supplyDipStart → (∀ l, c ≠ .coldStart l) → (∀ line high, c ≠ .lineEdge line high) →
        exec c t = .next t)) ∧
  (∀ s : State,
      (s.power.held = true → s.power.poweringUp = false → s.mem.wf = true → ∃ t, exec .supplyDipStart s = .next t ∧
        t = { State.reset with
          pending := s.pending, freeCount := s.freeCount, mem := t.mem,
          link := { State.reset.link with messages := s.link.messages },
          lines := Lines.start s.lines.levels,
          power := { State.reset.power with
            startCause := .supplyDip, prior := s.power.captured, dipCount := min (s.power.dipCount + 1) 255 } } ∧
        (∀ a, a < 0x0500 → t.mem.read a = 0) ∧ (∀ a, 0x0500 ≤ a → t.mem.read a = s.mem.read a)) ∧
      (s.power.held = false ∨ s.power.poweringUp = true → exec .supplyDipStart s = .next s)) ∧
  (∀ levels : LineLevels,
      let t := poweringUp levels
      pins t = ⟨false, false, false, 0, 0, 0, 0, false, true⟩ ∧ pins t = Pins.safe ∧
      (∀ c, (∀ l, c ≠ .coldStart l) → (∀ line high, c ≠ .lineEdge line high) → exec c t = .next t) ∧
      ∀ l, exec (.coldStart l) t = exec (.coldStart l) State.reset)

/-- COLD_START from any state: the state after reset with the line levels it brings, and the pins as their owners
begin; the values the rules give it (R24, R47, R89, R91, R106, R138, R142, R153, R165, R176, R177). The link down, the
interrupt-disable control clear, the marks of the model and what it keeps for itself are log entries 5, 7, 8, 9 and
23. -/
def Obligations.ColdStartGivesTheStartState : Prop :=
  ∀ (s : State) (levels : LineLevels), ∃ t, exec (.coldStart levels) s = .next t ∧
    t = { State.reset with
      pending := s.pending, freeCount := s.freeCount, lines := Lines.start levels,
      link := { State.reset.link with messages := s.link.messages } } ∧
    (∀ a, t.mem.read a = 0) ∧ readWord t 0x0000 = 0x00010640 ∧ t.exch.sessionOpen = false ∧
    (∀ k, slot t k = SlotRec.zero) ∧ t.journal = ⟨0, 0, 0, false, 0, false⟩ ∧
    t.profile = ⟨Profile.default, none, none⟩ ∧ (∀ p, key t p = ⟨0, false, .up, 0, false⟩) ∧
    t.scanner.mode = .fast ∧ t.scanner.vib = 0 ∧ t.frames = ⟨[], [], [], true⟩ ∧ t.scanout.front = .a ∧
    t.scanout.wish = true ∧ t.scanout.source = .standby ∧ t.scanout.frame = 0 ∧ t.light.output = 0 ∧
    t.light.settings = LightSettings.default ∧ t.lines.ignOn = false ∧ t.lines.parkEngaged = true ∧
    t.lines.docked = false ∧ t.lines.latchOpen = false ∧ t.lines.ignEnds = some (ms 200) ∧
    t.lines.parkEnds = some (ms 500) ∧ t.lines.presenceEnds = some (ms 50) ∧ t.lines.latchEnds = some (ms 50) ∧
    t.power.standby = false ∧ t.power.band = .normal ∧ t.power.dockTime = 0 ∧
    t.power.lingerEnds = some (ms 1800000) ∧ t.power.startCause = .cold ∧ t.power.prior = .none ∧
    t.power.dipCount = 0 ∧ pins t = ⟨true, false, false, 0, 0, 0, 0, false, false⟩

/-- FUNCTION_RESET: an open session ends, every block takes its function-reset state, the start record shows it, and
the PCIe configuration, frame memory, clocks, lines and band are kept. A row whose write has begun runs to its end, other
work stops, a waiting PRESENT is withdrawn, a carry copy stops after its row in progress, and a panel that is OFF starts
while any other keeps its state and stage (R23, R24, R47, R71, R89, R91, R120, R122, R123, R137, R138, R142, R153, R165,
R177). The marks of the last pass and advance, the cleared engine, and a paused carry copy that stops at once are the
model's (log entries 5, 21, 28 and 32). -/
def Obligations.FunctionResetStartsTheBlocks : Prop :=
  ∀ (s : State) (v : Word), ExchangeInv s → Linked s → s.mem.wf = true → ∃ t, exec (.functionReset v) s = .next t ∧
    t.link = { s.link with intEnable := false, messages := t.link.messages } ∧
    t.exch = Exchange.start ∧ t.journal = ⟨0, 0, 0, false, 0, false⟩ ∧
    (∀ a, a < 0x0500 → t.mem.read a = 0) ∧ (∀ a, 0x0500 ≤ a → t.mem.read a = s.mem.read a) ∧
    t.scanner = { Scanner.start with passAt := s.power.dockTime, driven := s.scanner.driven } ∧
    t.composer = { Composer.start with downAt := s.power.dockTime } ∧ t.profile = ⟨Profile.default, none, none⟩ ∧
    t.frames = s.frames ∧ t.scanout = { s.scanout with
      wish := true, presented := false, driveBlanking := true, waiting := none,
      panel := if s.scanout.panel = .off then .starting else s.scanout.panel,
      stage := if s.scanout.panel = .off then some .rails else s.scanout.stage,
      stageEnds := if s.scanout.panel = .off then s.power.dockTime + ms 20 else s.scanout.stageEnds,
      carry := match s.scanout.carry with
        | none => none
        | some c => if c.inRow then some { c with abandoned := c.abandoned || s.exch.sessionOpen, stopping := true }
          else none } ∧
    t.picture = (match s.picture.work with
      | .free => { s.picture with job := none }
      | .paused => emptyEngine s
      | .row | .stopping =>
        if s.picture.writing then { s.picture with job := none, work := .stopping, abandon := true }
        else emptyEngine s) ∧
    t.measure = { s.measure with converting := .none, ambientPending := false, history := [] } ∧
    t.light.settings = LightSettings.default ∧ t.light.idle = .running ∧
    t.light.idleEnds = s.power.dockTime + ms 120000 ∧ t.light.ambient = s.light.ambient ∧ t.light.lamps = 0 ∧
    t.light.keyLight = t.light.output * 8 / 16 ∧
    (s.scanout.panel = .on → s.power.band ≠ .crank → t.light.output = s.light.output) ∧
    t.lines = { s.lines with parkTime := 500 } ∧
    t.power = { s.power with
      standby := false, lingerEnds := (if s.lines.ignOn then none else some (s.power.dockTime + ms 1800000)),
      lingerMin := 30, lingerSources := 0b101#3, keyWake := true, swallow := true, dockWake := true,
      latchWake := false, startCause := .functionReset,
      prior := if s.power.standby then .standby else .active }
end

