-- ==== Sys2Proof/Laws/State.lean ====
section
/-! SUPPORT. The fields of State after each update that a shared operation makes: one lemma per field, true by `rfl`, so that
no proof unfolds a record update. -/

namespace Sys2Proof.Machine

/-! ### Ops -/

@[simp] theorem setKey_pending (p : Fin 128) (k : KeyRec) (s : State) : (setKey p k s).pending = s.pending := rfl
@[simp] theorem setKey_mem (p : Fin 128) (k : KeyRec) (s : State) : (setKey p k s).mem = s.mem := rfl
@[simp] theorem setKey_link (p : Fin 128) (k : KeyRec) (s : State) : (setKey p k s).link = s.link := rfl
@[simp] theorem setKey_exch (p : Fin 128) (k : KeyRec) (s : State) : (setKey p k s).exch = s.exch := rfl
@[simp] theorem setKey_journal (p : Fin 128) (k : KeyRec) (s : State) : (setKey p k s).journal = s.journal := rfl
@[simp] theorem setKey_scanner (p : Fin 128) (k : KeyRec) (s : State) : (setKey p k s).scanner = s.scanner := rfl
@[simp] theorem setKey_composer (p : Fin 128) (k : KeyRec) (s : State) :
    (setKey p k s).composer = { s.composer with keys := s.composer.keys.set p.val k } := rfl
@[simp] theorem setKey_profile (p : Fin 128) (k : KeyRec) (s : State) : (setKey p k s).profile = s.profile := rfl
@[simp] theorem setKey_picture (p : Fin 128) (k : KeyRec) (s : State) : (setKey p k s).picture = s.picture := rfl
@[simp] theorem setKey_frames (p : Fin 128) (k : KeyRec) (s : State) : (setKey p k s).frames = s.frames := rfl
@[simp] theorem setKey_scanout (p : Fin 128) (k : KeyRec) (s : State) : (setKey p k s).scanout = s.scanout := rfl
@[simp] theorem setKey_measure (p : Fin 128) (k : KeyRec) (s : State) : (setKey p k s).measure = s.measure := rfl
@[simp] theorem setKey_light (p : Fin 128) (k : KeyRec) (s : State) : (setKey p k s).light = s.light := rfl
@[simp] theorem setKey_lines (p : Fin 128) (k : KeyRec) (s : State) : (setKey p k s).lines = s.lines := rfl
@[simp] theorem setKey_power (p : Fin 128) (k : KeyRec) (s : State) : (setKey p k s).power = s.power := rfl
@[simp] theorem setKey_freeCount (p : Fin 128) (k : KeyRec) (s : State) :
    (setKey p k s).freeCount = s.freeCount := rfl

@[simp] theorem setSlot_pending (k : Fin 16) (r : SlotRec) (s : State) : (setSlot k r s).pending = s.pending := rfl
@[simp] theorem setSlot_mem (k : Fin 16) (r : SlotRec) (s : State) : (setSlot k r s).mem = s.mem := rfl
@[simp] theorem setSlot_link (k : Fin 16) (r : SlotRec) (s : State) : (setSlot k r s).link = s.link := rfl
@[simp] theorem setSlot_exch (k : Fin 16) (r : SlotRec) (s : State) :
    (setSlot k r s).exch = { s.exch with slots := s.exch.slots.set k.val r } := rfl
@[simp] theorem setSlot_journal (k : Fin 16) (r : SlotRec) (s : State) : (setSlot k r s).journal = s.journal := rfl
@[simp] theorem setSlot_scanner (k : Fin 16) (r : SlotRec) (s : State) : (setSlot k r s).scanner = s.scanner := rfl
@[simp] theorem setSlot_composer (k : Fin 16) (r : SlotRec) (s : State) : (setSlot k r s).composer = s.composer := rfl
@[simp] theorem setSlot_profile (k : Fin 16) (r : SlotRec) (s : State) : (setSlot k r s).profile = s.profile := rfl
@[simp] theorem setSlot_picture (k : Fin 16) (r : SlotRec) (s : State) : (setSlot k r s).picture = s.picture := rfl
@[simp] theorem setSlot_frames (k : Fin 16) (r : SlotRec) (s : State) : (setSlot k r s).frames = s.frames := rfl
@[simp] theorem setSlot_scanout (k : Fin 16) (r : SlotRec) (s : State) : (setSlot k r s).scanout = s.scanout := rfl
@[simp] theorem setSlot_measure (k : Fin 16) (r : SlotRec) (s : State) : (setSlot k r s).measure = s.measure := rfl
@[simp] theorem setSlot_light (k : Fin 16) (r : SlotRec) (s : State) : (setSlot k r s).light = s.light := rfl
@[simp] theorem setSlot_lines (k : Fin 16) (r : SlotRec) (s : State) : (setSlot k r s).lines = s.lines := rfl
@[simp] theorem setSlot_power (k : Fin 16) (r : SlotRec) (s : State) : (setSlot k r s).power = s.power := rfl
@[simp] theorem setSlot_freeCount (k : Fin 16) (r : SlotRec) (s : State) :
    (setSlot k r s).freeCount = s.freeCount := rfl

@[simp] theorem setSlotState_pending (k : Fin 16) (st : SlotState) (s : State) :
    (setSlotState k st s).pending = s.pending := rfl
@[simp] theorem setSlotState_mem (k : Fin 16) (st : SlotState) (s : State) : (setSlotState k st s).mem = s.mem := rfl
@[simp] theorem setSlotState_link (k : Fin 16) (st : SlotState) (s : State) :
    (setSlotState k st s).link = s.link := rfl
@[simp] theorem setSlotState_exch (k : Fin 16) (st : SlotState) (s : State) :
    (setSlotState k st s).exch = { s.exch with slots := s.exch.slots.set k.val { slot s k with state := st } } := rfl
@[simp] theorem setSlotState_journal (k : Fin 16) (st : SlotState) (s : State) :
    (setSlotState k st s).journal = s.journal := rfl
@[simp] theorem setSlotState_scanner (k : Fin 16) (st : SlotState) (s : State) :
    (setSlotState k st s).scanner = s.scanner := rfl
@[simp] theorem setSlotState_composer (k : Fin 16) (st : SlotState) (s : State) :
    (setSlotState k st s).composer = s.composer := rfl
@[simp] theorem setSlotState_profile (k : Fin 16) (st : SlotState) (s : State) :
    (setSlotState k st s).profile = s.profile := rfl
@[simp] theorem setSlotState_picture (k : Fin 16) (st : SlotState) (s : State) :
    (setSlotState k st s).picture = s.picture := rfl
@[simp] theorem setSlotState_frames (k : Fin 16) (st : SlotState) (s : State) :
    (setSlotState k st s).frames = s.frames := rfl
@[simp] theorem setSlotState_scanout (k : Fin 16) (st : SlotState) (s : State) :
    (setSlotState k st s).scanout = s.scanout := rfl
@[simp] theorem setSlotState_measure (k : Fin 16) (st : SlotState) (s : State) :
    (setSlotState k st s).measure = s.measure := rfl
@[simp] theorem setSlotState_light (k : Fin 16) (st : SlotState) (s : State) :
    (setSlotState k st s).light = s.light := rfl
@[simp] theorem setSlotState_lines (k : Fin 16) (st : SlotState) (s : State) :
    (setSlotState k st s).lines = s.lines := rfl
@[simp] theorem setSlotState_power (k : Fin 16) (st : SlotState) (s : State) :
    (setSlotState k st s).power = s.power := rfl
@[simp] theorem setSlotState_freeCount (k : Fin 16) (st : SlotState) (s : State) :
    (setSlotState k st s).freeCount = s.freeCount := rfl

@[simp] theorem freeSlots_pending (s : State) : (freeSlots s).pending = s.pending := rfl
@[simp] theorem freeSlots_mem (s : State) : (freeSlots s).mem = s.mem := rfl
@[simp] theorem freeSlots_link (s : State) : (freeSlots s).link = s.link := rfl
@[simp] theorem freeSlots_exch (s : State) :
    (freeSlots s).exch = { s.exch with slots := s.exch.slots.map fun r => { r with state := .free } } := rfl
@[simp] theorem freeSlots_journal (s : State) : (freeSlots s).journal = s.journal := rfl
@[simp] theorem freeSlots_scanner (s : State) : (freeSlots s).scanner = s.scanner := rfl
@[simp] theorem freeSlots_composer (s : State) : (freeSlots s).composer = s.composer := rfl
@[simp] theorem freeSlots_profile (s : State) : (freeSlots s).profile = s.profile := rfl
@[simp] theorem freeSlots_picture (s : State) : (freeSlots s).picture = s.picture := rfl
@[simp] theorem freeSlots_frames (s : State) : (freeSlots s).frames = s.frames := rfl
@[simp] theorem freeSlots_scanout (s : State) : (freeSlots s).scanout = s.scanout := rfl
@[simp] theorem freeSlots_measure (s : State) : (freeSlots s).measure = s.measure := rfl
@[simp] theorem freeSlots_light (s : State) : (freeSlots s).light = s.light := rfl
@[simp] theorem freeSlots_lines (s : State) : (freeSlots s).lines = s.lines := rfl
@[simp] theorem freeSlots_power (s : State) : (freeSlots s).power = s.power := rfl
@[simp] theorem freeSlots_freeCount (s : State) : (freeSlots s).freeCount = s.freeCount := rfl

@[simp] theorem refuse_pending (offset : Nat) (s : State) : (refuse offset s).pending = s.pending := rfl
@[simp] theorem refuse_mem (offset : Nat) (s : State) : (refuse offset s).mem = s.mem := rfl
@[simp] theorem refuse_link (offset : Nat) (s : State) : (refuse offset s).link = s.link := rfl
@[simp] theorem refuse_exch (offset : Nat) (s : State) :
    (refuse offset s).exch =
      { s.exch with refused := min (s.exch.refused + 1) 65535, lastRefused := BitVec.ofNat 16 offset } := rfl
@[simp] theorem refuse_journal (offset : Nat) (s : State) : (refuse offset s).journal = s.journal := rfl
@[simp] theorem refuse_scanner (offset : Nat) (s : State) : (refuse offset s).scanner = s.scanner := rfl
@[simp] theorem refuse_composer (offset : Nat) (s : State) : (refuse offset s).composer = s.composer := rfl
@[simp] theorem refuse_profile (offset : Nat) (s : State) : (refuse offset s).profile = s.profile := rfl
@[simp] theorem refuse_picture (offset : Nat) (s : State) : (refuse offset s).picture = s.picture := rfl
@[simp] theorem refuse_frames (offset : Nat) (s : State) : (refuse offset s).frames = s.frames := rfl
@[simp] theorem refuse_scanout (offset : Nat) (s : State) : (refuse offset s).scanout = s.scanout := rfl
@[simp] theorem refuse_measure (offset : Nat) (s : State) : (refuse offset s).measure = s.measure := rfl
@[simp] theorem refuse_light (offset : Nat) (s : State) : (refuse offset s).light = s.light := rfl
@[simp] theorem refuse_lines (offset : Nat) (s : State) : (refuse offset s).lines = s.lines := rfl
@[simp] theorem refuse_power (offset : Nat) (s : State) : (refuse offset s).power = s.power := rfl
@[simp] theorem refuse_freeCount (offset : Nat) (s : State) : (refuse offset s).freeCount = s.freeCount := rfl

@[simp] theorem writeRow_pending (buf : Buffer) (x y : Nat) (px : List Half) (s : State) :
    (writeRow buf x y px s).pending = s.pending := rfl
@[simp] theorem writeRow_mem (buf : Buffer) (x y : Nat) (px : List Half) (s : State) :
    (writeRow buf x y px s).mem = s.mem := rfl
@[simp] theorem writeRow_link (buf : Buffer) (x y : Nat) (px : List Half) (s : State) :
    (writeRow buf x y px s).link = s.link := rfl
@[simp] theorem writeRow_exch (buf : Buffer) (x y : Nat) (px : List Half) (s : State) :
    (writeRow buf x y px s).exch = s.exch := rfl
@[simp] theorem writeRow_journal (buf : Buffer) (x y : Nat) (px : List Half) (s : State) :
    (writeRow buf x y px s).journal = s.journal := rfl
@[simp] theorem writeRow_scanner (buf : Buffer) (x y : Nat) (px : List Half) (s : State) :
    (writeRow buf x y px s).scanner = s.scanner := rfl
@[simp] theorem writeRow_composer (buf : Buffer) (x y : Nat) (px : List Half) (s : State) :
    (writeRow buf x y px s).composer = s.composer := rfl
@[simp] theorem writeRow_profile (buf : Buffer) (x y : Nat) (px : List Half) (s : State) :
    (writeRow buf x y px s).profile = s.profile := rfl
@[simp] theorem writeRow_picture (buf : Buffer) (x y : Nat) (px : List Half) (s : State) :
    (writeRow buf x y px s).picture = s.picture := rfl
@[simp] theorem writeRow_frames (buf : Buffer) (x y : Nat) (px : List Half) (s : State) :
    (writeRow buf x y px s).frames =
      s.frames.set buf ((s.frames.get buf).writes (y * Config.rowBytes + 2 * x) (px.flatMap bytes2)) := rfl
@[simp] theorem writeRow_scanout (buf : Buffer) (x y : Nat) (px : List Half) (s : State) :
    (writeRow buf x y px s).scanout = s.scanout := rfl
@[simp] theorem writeRow_measure (buf : Buffer) (x y : Nat) (px : List Half) (s : State) :
    (writeRow buf x y px s).measure = s.measure := rfl
@[simp] theorem writeRow_light (buf : Buffer) (x y : Nat) (px : List Half) (s : State) :
    (writeRow buf x y px s).light = s.light := rfl
@[simp] theorem writeRow_lines (buf : Buffer) (x y : Nat) (px : List Half) (s : State) :
    (writeRow buf x y px s).lines = s.lines := rfl
@[simp] theorem writeRow_power (buf : Buffer) (x y : Nat) (px : List Half) (s : State) :
    (writeRow buf x y px s).power = s.power := rfl
@[simp] theorem writeRow_freeCount (buf : Buffer) (x y : Nat) (px : List Half) (s : State) :
    (writeRow buf x y px s).freeCount = s.freeCount := rfl

/-! ### The journal -/

@[simp] theorem putRecord_pending (seq : Word) (r : Rec) (s : State) : (putRecord seq r s).pending = s.pending := rfl
@[simp] theorem putRecord_mem (seq : Word) (r : Rec) (s : State) :
    (putRecord seq r s).mem = s.mem.writes (recordOffset seq) (recordBytes seq (now s) r) := rfl
@[simp] theorem putRecord_link (seq : Word) (r : Rec) (s : State) : (putRecord seq r s).link = s.link := rfl
@[simp] theorem putRecord_exch (seq : Word) (r : Rec) (s : State) : (putRecord seq r s).exch = s.exch := rfl
@[simp] theorem putRecord_journal (seq : Word) (r : Rec) (s : State) : (putRecord seq r s).journal = s.journal := rfl
@[simp] theorem putRecord_scanner (seq : Word) (r : Rec) (s : State) : (putRecord seq r s).scanner = s.scanner := rfl
@[simp] theorem putRecord_composer (seq : Word) (r : Rec) (s : State) :
    (putRecord seq r s).composer = s.composer := rfl
@[simp] theorem putRecord_profile (seq : Word) (r : Rec) (s : State) : (putRecord seq r s).profile = s.profile := rfl
@[simp] theorem putRecord_picture (seq : Word) (r : Rec) (s : State) : (putRecord seq r s).picture = s.picture := rfl
@[simp] theorem putRecord_frames (seq : Word) (r : Rec) (s : State) : (putRecord seq r s).frames = s.frames := rfl
@[simp] theorem putRecord_scanout (seq : Word) (r : Rec) (s : State) : (putRecord seq r s).scanout = s.scanout := rfl
@[simp] theorem putRecord_measure (seq : Word) (r : Rec) (s : State) : (putRecord seq r s).measure = s.measure := rfl
@[simp] theorem putRecord_light (seq : Word) (r : Rec) (s : State) : (putRecord seq r s).light = s.light := rfl
@[simp] theorem putRecord_lines (seq : Word) (r : Rec) (s : State) : (putRecord seq r s).lines = s.lines := rfl
@[simp] theorem putRecord_power (seq : Word) (r : Rec) (s : State) : (putRecord seq r s).power = s.power := rfl
@[simp] theorem putRecord_freeCount (seq : Word) (r : Rec) (s : State) :
    (putRecord seq r s).freeCount = s.freeCount := rfl

@[simp] theorem dropRecord_pending (s : State) : (dropRecord s).pending = s.pending := rfl
@[simp] theorem dropRecord_mem (s : State) : (dropRecord s).mem = s.mem := rfl
@[simp] theorem dropRecord_link (s : State) : (dropRecord s).link = s.link := rfl
@[simp] theorem dropRecord_exch (s : State) : (dropRecord s).exch = s.exch := rfl
@[simp] theorem dropRecord_journal (s : State) :
    (dropRecord s).journal = { s.journal with lost := min (s.journal.lost + 1) 65535 } := rfl
@[simp] theorem dropRecord_scanner (s : State) : (dropRecord s).scanner = s.scanner := rfl
@[simp] theorem dropRecord_composer (s : State) : (dropRecord s).composer = s.composer := rfl
@[simp] theorem dropRecord_profile (s : State) : (dropRecord s).profile = s.profile := rfl
@[simp] theorem dropRecord_picture (s : State) : (dropRecord s).picture = s.picture := rfl
@[simp] theorem dropRecord_frames (s : State) : (dropRecord s).frames = s.frames := rfl
@[simp] theorem dropRecord_scanout (s : State) : (dropRecord s).scanout = s.scanout := rfl
@[simp] theorem dropRecord_measure (s : State) : (dropRecord s).measure = s.measure := rfl
@[simp] theorem dropRecord_light (s : State) : (dropRecord s).light = s.light := rfl
@[simp] theorem dropRecord_lines (s : State) : (dropRecord s).lines = s.lines := rfl
@[simp] theorem dropRecord_power (s : State) : (dropRecord s).power = s.power := rfl
@[simp] theorem dropRecord_freeCount (s : State) : (dropRecord s).freeCount = s.freeCount := rfl

/-! ### The light controller -/

@[simp] theorem setOutput_pending (v : Nat) (s : State) : (setOutput v s).pending = s.pending := rfl
@[simp] theorem setOutput_mem (v : Nat) (s : State) : (setOutput v s).mem = s.mem := rfl
@[simp] theorem setOutput_link (v : Nat) (s : State) : (setOutput v s).link = s.link := rfl
@[simp] theorem setOutput_exch (v : Nat) (s : State) : (setOutput v s).exch = s.exch := rfl
@[simp] theorem setOutput_journal (v : Nat) (s : State) : (setOutput v s).journal = s.journal := rfl
@[simp] theorem setOutput_scanner (v : Nat) (s : State) : (setOutput v s).scanner = s.scanner := rfl
@[simp] theorem setOutput_composer (v : Nat) (s : State) : (setOutput v s).composer = s.composer := rfl
@[simp] theorem setOutput_profile (v : Nat) (s : State) : (setOutput v s).profile = s.profile := rfl
@[simp] theorem setOutput_picture (v : Nat) (s : State) : (setOutput v s).picture = s.picture := rfl
@[simp] theorem setOutput_frames (v : Nat) (s : State) : (setOutput v s).frames = s.frames := rfl
@[simp] theorem setOutput_scanout (v : Nat) (s : State) : (setOutput v s).scanout = s.scanout := rfl
@[simp] theorem setOutput_measure (v : Nat) (s : State) : (setOutput v s).measure = s.measure := rfl
@[simp] theorem setOutput_light (v : Nat) (s : State) :
    (setOutput v s).light = { s.light with output := v, keyLight := keyLightLevel v s.light.settings.keyRatio } := rfl
@[simp] theorem setOutput_lines (v : Nat) (s : State) : (setOutput v s).lines = s.lines := rfl
@[simp] theorem setOutput_power (v : Nat) (s : State) : (setOutput v s).power = s.power := rfl
@[simp] theorem setOutput_freeCount (v : Nat) (s : State) : (setOutput v s).freeCount = s.freeCount := rfl

@[simp] theorem idleLoad_pending (s : State) : (idleLoad s).pending = s.pending := rfl
@[simp] theorem idleLoad_mem (s : State) : (idleLoad s).mem = s.mem := rfl
@[simp] theorem idleLoad_link (s : State) : (idleLoad s).link = s.link := rfl
@[simp] theorem idleLoad_exch (s : State) : (idleLoad s).exch = s.exch := rfl
@[simp] theorem idleLoad_journal (s : State) : (idleLoad s).journal = s.journal := rfl
@[simp] theorem idleLoad_scanner (s : State) : (idleLoad s).scanner = s.scanner := rfl
@[simp] theorem idleLoad_composer (s : State) : (idleLoad s).composer = s.composer := rfl
@[simp] theorem idleLoad_profile (s : State) : (idleLoad s).profile = s.profile := rfl
@[simp] theorem idleLoad_picture (s : State) : (idleLoad s).picture = s.picture := rfl
@[simp] theorem idleLoad_frames (s : State) : (idleLoad s).frames = s.frames := rfl
@[simp] theorem idleLoad_scanout (s : State) : (idleLoad s).scanout = s.scanout := rfl
@[simp] theorem idleLoad_measure (s : State) : (idleLoad s).measure = s.measure := rfl
@[simp] theorem idleLoad_light (s : State) :
    (idleLoad s).light =
      { s.light with idle := .running, idleEnds := after s (s.light.settings.idleTimeout * 1000) } := rfl
@[simp] theorem idleLoad_lines (s : State) : (idleLoad s).lines = s.lines := rfl
@[simp] theorem idleLoad_power (s : State) : (idleLoad s).power = s.power := rfl
@[simp] theorem idleLoad_freeCount (s : State) : (idleLoad s).freeCount = s.freeCount := rfl

@[simp] theorem applyIndicators_pending (m c : BitVec 5) (s : State) :
    (applyIndicators m c s).pending = s.pending := rfl
@[simp] theorem applyIndicators_mem (m c : BitVec 5) (s : State) : (applyIndicators m c s).mem = s.mem := rfl
@[simp] theorem applyIndicators_link (m c : BitVec 5) (s : State) : (applyIndicators m c s).link = s.link := rfl
@[simp] theorem applyIndicators_exch (m c : BitVec 5) (s : State) : (applyIndicators m c s).exch = s.exch := rfl
@[simp] theorem applyIndicators_journal (m c : BitVec 5) (s : State) :
    (applyIndicators m c s).journal = s.journal := rfl
@[simp] theorem applyIndicators_scanner (m c : BitVec 5) (s : State) :
    (applyIndicators m c s).scanner = s.scanner := rfl
@[simp] theorem applyIndicators_composer (m c : BitVec 5) (s : State) :
    (applyIndicators m c s).composer = s.composer := rfl
@[simp] theorem applyIndicators_profile (m c : BitVec 5) (s : State) :
    (applyIndicators m c s).profile = s.profile := rfl
@[simp] theorem applyIndicators_picture (m c : BitVec 5) (s : State) :
    (applyIndicators m c s).picture = s.picture := rfl
@[simp] theorem applyIndicators_frames (m c : BitVec 5) (s : State) : (applyIndicators m c s).frames = s.frames := rfl
@[simp] theorem applyIndicators_scanout (m c : BitVec 5) (s : State) :
    (applyIndicators m c s).scanout = s.scanout := rfl
@[simp] theorem applyIndicators_measure (m c : BitVec 5) (s : State) :
    (applyIndicators m c s).measure = s.measure := rfl
@[simp] theorem applyIndicators_light (m c : BitVec 5) (s : State) :
    (applyIndicators m c s).light = { s.light with lamps := (s.light.lamps ||| m) &&& ~~~c } := rfl
@[simp] theorem applyIndicators_lines (m c : BitVec 5) (s : State) : (applyIndicators m c s).lines = s.lines := rfl
@[simp] theorem applyIndicators_power (m c : BitVec 5) (s : State) : (applyIndicators m c s).power = s.power := rfl
@[simp] theorem applyIndicators_freeCount (m c : BitVec 5) (s : State) :
    (applyIndicators m c s).freeCount = s.freeCount := rfl

/-! ### The picture engine and the scanout unit -/

@[simp] theorem stopPicture_pending (s : State) : (stopPicture s).pending = s.pending := rfl
@[simp] theorem stopPicture_mem (s : State) : (stopPicture s).mem = s.mem := rfl
@[simp] theorem stopPicture_link (s : State) : (stopPicture s).link = s.link := rfl
@[simp] theorem stopPicture_exch (s : State) : (stopPicture s).exch = s.exch := rfl
@[simp] theorem stopPicture_journal (s : State) : (stopPicture s).journal = s.journal := rfl
@[simp] theorem stopPicture_scanner (s : State) : (stopPicture s).scanner = s.scanner := rfl
@[simp] theorem stopPicture_composer (s : State) : (stopPicture s).composer = s.composer := rfl
@[simp] theorem stopPicture_profile (s : State) : (stopPicture s).profile = s.profile := rfl
@[simp] theorem stopPicture_picture (s : State) : (stopPicture s).picture = s.picture.cleared := rfl
@[simp] theorem stopPicture_frames (s : State) : (stopPicture s).frames = s.frames := rfl
@[simp] theorem stopPicture_scanout (s : State) : (stopPicture s).scanout = s.scanout := rfl
@[simp] theorem stopPicture_measure (s : State) : (stopPicture s).measure = s.measure := rfl
@[simp] theorem stopPicture_light (s : State) : (stopPicture s).light = s.light := rfl
@[simp] theorem stopPicture_lines (s : State) : (stopPicture s).lines = s.lines := rfl
@[simp] theorem stopPicture_power (s : State) : (stopPicture s).power = s.power := rfl
@[simp] theorem stopPicture_freeCount (s : State) : (stopPicture s).freeCount = s.freeCount := rfl

@[simp] theorem startWrite_pending (px : List Half) (s : State) : (startWrite px s).pending = s.pending := rfl
@[simp] theorem startWrite_mem (px : List Half) (s : State) : (startWrite px s).mem = s.mem := rfl
@[simp] theorem startWrite_link (px : List Half) (s : State) : (startWrite px s).link = s.link := rfl
@[simp] theorem startWrite_exch (px : List Half) (s : State) : (startWrite px s).exch = s.exch := rfl
@[simp] theorem startWrite_journal (px : List Half) (s : State) : (startWrite px s).journal = s.journal := rfl
@[simp] theorem startWrite_scanner (px : List Half) (s : State) : (startWrite px s).scanner = s.scanner := rfl
@[simp] theorem startWrite_composer (px : List Half) (s : State) : (startWrite px s).composer = s.composer := rfl
@[simp] theorem startWrite_profile (px : List Half) (s : State) : (startWrite px s).profile = s.profile := rfl
@[simp] theorem startWrite_picture (px : List Half) (s : State) :
    (startWrite px s).picture = { s.picture with
        work := (if s.picture.abandon then .stopping else .row), writing := true, rowBuf := [], rowPixels := px,
        reads := [], toIssue := [] } := rfl
@[simp] theorem startWrite_frames (px : List Half) (s : State) : (startWrite px s).frames = s.frames := rfl
@[simp] theorem startWrite_scanout (px : List Half) (s : State) : (startWrite px s).scanout = s.scanout := rfl
@[simp] theorem startWrite_measure (px : List Half) (s : State) : (startWrite px s).measure = s.measure := rfl
@[simp] theorem startWrite_light (px : List Half) (s : State) : (startWrite px s).light = s.light := rfl
@[simp] theorem startWrite_lines (px : List Half) (s : State) : (startWrite px s).lines = s.lines := rfl
@[simp] theorem startWrite_power (px : List Half) (s : State) : (startWrite px s).power = s.power := rfl
@[simp] theorem startWrite_freeCount (px : List Half) (s : State) : (startWrite px s).freeCount = s.freeCount := rfl

@[simp] theorem enterStage_pending (p : PanelState) (st : Stage) (s : State) :
    (enterStage p st s).pending = s.pending := rfl
@[simp] theorem enterStage_mem (p : PanelState) (st : Stage) (s : State) : (enterStage p st s).mem = s.mem := rfl
@[simp] theorem enterStage_link (p : PanelState) (st : Stage) (s : State) : (enterStage p st s).link = s.link := rfl
@[simp] theorem enterStage_exch (p : PanelState) (st : Stage) (s : State) : (enterStage p st s).exch = s.exch := rfl
@[simp] theorem enterStage_journal (p : PanelState) (st : Stage) (s : State) :
    (enterStage p st s).journal = s.journal := rfl
@[simp] theorem enterStage_scanner (p : PanelState) (st : Stage) (s : State) :
    (enterStage p st s).scanner = s.scanner := rfl
@[simp] theorem enterStage_composer (p : PanelState) (st : Stage) (s : State) :
    (enterStage p st s).composer = s.composer := rfl
@[simp] theorem enterStage_profile (p : PanelState) (st : Stage) (s : State) :
    (enterStage p st s).profile = s.profile := rfl
@[simp] theorem enterStage_picture (p : PanelState) (st : Stage) (s : State) :
    (enterStage p st s).picture = s.picture := rfl
@[simp] theorem enterStage_frames (p : PanelState) (st : Stage) (s : State) :
    (enterStage p st s).frames = s.frames := rfl
@[simp] theorem enterStage_scanout (p : PanelState) (st : Stage) (s : State) :
    (enterStage p st s).scanout = { s.scanout with panel := p, stage := some st, stageEnds := after s st.time } := rfl
@[simp] theorem enterStage_measure (p : PanelState) (st : Stage) (s : State) :
    (enterStage p st s).measure = s.measure := rfl
@[simp] theorem enterStage_light (p : PanelState) (st : Stage) (s : State) :
    (enterStage p st s).light = s.light := rfl
@[simp] theorem enterStage_lines (p : PanelState) (st : Stage) (s : State) :
    (enterStage p st s).lines = s.lines := rfl
@[simp] theorem enterStage_power (p : PanelState) (st : Stage) (s : State) :
    (enterStage p st s).power = s.power := rfl
@[simp] theorem enterStage_freeCount (p : PanelState) (st : Stage) (s : State) :
    (enterStage p st s).freeCount = s.freeCount := rfl

@[simp] theorem restPanel_pending (p : PanelState) (s : State) : (restPanel p s).pending = s.pending := rfl
@[simp] theorem restPanel_mem (p : PanelState) (s : State) : (restPanel p s).mem = s.mem := rfl
@[simp] theorem restPanel_link (p : PanelState) (s : State) : (restPanel p s).link = s.link := rfl
@[simp] theorem restPanel_exch (p : PanelState) (s : State) : (restPanel p s).exch = s.exch := rfl
@[simp] theorem restPanel_journal (p : PanelState) (s : State) : (restPanel p s).journal = s.journal := rfl
@[simp] theorem restPanel_scanner (p : PanelState) (s : State) : (restPanel p s).scanner = s.scanner := rfl
@[simp] theorem restPanel_composer (p : PanelState) (s : State) : (restPanel p s).composer = s.composer := rfl
@[simp] theorem restPanel_profile (p : PanelState) (s : State) : (restPanel p s).profile = s.profile := rfl
@[simp] theorem restPanel_picture (p : PanelState) (s : State) : (restPanel p s).picture = s.picture := rfl
@[simp] theorem restPanel_frames (p : PanelState) (s : State) : (restPanel p s).frames = s.frames := rfl
@[simp] theorem restPanel_scanout (p : PanelState) (s : State) :
    (restPanel p s).scanout = { s.scanout with panel := p, stage := none } := rfl
@[simp] theorem restPanel_measure (p : PanelState) (s : State) : (restPanel p s).measure = s.measure := rfl
@[simp] theorem restPanel_light (p : PanelState) (s : State) : (restPanel p s).light = s.light := rfl
@[simp] theorem restPanel_lines (p : PanelState) (s : State) : (restPanel p s).lines = s.lines := rfl
@[simp] theorem restPanel_power (p : PanelState) (s : State) : (restPanel p s).power = s.power := rfl
@[simp] theorem restPanel_freeCount (p : PanelState) (s : State) : (restPanel p s).freeCount = s.freeCount := rfl

@[simp] theorem decideSource_pending (s : State) : (decideSource s).pending = s.pending := rfl
@[simp] theorem decideSource_mem (s : State) : (decideSource s).mem = s.mem := rfl
@[simp] theorem decideSource_link (s : State) : (decideSource s).link = s.link := rfl
@[simp] theorem decideSource_exch (s : State) : (decideSource s).exch = s.exch := rfl
@[simp] theorem decideSource_journal (s : State) : (decideSource s).journal = s.journal := rfl
@[simp] theorem decideSource_scanner (s : State) : (decideSource s).scanner = s.scanner := rfl
@[simp] theorem decideSource_composer (s : State) : (decideSource s).composer = s.composer := rfl
@[simp] theorem decideSource_profile (s : State) : (decideSource s).profile = s.profile := rfl
@[simp] theorem decideSource_picture (s : State) : (decideSource s).picture = s.picture := rfl
@[simp] theorem decideSource_frames (s : State) : (decideSource s).frames = s.frames := rfl
@[simp] theorem decideSource_scanout (s : State) :
    (decideSource s).scanout = { s.scanout with source := chosenSource s } := rfl
@[simp] theorem decideSource_measure (s : State) : (decideSource s).measure = s.measure := rfl
@[simp] theorem decideSource_light (s : State) : (decideSource s).light = s.light := rfl
@[simp] theorem decideSource_lines (s : State) : (decideSource s).lines = s.lines := rfl
@[simp] theorem decideSource_power (s : State) : (decideSource s).power = s.power := rfl
@[simp] theorem decideSource_freeCount (s : State) : (decideSource s).freeCount = s.freeCount := rfl

@[simp] theorem copyRow_pending (y : Nat) (s : State) : (copyRow y s).pending = s.pending := rfl
@[simp] theorem copyRow_mem (y : Nat) (s : State) : (copyRow y s).mem = s.mem := rfl
@[simp] theorem copyRow_link (y : Nat) (s : State) : (copyRow y s).link = s.link := rfl
@[simp] theorem copyRow_exch (y : Nat) (s : State) : (copyRow y s).exch = s.exch := rfl
@[simp] theorem copyRow_journal (y : Nat) (s : State) : (copyRow y s).journal = s.journal := rfl
@[simp] theorem copyRow_scanner (y : Nat) (s : State) : (copyRow y s).scanner = s.scanner := rfl
@[simp] theorem copyRow_composer (y : Nat) (s : State) : (copyRow y s).composer = s.composer := rfl
@[simp] theorem copyRow_profile (y : Nat) (s : State) : (copyRow y s).profile = s.profile := rfl
@[simp] theorem copyRow_picture (y : Nat) (s : State) : (copyRow y s).picture = s.picture := rfl
@[simp] theorem copyRow_frames (y : Nat) (s : State) :
    (copyRow y s).frames = s.frames.set (backBuffer s)
        ((s.frames.get (backBuffer s)).writes (y * Config.rowBytes)
          ((s.frames.get (frontBuffer s)).reads (y * Config.rowBytes) Config.rowBytes)) := rfl
@[simp] theorem copyRow_scanout (y : Nat) (s : State) : (copyRow y s).scanout = s.scanout := rfl
@[simp] theorem copyRow_measure (y : Nat) (s : State) : (copyRow y s).measure = s.measure := rfl
@[simp] theorem copyRow_light (y : Nat) (s : State) : (copyRow y s).light = s.light := rfl
@[simp] theorem copyRow_lines (y : Nat) (s : State) : (copyRow y s).lines = s.lines := rfl
@[simp] theorem copyRow_power (y : Nat) (s : State) : (copyRow y s).power = s.power := rfl
@[simp] theorem copyRow_freeCount (y : Nat) (s : State) : (copyRow y s).freeCount = s.freeCount := rfl

@[simp] theorem abandonPresent_pending (s : State) : (abandonPresent s).pending = s.pending := rfl
@[simp] theorem abandonPresent_mem (s : State) : (abandonPresent s).mem = s.mem := rfl
@[simp] theorem abandonPresent_link (s : State) : (abandonPresent s).link = s.link := rfl
@[simp] theorem abandonPresent_exch (s : State) : (abandonPresent s).exch = s.exch := rfl
@[simp] theorem abandonPresent_journal (s : State) : (abandonPresent s).journal = s.journal := rfl
@[simp] theorem abandonPresent_scanner (s : State) : (abandonPresent s).scanner = s.scanner := rfl
@[simp] theorem abandonPresent_composer (s : State) : (abandonPresent s).composer = s.composer := rfl
@[simp] theorem abandonPresent_profile (s : State) : (abandonPresent s).profile = s.profile := rfl
@[simp] theorem abandonPresent_picture (s : State) : (abandonPresent s).picture = s.picture := rfl
@[simp] theorem abandonPresent_frames (s : State) : (abandonPresent s).frames = s.frames := rfl
@[simp] theorem abandonPresent_scanout (s : State) :
    (abandonPresent s).scanout = { s.scanout with
        waiting := none, carry := s.scanout.carry.map fun c => { c with abandoned := true } } := rfl
@[simp] theorem abandonPresent_measure (s : State) : (abandonPresent s).measure = s.measure := rfl
@[simp] theorem abandonPresent_light (s : State) : (abandonPresent s).light = s.light := rfl
@[simp] theorem abandonPresent_lines (s : State) : (abandonPresent s).lines = s.lines := rfl
@[simp] theorem abandonPresent_power (s : State) : (abandonPresent s).power = s.power := rfl
@[simp] theorem abandonPresent_freeCount (s : State) : (abandonPresent s).freeCount = s.freeCount := rfl

/-! ### The key path -/

@[simp] theorem switchToFast_pending (s : State) : (switchToFast s).pending = s.pending := rfl
@[simp] theorem switchToFast_mem (s : State) : (switchToFast s).mem = s.mem := rfl
@[simp] theorem switchToFast_link (s : State) : (switchToFast s).link = s.link := rfl
@[simp] theorem switchToFast_exch (s : State) : (switchToFast s).exch = s.exch := rfl
@[simp] theorem switchToFast_journal (s : State) : (switchToFast s).journal = s.journal := rfl
@[simp] theorem switchToFast_scanner (s : State) :
    (switchToFast s).scanner =
      { s.scanner with mode := .fast, windowPasses := 0, chatter := 0, idlePasses := 0, passAt := now s } := rfl
@[simp] theorem switchToFast_composer (s : State) :
    (switchToFast s).composer =
      { s.composer with keys := s.composer.keys.map fun k => { k with integ := if k.state = .stuck then pressThreshold s else 0 } } := rfl
@[simp] theorem switchToFast_profile (s : State) : (switchToFast s).profile = s.profile := rfl
@[simp] theorem switchToFast_picture (s : State) : (switchToFast s).picture = s.picture := rfl
@[simp] theorem switchToFast_frames (s : State) : (switchToFast s).frames = s.frames := rfl
@[simp] theorem switchToFast_scanout (s : State) : (switchToFast s).scanout = s.scanout := rfl
@[simp] theorem switchToFast_measure (s : State) : (switchToFast s).measure = s.measure := rfl
@[simp] theorem switchToFast_light (s : State) : (switchToFast s).light = s.light := rfl
@[simp] theorem switchToFast_lines (s : State) : (switchToFast s).lines = s.lines := rfl
@[simp] theorem switchToFast_power (s : State) : (switchToFast s).power = s.power := rfl
@[simp] theorem switchToFast_freeCount (s : State) : (switchToFast s).freeCount = s.freeCount := rfl

@[simp] theorem stopRepeat_pending (s : State) : (stopRepeat s).pending = s.pending := rfl
@[simp] theorem stopRepeat_mem (s : State) : (stopRepeat s).mem = s.mem := rfl
@[simp] theorem stopRepeat_link (s : State) : (stopRepeat s).link = s.link := rfl
@[simp] theorem stopRepeat_exch (s : State) : (stopRepeat s).exch = s.exch := rfl
@[simp] theorem stopRepeat_journal (s : State) : (stopRepeat s).journal = s.journal := rfl
@[simp] theorem stopRepeat_scanner (s : State) : (stopRepeat s).scanner = s.scanner := rfl
@[simp] theorem stopRepeat_composer (s : State) :
    (stopRepeat s).composer = { s.composer with subject := none, repeatEnds := 0, repeatCount := 0 } := rfl
@[simp] theorem stopRepeat_profile (s : State) : (stopRepeat s).profile = s.profile := rfl
@[simp] theorem stopRepeat_picture (s : State) : (stopRepeat s).picture = s.picture := rfl
@[simp] theorem stopRepeat_frames (s : State) : (stopRepeat s).frames = s.frames := rfl
@[simp] theorem stopRepeat_scanout (s : State) : (stopRepeat s).scanout = s.scanout := rfl
@[simp] theorem stopRepeat_measure (s : State) : (stopRepeat s).measure = s.measure := rfl
@[simp] theorem stopRepeat_light (s : State) : (stopRepeat s).light = s.light := rfl
@[simp] theorem stopRepeat_lines (s : State) : (stopRepeat s).lines = s.lines := rfl
@[simp] theorem stopRepeat_power (s : State) : (stopRepeat s).power = s.power := rfl
@[simp] theorem stopRepeat_freeCount (s : State) : (stopRepeat s).freeCount = s.freeCount := rfl

@[simp] theorem startRepeat_pending (p : Fin 128) (s : State) : (startRepeat p s).pending = s.pending := rfl
@[simp] theorem startRepeat_mem (p : Fin 128) (s : State) : (startRepeat p s).mem = s.mem := rfl
@[simp] theorem startRepeat_link (p : Fin 128) (s : State) : (startRepeat p s).link = s.link := rfl
@[simp] theorem startRepeat_exch (p : Fin 128) (s : State) : (startRepeat p s).exch = s.exch := rfl
@[simp] theorem startRepeat_journal (p : Fin 128) (s : State) : (startRepeat p s).journal = s.journal := rfl
@[simp] theorem startRepeat_scanner (p : Fin 128) (s : State) : (startRepeat p s).scanner = s.scanner := rfl
@[simp] theorem startRepeat_composer (p : Fin 128) (s : State) :
    (startRepeat p s).composer =
      { s.composer with subject := some p, repeatCount := 0, repeatEnds := after s s.profile.active.repeatDelay } := rfl
@[simp] theorem startRepeat_profile (p : Fin 128) (s : State) : (startRepeat p s).profile = s.profile := rfl
@[simp] theorem startRepeat_picture (p : Fin 128) (s : State) : (startRepeat p s).picture = s.picture := rfl
@[simp] theorem startRepeat_frames (p : Fin 128) (s : State) : (startRepeat p s).frames = s.frames := rfl
@[simp] theorem startRepeat_scanout (p : Fin 128) (s : State) : (startRepeat p s).scanout = s.scanout := rfl
@[simp] theorem startRepeat_measure (p : Fin 128) (s : State) : (startRepeat p s).measure = s.measure := rfl
@[simp] theorem startRepeat_light (p : Fin 128) (s : State) : (startRepeat p s).light = s.light := rfl
@[simp] theorem startRepeat_lines (p : Fin 128) (s : State) : (startRepeat p s).lines = s.lines := rfl
@[simp] theorem startRepeat_power (p : Fin 128) (s : State) : (startRepeat p s).power = s.power := rfl
@[simp] theorem startRepeat_freeCount (p : Fin 128) (s : State) : (startRepeat p s).freeCount = s.freeCount := rfl

@[simp] theorem mute_pending (p : Fin 128) (s : State) : (mute p s).pending = s.pending := rfl
@[simp] theorem mute_mem (p : Fin 128) (s : State) : (mute p s).mem = s.mem := rfl
@[simp] theorem mute_link (p : Fin 128) (s : State) : (mute p s).link = s.link := rfl
@[simp] theorem mute_exch (p : Fin 128) (s : State) : (mute p s).exch = s.exch := rfl
@[simp] theorem mute_journal (p : Fin 128) (s : State) : (mute p s).journal = s.journal := rfl
@[simp] theorem mute_scanner (p : Fin 128) (s : State) : (mute p s).scanner = s.scanner := rfl
@[simp] theorem mute_composer (p : Fin 128) (s : State) :
    (mute p s).composer =
      { s.composer with keys := s.composer.keys.set p.val { key s p with state := .muted } } := rfl
@[simp] theorem mute_profile (p : Fin 128) (s : State) : (mute p s).profile = s.profile := rfl
@[simp] theorem mute_picture (p : Fin 128) (s : State) : (mute p s).picture = s.picture := rfl
@[simp] theorem mute_frames (p : Fin 128) (s : State) : (mute p s).frames = s.frames := rfl
@[simp] theorem mute_scanout (p : Fin 128) (s : State) : (mute p s).scanout = s.scanout := rfl
@[simp] theorem mute_measure (p : Fin 128) (s : State) : (mute p s).measure = s.measure := rfl
@[simp] theorem mute_light (p : Fin 128) (s : State) : (mute p s).light = s.light := rfl
@[simp] theorem mute_lines (p : Fin 128) (s : State) : (mute p s).lines = s.lines := rfl
@[simp] theorem mute_power (p : Fin 128) (s : State) : (mute p s).power = s.power := rfl
@[simp] theorem mute_freeCount (p : Fin 128) (s : State) : (mute p s).freeCount = s.freeCount := rfl

@[simp] theorem leaveHeld_pending (p : Fin 128) (s : State) : (leaveHeld p s).pending = s.pending := rfl
@[simp] theorem leaveHeld_mem (p : Fin 128) (s : State) : (leaveHeld p s).mem = s.mem := rfl
@[simp] theorem leaveHeld_link (p : Fin 128) (s : State) : (leaveHeld p s).link = s.link := rfl
@[simp] theorem leaveHeld_exch (p : Fin 128) (s : State) : (leaveHeld p s).exch = s.exch := rfl
@[simp] theorem leaveHeld_journal (p : Fin 128) (s : State) : (leaveHeld p s).journal = s.journal := rfl
@[simp] theorem leaveHeld_scanner (p : Fin 128) (s : State) : (leaveHeld p s).scanner = s.scanner := rfl
@[simp] theorem leaveHeld_composer (p : Fin 128) (s : State) :
    (leaveHeld p s).composer = { s.composer with held := s.composer.held.filter fun q => q != p } := rfl
@[simp] theorem leaveHeld_profile (p : Fin 128) (s : State) : (leaveHeld p s).profile = s.profile := rfl
@[simp] theorem leaveHeld_picture (p : Fin 128) (s : State) : (leaveHeld p s).picture = s.picture := rfl
@[simp] theorem leaveHeld_frames (p : Fin 128) (s : State) : (leaveHeld p s).frames = s.frames := rfl
@[simp] theorem leaveHeld_scanout (p : Fin 128) (s : State) : (leaveHeld p s).scanout = s.scanout := rfl
@[simp] theorem leaveHeld_measure (p : Fin 128) (s : State) : (leaveHeld p s).measure = s.measure := rfl
@[simp] theorem leaveHeld_light (p : Fin 128) (s : State) : (leaveHeld p s).light = s.light := rfl
@[simp] theorem leaveHeld_lines (p : Fin 128) (s : State) : (leaveHeld p s).lines = s.lines := rfl
@[simp] theorem leaveHeld_power (p : Fin 128) (s : State) : (leaveHeld p s).power = s.power := rfl
@[simp] theorem leaveHeld_freeCount (p : Fin 128) (s : State) : (leaveHeld p s).freeCount = s.freeCount := rfl

@[simp] theorem scannerSwap_pending (o : Profile) (s : State) : (scannerSwap o s).pending = s.pending := rfl
@[simp] theorem scannerSwap_mem (o : Profile) (s : State) : (scannerSwap o s).mem = s.mem := rfl
@[simp] theorem scannerSwap_link (o : Profile) (s : State) : (scannerSwap o s).link = s.link := rfl
@[simp] theorem scannerSwap_exch (o : Profile) (s : State) : (scannerSwap o s).exch = s.exch := rfl
@[simp] theorem scannerSwap_journal (o : Profile) (s : State) : (scannerSwap o s).journal = s.journal := rfl
@[simp] theorem scannerSwap_scanner (o : Profile) (s : State) :
    (scannerSwap o s).scanner =
      { s.scanner with vib := if s.profile.active.adaptation then s.scanner.vib else 0 } := rfl
@[simp] theorem scannerSwap_composer (o : Profile) (s : State) :
    (scannerSwap o s).composer =
      { s.composer with keys := mapFrom (fun i k => { k with
          integ := swapInteg (s.profile.active.pressBase + if s.profile.active.adaptation then s.scanner.vib else 0)
            (o.classes.getD i .plain) (s.profile.active.classes.getD i .plain) k.integ }) 0 s.composer.keys } := rfl
@[simp] theorem scannerSwap_profile (o : Profile) (s : State) : (scannerSwap o s).profile = s.profile := rfl
@[simp] theorem scannerSwap_picture (o : Profile) (s : State) : (scannerSwap o s).picture = s.picture := rfl
@[simp] theorem scannerSwap_frames (o : Profile) (s : State) : (scannerSwap o s).frames = s.frames := rfl
@[simp] theorem scannerSwap_scanout (o : Profile) (s : State) : (scannerSwap o s).scanout = s.scanout := rfl
@[simp] theorem scannerSwap_measure (o : Profile) (s : State) : (scannerSwap o s).measure = s.measure := rfl
@[simp] theorem scannerSwap_light (o : Profile) (s : State) : (scannerSwap o s).light = s.light := rfl
@[simp] theorem scannerSwap_lines (o : Profile) (s : State) : (scannerSwap o s).lines = s.lines := rfl
@[simp] theorem scannerSwap_power (o : Profile) (s : State) : (scannerSwap o s).power = s.power := rfl
@[simp] theorem scannerSwap_freeCount (o : Profile) (s : State) : (scannerSwap o s).freeCount = s.freeCount := rfl

@[simp] theorem abandonProfile_pending (s : State) : (abandonProfile s).pending = s.pending := rfl
@[simp] theorem abandonProfile_mem (s : State) : (abandonProfile s).mem = s.mem := rfl
@[simp] theorem abandonProfile_link (s : State) : (abandonProfile s).link = s.link := rfl
@[simp] theorem abandonProfile_exch (s : State) : (abandonProfile s).exch = s.exch := rfl
@[simp] theorem abandonProfile_journal (s : State) : (abandonProfile s).journal = s.journal := rfl
@[simp] theorem abandonProfile_scanner (s : State) : (abandonProfile s).scanner = s.scanner := rfl
@[simp] theorem abandonProfile_composer (s : State) : (abandonProfile s).composer = s.composer := rfl
@[simp] theorem abandonProfile_profile (s : State) :
    (abandonProfile s).profile = { s.profile with staged := none, job := none } := rfl
@[simp] theorem abandonProfile_picture (s : State) : (abandonProfile s).picture = s.picture := rfl
@[simp] theorem abandonProfile_frames (s : State) : (abandonProfile s).frames = s.frames := rfl
@[simp] theorem abandonProfile_scanout (s : State) : (abandonProfile s).scanout = s.scanout := rfl
@[simp] theorem abandonProfile_measure (s : State) : (abandonProfile s).measure = s.measure := rfl
@[simp] theorem abandonProfile_light (s : State) : (abandonProfile s).light = s.light := rfl
@[simp] theorem abandonProfile_lines (s : State) : (abandonProfile s).lines = s.lines := rfl
@[simp] theorem abandonProfile_power (s : State) : (abandonProfile s).power = s.power := rfl
@[simp] theorem abandonProfile_freeCount (s : State) : (abandonProfile s).freeCount = s.freeCount := rfl

@[simp] theorem storeSamples_pending (closed : List Bool) (s : State) :
    (storeSamples closed s).pending = s.pending := rfl
@[simp] theorem storeSamples_mem (closed : List Bool) (s : State) : (storeSamples closed s).mem = s.mem := rfl
@[simp] theorem storeSamples_link (closed : List Bool) (s : State) : (storeSamples closed s).link = s.link := rfl
@[simp] theorem storeSamples_exch (closed : List Bool) (s : State) : (storeSamples closed s).exch = s.exch := rfl
@[simp] theorem storeSamples_journal (closed : List Bool) (s : State) :
    (storeSamples closed s).journal = s.journal := rfl
@[simp] theorem storeSamples_scanner (closed : List Bool) (s : State) :
    (storeSamples closed s).scanner = s.scanner := rfl
@[simp] theorem storeSamples_composer (closed : List Bool) (s : State) :
    (storeSamples closed s).composer =
      { s.composer with keys := mapFrom (fun i k => { k with prev := closed.getD i false }) 0 s.composer.keys } := rfl
@[simp] theorem storeSamples_profile (closed : List Bool) (s : State) :
    (storeSamples closed s).profile = s.profile := rfl
@[simp] theorem storeSamples_picture (closed : List Bool) (s : State) :
    (storeSamples closed s).picture = s.picture := rfl
@[simp] theorem storeSamples_frames (closed : List Bool) (s : State) :
    (storeSamples closed s).frames = s.frames := rfl
@[simp] theorem storeSamples_scanout (closed : List Bool) (s : State) :
    (storeSamples closed s).scanout = s.scanout := rfl
@[simp] theorem storeSamples_measure (closed : List Bool) (s : State) :
    (storeSamples closed s).measure = s.measure := rfl
@[simp] theorem storeSamples_light (closed : List Bool) (s : State) : (storeSamples closed s).light = s.light := rfl
@[simp] theorem storeSamples_lines (closed : List Bool) (s : State) : (storeSamples closed s).lines = s.lines := rfl
@[simp] theorem storeSamples_power (closed : List Bool) (s : State) : (storeSamples closed s).power = s.power := rfl
@[simp] theorem storeSamples_freeCount (closed : List Bool) (s : State) :
    (storeSamples closed s).freeCount = s.freeCount := rfl

@[simp] theorem endWindow_pending (s : State) : (endWindow s).pending = s.pending := rfl
@[simp] theorem endWindow_mem (s : State) : (endWindow s).mem = s.mem := rfl
@[simp] theorem endWindow_link (s : State) : (endWindow s).link = s.link := rfl
@[simp] theorem endWindow_exch (s : State) : (endWindow s).exch = s.exch := rfl
@[simp] theorem endWindow_journal (s : State) : (endWindow s).journal = s.journal := rfl
@[simp] theorem endWindow_scanner (s : State) :
    (endWindow s).scanner =
      { s.scanner with vib := nextVib s.profile.active.adaptation s.scanner.vib s.scanner.chatter, chatter := 0, windowPasses := 0 } := rfl
@[simp] theorem endWindow_composer (s : State) :
    (endWindow s).composer = { s.composer with keys := s.composer.keys.map fun k =>
        { k with
          integ := min k.integ (s.profile.active.pressBase +
            nextVib s.profile.active.adaptation s.scanner.vib s.scanner.chatter) } } := rfl
@[simp] theorem endWindow_profile (s : State) : (endWindow s).profile = s.profile := rfl
@[simp] theorem endWindow_picture (s : State) : (endWindow s).picture = s.picture := rfl
@[simp] theorem endWindow_frames (s : State) : (endWindow s).frames = s.frames := rfl
@[simp] theorem endWindow_scanout (s : State) : (endWindow s).scanout = s.scanout := rfl
@[simp] theorem endWindow_measure (s : State) : (endWindow s).measure = s.measure := rfl
@[simp] theorem endWindow_light (s : State) : (endWindow s).light = s.light := rfl
@[simp] theorem endWindow_lines (s : State) : (endWindow s).lines = s.lines := rfl
@[simp] theorem endWindow_power (s : State) : (endWindow s).power = s.power := rfl
@[simp] theorem endWindow_freeCount (s : State) : (endWindow s).freeCount = s.freeCount := rfl

@[simp] theorem enterSlow_pending (s : State) : (enterSlow s).pending = s.pending := rfl
@[simp] theorem enterSlow_mem (s : State) : (enterSlow s).mem = s.mem := rfl
@[simp] theorem enterSlow_link (s : State) : (enterSlow s).link = s.link := rfl
@[simp] theorem enterSlow_exch (s : State) : (enterSlow s).exch = s.exch := rfl
@[simp] theorem enterSlow_journal (s : State) : (enterSlow s).journal = s.journal := rfl
@[simp] theorem enterSlow_scanner (s : State) :
    (enterSlow s).scanner =
      { s.scanner with mode := .slow, vib := 0, chatter := 0, windowPasses := 0, passAt := now s } := rfl
@[simp] theorem enterSlow_composer (s : State) :
    (enterSlow s).composer = { s.composer with keys := s.composer.keys.map fun k => { k with integ := 0 } } := rfl
@[simp] theorem enterSlow_profile (s : State) : (enterSlow s).profile = s.profile := rfl
@[simp] theorem enterSlow_picture (s : State) : (enterSlow s).picture = s.picture := rfl
@[simp] theorem enterSlow_frames (s : State) : (enterSlow s).frames = s.frames := rfl
@[simp] theorem enterSlow_scanout (s : State) : (enterSlow s).scanout = s.scanout := rfl
@[simp] theorem enterSlow_measure (s : State) : (enterSlow s).measure = s.measure := rfl
@[simp] theorem enterSlow_light (s : State) : (enterSlow s).light = s.light := rfl
@[simp] theorem enterSlow_lines (s : State) : (enterSlow s).lines = s.lines := rfl
@[simp] theorem enterSlow_power (s : State) : (enterSlow s).power = s.power := rfl
@[simp] theorem enterSlow_freeCount (s : State) : (enterSlow s).freeCount = s.freeCount := rfl

/-! ### The contexts, the session and the starts -/

@[simp] theorem unqueue_pending (k : Fin 16) (s : State) : (unqueue k s).pending = s.pending := rfl
@[simp] theorem unqueue_mem (k : Fin 16) (s : State) : (unqueue k s).mem = s.mem := rfl
@[simp] theorem unqueue_link (k : Fin 16) (s : State) : (unqueue k s).link = s.link := rfl
@[simp] theorem unqueue_exch (k : Fin 16) (s : State) :
    (unqueue k s).exch = { s.exch with queue := s.exch.queue.filter fun e => e.slot != k } := rfl
@[simp] theorem unqueue_journal (k : Fin 16) (s : State) : (unqueue k s).journal = s.journal := rfl
@[simp] theorem unqueue_scanner (k : Fin 16) (s : State) : (unqueue k s).scanner = s.scanner := rfl
@[simp] theorem unqueue_composer (k : Fin 16) (s : State) : (unqueue k s).composer = s.composer := rfl
@[simp] theorem unqueue_profile (k : Fin 16) (s : State) : (unqueue k s).profile = s.profile := rfl
@[simp] theorem unqueue_picture (k : Fin 16) (s : State) : (unqueue k s).picture = s.picture := rfl
@[simp] theorem unqueue_frames (k : Fin 16) (s : State) : (unqueue k s).frames = s.frames := rfl
@[simp] theorem unqueue_scanout (k : Fin 16) (s : State) : (unqueue k s).scanout = s.scanout := rfl
@[simp] theorem unqueue_measure (k : Fin 16) (s : State) : (unqueue k s).measure = s.measure := rfl
@[simp] theorem unqueue_light (k : Fin 16) (s : State) : (unqueue k s).light = s.light := rfl
@[simp] theorem unqueue_lines (k : Fin 16) (s : State) : (unqueue k s).lines = s.lines := rfl
@[simp] theorem unqueue_power (k : Fin 16) (s : State) : (unqueue k s).power = s.power := rfl
@[simp] theorem unqueue_freeCount (k : Fin 16) (s : State) : (unqueue k s).freeCount = s.freeCount := rfl

@[simp] theorem postSlot_pending (k : Fin 16) (s : State) : (postSlot k s).pending = s.pending := rfl
@[simp] theorem postSlot_mem (k : Fin 16) (s : State) : (postSlot k s).mem = s.mem := rfl
@[simp] theorem postSlot_link (k : Fin 16) (s : State) : (postSlot k s).link = s.link := rfl
@[simp] theorem postSlot_exch (k : Fin 16) (s : State) :
    (postSlot k s).exch = { s.exch with
        slots := s.exch.slots.set k.val (postedRec s.exch.nextPost), nextPost := s.exch.nextPost + 1,
        queue := s.exch.queue ++ [entryOf k s] } := rfl
@[simp] theorem postSlot_journal (k : Fin 16) (s : State) : (postSlot k s).journal = s.journal := rfl
@[simp] theorem postSlot_scanner (k : Fin 16) (s : State) : (postSlot k s).scanner = s.scanner := rfl
@[simp] theorem postSlot_composer (k : Fin 16) (s : State) : (postSlot k s).composer = s.composer := rfl
@[simp] theorem postSlot_profile (k : Fin 16) (s : State) : (postSlot k s).profile = s.profile := rfl
@[simp] theorem postSlot_picture (k : Fin 16) (s : State) : (postSlot k s).picture = s.picture := rfl
@[simp] theorem postSlot_frames (k : Fin 16) (s : State) : (postSlot k s).frames = s.frames := rfl
@[simp] theorem postSlot_scanout (k : Fin 16) (s : State) : (postSlot k s).scanout = s.scanout := rfl
@[simp] theorem postSlot_measure (k : Fin 16) (s : State) : (postSlot k s).measure = s.measure := rfl
@[simp] theorem postSlot_light (k : Fin 16) (s : State) : (postSlot k s).light = s.light := rfl
@[simp] theorem postSlot_lines (k : Fin 16) (s : State) : (postSlot k s).lines = s.lines := rfl
@[simp] theorem postSlot_power (k : Fin 16) (s : State) : (postSlot k s).power = s.power := rfl
@[simp] theorem postSlot_freeCount (k : Fin 16) (s : State) : (postSlot k s).freeCount = s.freeCount := rfl

@[simp] theorem vehicleSettings_pending (ps : List Byte) (s : State) :
    (vehicleSettings ps s).pending = s.pending := rfl
@[simp] theorem vehicleSettings_mem (ps : List Byte) (s : State) : (vehicleSettings ps s).mem = s.mem := rfl
@[simp] theorem vehicleSettings_link (ps : List Byte) (s : State) : (vehicleSettings ps s).link = s.link := rfl
@[simp] theorem vehicleSettings_exch (ps : List Byte) (s : State) : (vehicleSettings ps s).exch = s.exch := rfl
@[simp] theorem vehicleSettings_journal (ps : List Byte) (s : State) :
    (vehicleSettings ps s).journal = s.journal := rfl
@[simp] theorem vehicleSettings_scanner (ps : List Byte) (s : State) :
    (vehicleSettings ps s).scanner = s.scanner := rfl
@[simp] theorem vehicleSettings_composer (ps : List Byte) (s : State) :
    (vehicleSettings ps s).composer = s.composer := rfl
@[simp] theorem vehicleSettings_profile (ps : List Byte) (s : State) :
    (vehicleSettings ps s).profile = s.profile := rfl
@[simp] theorem vehicleSettings_picture (ps : List Byte) (s : State) :
    (vehicleSettings ps s).picture = s.picture := rfl
@[simp] theorem vehicleSettings_frames (ps : List Byte) (s : State) : (vehicleSettings ps s).frames = s.frames := rfl
@[simp] theorem vehicleSettings_scanout (ps : List Byte) (s : State) :
    (vehicleSettings ps s).scanout = { s.scanout with driveBlanking := vehicleSwitch ps 0 } := rfl
@[simp] theorem vehicleSettings_measure (ps : List Byte) (s : State) :
    (vehicleSettings ps s).measure = s.measure := rfl
@[simp] theorem vehicleSettings_light (ps : List Byte) (s : State) : (vehicleSettings ps s).light = s.light := rfl
@[simp] theorem vehicleSettings_lines (ps : List Byte) (s : State) :
    (vehicleSettings ps s).lines = { s.lines with parkTime := vehicleParkTime ps } := rfl
@[simp] theorem vehicleSettings_power (ps : List Byte) (s : State) :
    (vehicleSettings ps s).power = { s.power with
        lingerMin := vehicleLinger ps, lingerSources := vehicleSources ps, keyWake := vehicleSwitch ps 1,
        swallow := vehicleSwitch ps 2, dockWake := vehicleSwitch ps 3, latchWake := vehicleSwitch ps 4 } := rfl
@[simp] theorem vehicleSettings_freeCount (ps : List Byte) (s : State) :
    (vehicleSettings ps s).freeCount = s.freeCount := rfl

@[simp] theorem openExchange_pending (s : State) : (openExchange s).pending = s.pending := rfl
@[simp] theorem openExchange_mem (s : State) : (openExchange s).mem = s.mem := rfl
@[simp] theorem openExchange_link (s : State) : (openExchange s).link = s.link := rfl
@[simp] theorem openExchange_exch (s : State) :
    (openExchange s).exch = { s.exch with
        sessionOpen := true, sessionNo := s.exch.sessionNo + 1, refused := 0, lastRefused := 0, nextPost := 0,
        attention := 0 } := rfl
@[simp] theorem openExchange_journal (s : State) : (openExchange s).journal = s.journal := rfl
@[simp] theorem openExchange_scanner (s : State) : (openExchange s).scanner = s.scanner := rfl
@[simp] theorem openExchange_composer (s : State) : (openExchange s).composer = s.composer := rfl
@[simp] theorem openExchange_profile (s : State) : (openExchange s).profile = s.profile := rfl
@[simp] theorem openExchange_picture (s : State) : (openExchange s).picture = s.picture := rfl
@[simp] theorem openExchange_frames (s : State) : (openExchange s).frames = s.frames := rfl
@[simp] theorem openExchange_scanout (s : State) :
    (openExchange s).scanout = { s.scanout with presented := false } := rfl
@[simp] theorem openExchange_measure (s : State) : (openExchange s).measure = s.measure := rfl
@[simp] theorem openExchange_light (s : State) : (openExchange s).light = s.light := rfl
@[simp] theorem openExchange_lines (s : State) : (openExchange s).lines = s.lines := rfl
@[simp] theorem openExchange_power (s : State) : (openExchange s).power = s.power := rfl
@[simp] theorem openExchange_freeCount (s : State) : (openExchange s).freeCount = s.freeCount := rfl

@[simp] theorem afterSupply_pending (s : State) : (afterSupply s).pending = s.pending := rfl
@[simp] theorem afterSupply_mem (s : State) : (afterSupply s).mem = s.mem := rfl
@[simp] theorem afterSupply_link (s : State) : (afterSupply s).link = s.link := rfl
@[simp] theorem afterSupply_exch (s : State) : (afterSupply s).exch = s.exch := rfl
@[simp] theorem afterSupply_journal (s : State) : (afterSupply s).journal = s.journal := rfl
@[simp] theorem afterSupply_scanner (s : State) : (afterSupply s).scanner = s.scanner := rfl
@[simp] theorem afterSupply_composer (s : State) : (afterSupply s).composer = s.composer := rfl
@[simp] theorem afterSupply_profile (s : State) : (afterSupply s).profile = s.profile := rfl
@[simp] theorem afterSupply_picture (s : State) : (afterSupply s).picture = s.picture := rfl
@[simp] theorem afterSupply_frames (s : State) : (afterSupply s).frames = s.frames := rfl
@[simp] theorem afterSupply_scanout (s : State) : (afterSupply s).scanout = s.scanout := rfl
@[simp] theorem afterSupply_measure (s : State) :
    (afterSupply s).measure = { s.measure with
        converting := if s.measure.ambientPending then .ambient else .none, ambientPending := false } := rfl
@[simp] theorem afterSupply_light (s : State) : (afterSupply s).light = s.light := rfl
@[simp] theorem afterSupply_lines (s : State) : (afterSupply s).lines = s.lines := rfl
@[simp] theorem afterSupply_power (s : State) : (afterSupply s).power = s.power := rfl
@[simp] theorem afterSupply_freeCount (s : State) : (afterSupply s).freeCount = s.freeCount := rfl

@[simp] theorem startConversion_pending (s : State) : (startConversion s).pending = s.pending := rfl
@[simp] theorem startConversion_mem (s : State) : (startConversion s).mem = s.mem := rfl
@[simp] theorem startConversion_link (s : State) : (startConversion s).link = s.link := rfl
@[simp] theorem startConversion_exch (s : State) : (startConversion s).exch = s.exch := rfl
@[simp] theorem startConversion_journal (s : State) : (startConversion s).journal = s.journal := rfl
@[simp] theorem startConversion_scanner (s : State) : (startConversion s).scanner = s.scanner := rfl
@[simp] theorem startConversion_composer (s : State) : (startConversion s).composer = s.composer := rfl
@[simp] theorem startConversion_profile (s : State) : (startConversion s).profile = s.profile := rfl
@[simp] theorem startConversion_picture (s : State) : (startConversion s).picture = s.picture := rfl
@[simp] theorem startConversion_frames (s : State) : (startConversion s).frames = s.frames := rfl
@[simp] theorem startConversion_scanout (s : State) : (startConversion s).scanout = s.scanout := rfl
@[simp] theorem startConversion_measure (s : State) :
    (startConversion s).measure = { s.measure with
        dueAt := some (now s), converting := .supply,
        ambientPending := s.measure.ambientPending || onGrid s 64 } := rfl
@[simp] theorem startConversion_light (s : State) : (startConversion s).light = s.light := rfl
@[simp] theorem startConversion_lines (s : State) : (startConversion s).lines = s.lines := rfl
@[simp] theorem startConversion_power (s : State) : (startConversion s).power = s.power := rfl
@[simp] theorem startConversion_freeCount (s : State) : (startConversion s).freeCount = s.freeCount := rfl

@[simp] theorem exchangeReset_pending (s : State) : (exchangeReset s).pending = s.pending := rfl
@[simp] theorem exchangeReset_mem (s : State) : (exchangeReset s).mem = keptMemory s := rfl
@[simp] theorem exchangeReset_link (s : State) : (exchangeReset s).link = { s.link with intEnable := false } := rfl
@[simp] theorem exchangeReset_exch (s : State) : (exchangeReset s).exch = Exchange.start := rfl
@[simp] theorem exchangeReset_journal (s : State) : (exchangeReset s).journal = Journal.start := rfl
@[simp] theorem exchangeReset_scanner (s : State) : (exchangeReset s).scanner = s.scanner := rfl
@[simp] theorem exchangeReset_composer (s : State) : (exchangeReset s).composer = s.composer := rfl
@[simp] theorem exchangeReset_profile (s : State) : (exchangeReset s).profile = s.profile := rfl
@[simp] theorem exchangeReset_picture (s : State) : (exchangeReset s).picture = s.picture := rfl
@[simp] theorem exchangeReset_frames (s : State) : (exchangeReset s).frames = s.frames := rfl
@[simp] theorem exchangeReset_scanout (s : State) : (exchangeReset s).scanout = s.scanout := rfl
@[simp] theorem exchangeReset_measure (s : State) : (exchangeReset s).measure = s.measure := rfl
@[simp] theorem exchangeReset_light (s : State) : (exchangeReset s).light = s.light := rfl
@[simp] theorem exchangeReset_lines (s : State) : (exchangeReset s).lines = s.lines := rfl
@[simp] theorem exchangeReset_power (s : State) : (exchangeReset s).power = s.power := rfl
@[simp] theorem exchangeReset_freeCount (s : State) : (exchangeReset s).freeCount = s.freeCount := rfl

@[simp] theorem keyPathReset_pending (s : State) : (keyPathReset s).pending = s.pending := rfl
@[simp] theorem keyPathReset_mem (s : State) : (keyPathReset s).mem = s.mem := rfl
@[simp] theorem keyPathReset_link (s : State) : (keyPathReset s).link = s.link := rfl
@[simp] theorem keyPathReset_exch (s : State) : (keyPathReset s).exch = s.exch := rfl
@[simp] theorem keyPathReset_journal (s : State) : (keyPathReset s).journal = s.journal := rfl
@[simp] theorem keyPathReset_scanner (s : State) :
    (keyPathReset s).scanner = { Scanner.start with passAt := now s, driven := s.scanner.driven } := rfl
@[simp] theorem keyPathReset_composer (s : State) :
    (keyPathReset s).composer = { Composer.start with downAt := now s } := rfl
@[simp] theorem keyPathReset_profile (s : State) : (keyPathReset s).profile = ProfileUnit.start := rfl
@[simp] theorem keyPathReset_picture (s : State) : (keyPathReset s).picture = s.picture := rfl
@[simp] theorem keyPathReset_frames (s : State) : (keyPathReset s).frames = s.frames := rfl
@[simp] theorem keyPathReset_scanout (s : State) : (keyPathReset s).scanout = s.scanout := rfl
@[simp] theorem keyPathReset_measure (s : State) : (keyPathReset s).measure = s.measure := rfl
@[simp] theorem keyPathReset_light (s : State) : (keyPathReset s).light = s.light := rfl
@[simp] theorem keyPathReset_lines (s : State) : (keyPathReset s).lines = s.lines := rfl
@[simp] theorem keyPathReset_power (s : State) : (keyPathReset s).power = s.power := rfl
@[simp] theorem keyPathReset_freeCount (s : State) : (keyPathReset s).freeCount = s.freeCount := rfl

@[simp] theorem settingsReset_pending (s : State) : (settingsReset s).pending = s.pending := rfl
@[simp] theorem settingsReset_mem (s : State) : (settingsReset s).mem = s.mem := rfl
@[simp] theorem settingsReset_link (s : State) : (settingsReset s).link = s.link := rfl
@[simp] theorem settingsReset_exch (s : State) : (settingsReset s).exch = s.exch := rfl
@[simp] theorem settingsReset_journal (s : State) : (settingsReset s).journal = s.journal := rfl
@[simp] theorem settingsReset_scanner (s : State) : (settingsReset s).scanner = s.scanner := rfl
@[simp] theorem settingsReset_composer (s : State) : (settingsReset s).composer = s.composer := rfl
@[simp] theorem settingsReset_profile (s : State) : (settingsReset s).profile = s.profile := rfl
@[simp] theorem settingsReset_picture (s : State) : (settingsReset s).picture = s.picture := rfl
@[simp] theorem settingsReset_frames (s : State) : (settingsReset s).frames = s.frames := rfl
@[simp] theorem settingsReset_scanout (s : State) :
    (settingsReset s).scanout = { s.scanout with driveBlanking := true } := rfl
@[simp] theorem settingsReset_measure (s : State) :
    (settingsReset s).measure = { s.measure with converting := .none, ambientPending := false, history := [] } := rfl
@[simp] theorem settingsReset_light (s : State) : (settingsReset s).light = s.light := rfl
@[simp] theorem settingsReset_lines (s : State) : (settingsReset s).lines = { s.lines with parkTime := 500 } := rfl
@[simp] theorem settingsReset_power (s : State) :
    (settingsReset s).power = { s.power with
        lingerMin := 30, lingerSources := 0b101#3, keyWake := true, swallow := true, dockWake := true,
        latchWake := false } := rfl
@[simp] theorem settingsReset_freeCount (s : State) : (settingsReset s).freeCount = s.freeCount := rfl

@[simp] theorem powerReset_pending (prior : PriorPower) (s : State) : (powerReset prior s).pending = s.pending := rfl
@[simp] theorem powerReset_mem (prior : PriorPower) (s : State) : (powerReset prior s).mem = s.mem := rfl
@[simp] theorem powerReset_link (prior : PriorPower) (s : State) : (powerReset prior s).link = s.link := rfl
@[simp] theorem powerReset_exch (prior : PriorPower) (s : State) : (powerReset prior s).exch = s.exch := rfl
@[simp] theorem powerReset_journal (prior : PriorPower) (s : State) : (powerReset prior s).journal = s.journal := rfl
@[simp] theorem powerReset_scanner (prior : PriorPower) (s : State) : (powerReset prior s).scanner = s.scanner := rfl
@[simp] theorem powerReset_composer (prior : PriorPower) (s : State) :
    (powerReset prior s).composer = s.composer := rfl
@[simp] theorem powerReset_profile (prior : PriorPower) (s : State) : (powerReset prior s).profile = s.profile := rfl
@[simp] theorem powerReset_picture (prior : PriorPower) (s : State) : (powerReset prior s).picture = s.picture := rfl
@[simp] theorem powerReset_frames (prior : PriorPower) (s : State) : (powerReset prior s).frames = s.frames := rfl
@[simp] theorem powerReset_scanout (prior : PriorPower) (s : State) : (powerReset prior s).scanout = s.scanout := rfl
@[simp] theorem powerReset_measure (prior : PriorPower) (s : State) : (powerReset prior s).measure = s.measure := rfl
@[simp] theorem powerReset_light (prior : PriorPower) (s : State) : (powerReset prior s).light = s.light := rfl
@[simp] theorem powerReset_lines (prior : PriorPower) (s : State) : (powerReset prior s).lines = s.lines := rfl
@[simp] theorem powerReset_power (prior : PriorPower) (s : State) :
    (powerReset prior s).power = { s.power with
        standby := false, lingerEnds := if s.lines.ignOn then none else some (after s 1800000),
        startCause := .functionReset, prior := prior } := rfl
@[simp] theorem powerReset_freeCount (prior : PriorPower) (s : State) :
    (powerReset prior s).freeCount = s.freeCount := rfl

/-! ### A line timer, and the buffers of frame memory -/

@[simp] theorem setLineTimer_pending (line : Line) (t : Option Word) (s : State) :
    (setLineTimer line t s).pending = s.pending := by cases line <;> rfl
@[simp] theorem setLineTimer_mem (line : Line) (t : Option Word) (s : State) :
    (setLineTimer line t s).mem = s.mem := by cases line <;> rfl
@[simp] theorem setLineTimer_link (line : Line) (t : Option Word) (s : State) :
    (setLineTimer line t s).link = s.link := by cases line <;> rfl
@[simp] theorem setLineTimer_exch (line : Line) (t : Option Word) (s : State) :
    (setLineTimer line t s).exch = s.exch := by cases line <;> rfl
@[simp] theorem setLineTimer_journal (line : Line) (t : Option Word) (s : State) :
    (setLineTimer line t s).journal = s.journal := by cases line <;> rfl
@[simp] theorem setLineTimer_scanner (line : Line) (t : Option Word) (s : State) :
    (setLineTimer line t s).scanner = s.scanner := by cases line <;> rfl
@[simp] theorem setLineTimer_composer (line : Line) (t : Option Word) (s : State) :
    (setLineTimer line t s).composer = s.composer := by cases line <;> rfl
@[simp] theorem setLineTimer_profile (line : Line) (t : Option Word) (s : State) :
    (setLineTimer line t s).profile = s.profile := by cases line <;> rfl
@[simp] theorem setLineTimer_picture (line : Line) (t : Option Word) (s : State) :
    (setLineTimer line t s).picture = s.picture := by cases line <;> rfl
@[simp] theorem setLineTimer_frames (line : Line) (t : Option Word) (s : State) :
    (setLineTimer line t s).frames = s.frames := by cases line <;> rfl
@[simp] theorem setLineTimer_scanout (line : Line) (t : Option Word) (s : State) :
    (setLineTimer line t s).scanout = s.scanout := by cases line <;> rfl
@[simp] theorem setLineTimer_measure (line : Line) (t : Option Word) (s : State) :
    (setLineTimer line t s).measure = s.measure := by cases line <;> rfl
@[simp] theorem setLineTimer_light (line : Line) (t : Option Word) (s : State) :
    (setLineTimer line t s).light = s.light := by cases line <;> rfl
@[simp] theorem setLineTimer_power (line : Line) (t : Option Word) (s : State) :
    (setLineTimer line t s).power = s.power := by cases line <;> rfl
@[simp] theorem setLineTimer_freeCount (line : Line) (t : Option Word) (s : State) :
    (setLineTimer line t s).freeCount = s.freeCount := by cases line <;> rfl

@[simp] theorem lineTimer_setLineTimer (line : Line) (t : Option Word) (s : State) :
    lineTimer (setLineTimer line t s).lines line = t := by cases line <;> rfl

@[simp] theorem setLineTimer_levels (line : Line) (t : Option Word) (s : State) :
    (setLineTimer line t s).lines.levels = s.lines.levels := by cases line <;> rfl

@[simp] theorem setLineTimer_drive (line : Line) (t : Option Word) (s : State) :
    (setLineTimer line t s).lines.drive = s.lines.drive := by cases line <;> rfl

@[simp] theorem setLineTimer_parkTime (line : Line) (t : Option Word) (s : State) :
    (setLineTimer line t s).lines.parkTime = s.lines.parkTime := by cases line <;> rfl

@[simp] theorem qualified_setLineTimer (line line' : Line) (t : Option Word) (s : State) :
    qualified (setLineTimer line t s).lines line' = qualified s.lines line' := by cases line <;> rfl

@[simp] theorem takeOrder_state (s : State) : (takeOrder s).2 = { s with freeCount := s.freeCount + 1 } := rfl

@[simp] theorem get_set_same (f : Frames) (buf : Buffer) (m : Memory) : (f.set buf m).get buf = m := by
  cases buf <;> rfl

theorem get_set_other (f : Frames) {buf buf' : Buffer} (m : Memory) (h : buf' ≠ buf) :
    (f.set buf m).get buf' = f.get buf' := by cases buf <;> cases buf' <;> first | rfl | exact absurd rfl h

@[simp] theorem set_clearing (f : Frames) (buf : Buffer) (m : Memory) : (f.set buf m).clearing = f.clearing := by
  cases buf <;> rfl

/-! ### Reading one record of a table -/

@[simp] theorem key_setKey_same (p : Fin 128) (k : KeyRec) (s : State) (h : s.composer.keys.length = 128) :
    key (setKey p k s) p = k := by
  simp [key, keyOf, setKey, List.getD_eq_getElem?_getD, h]

theorem key_setKey_other {p q : Fin 128} (k : KeyRec) (s : State) (h : q ≠ p) : key (setKey p k s) q = key s q := by
  have : p.val ≠ q.val := fun e => h (Fin.ext e.symm)
  simp [key, keyOf, setKey, List.getD_eq_getElem?_getD, List.getElem?_set_ne this]

@[simp] theorem slot_setSlot_same (k : Fin 16) (r : SlotRec) (s : State) (h : s.exch.slots.length = 16) :
    slot (setSlot k r s) k = r := by
  simp [slot, setSlot, List.getD_eq_getElem?_getD, h]

theorem slot_setSlot_other {k l : Fin 16} (r : SlotRec) (s : State) (h : l ≠ k) : slot (setSlot k r s) l = slot s l := by
  have : k.val ≠ l.val := fun e => h (Fin.ext e.symm)
  simp [slot, setSlot, List.getD_eq_getElem?_getD, List.getElem?_set_ne this]

/-- After `freeSlots` every slot is FREE, its other fields as they were (R8). -/
theorem slot_freeSlots (k : Fin 16) (s : State) (h : s.exch.slots.length = 16) :
    slot (freeSlots s) k = { slot s k with state := .free } := by
  have hk : k.val < s.exch.slots.length := by omega
  simp [slot, freeSlots, List.getD_eq_getElem?_getD, hk]

end Sys2Proof.Machine
end

