-- ==== Sys2Proof/Laws/Exchange.lean ====
section
/-! SUPPORT. What the operations of Attention and the journal leave as it was: one lemma for each, all
fields of State that it never touches. -/

namespace Sys2Proof.Machine

@[simp] theorem sendMessage_keeps (s : State) :
    (sendMessage s).pending = s.pending ∧ (sendMessage s).mem = s.mem ∧ (sendMessage s).exch = s.exch ∧
    (sendMessage s).journal = s.journal ∧ (sendMessage s).scanner = s.scanner ∧
    (sendMessage s).composer = s.composer ∧ (sendMessage s).profile = s.profile ∧
    (sendMessage s).picture = s.picture ∧ (sendMessage s).frames = s.frames ∧ (sendMessage s).scanout = s.scanout ∧
    (sendMessage s).measure = s.measure ∧ (sendMessage s).light = s.light ∧ (sendMessage s).lines = s.lines ∧
    (sendMessage s).power = s.power ∧ (sendMessage s).freeCount = s.freeCount := by
  unfold sendMessage
  (repeat' split) <;> simp

@[simp] theorem raise_keeps (c : Cause) (s : State) :
    (raise c s).pending = s.pending ∧ (raise c s).mem = s.mem ∧ (raise c s).journal = s.journal ∧
    (raise c s).scanner = s.scanner ∧ (raise c s).composer = s.composer ∧ (raise c s).profile = s.profile ∧
    (raise c s).picture = s.picture ∧ (raise c s).frames = s.frames ∧ (raise c s).scanout = s.scanout ∧
    (raise c s).measure = s.measure ∧ (raise c s).light = s.light ∧ (raise c s).lines = s.lines ∧
    (raise c s).power = s.power ∧ (raise c s).freeCount = s.freeCount := by
  unfold raise
  dsimp only
  (repeat' split) <;> simp

@[simp] theorem acknowledge_keeps (v : Word) (s : State) :
    (acknowledge v s).pending = s.pending ∧ (acknowledge v s).mem = s.mem ∧ (acknowledge v s).journal = s.journal ∧
    (acknowledge v s).scanner = s.scanner ∧ (acknowledge v s).composer = s.composer ∧
    (acknowledge v s).profile = s.profile ∧ (acknowledge v s).picture = s.picture ∧
    (acknowledge v s).frames = s.frames ∧ (acknowledge v s).scanout = s.scanout ∧
    (acknowledge v s).measure = s.measure ∧ (acknowledge v s).light = s.light ∧ (acknowledge v s).lines = s.lines ∧
    (acknowledge v s).power = s.power ∧ (acknowledge v s).freeCount = s.freeCount := by
  unfold acknowledge
  dsimp only
  (repeat' split) <;> simp

@[simp] theorem setInterruptEnable_keeps (on : Bool) (s : State) :
    (setInterruptEnable on s).pending = s.pending ∧ (setInterruptEnable on s).mem = s.mem ∧
    (setInterruptEnable on s).exch = s.exch ∧ (setInterruptEnable on s).journal = s.journal ∧
    (setInterruptEnable on s).scanner = s.scanner ∧ (setInterruptEnable on s).composer = s.composer ∧
    (setInterruptEnable on s).profile = s.profile ∧ (setInterruptEnable on s).picture = s.picture ∧
    (setInterruptEnable on s).frames = s.frames ∧ (setInterruptEnable on s).scanout = s.scanout ∧
    (setInterruptEnable on s).measure = s.measure ∧ (setInterruptEnable on s).light = s.light ∧
    (setInterruptEnable on s).lines = s.lines ∧ (setInterruptEnable on s).power = s.power ∧
    (setInterruptEnable on s).freeCount = s.freeCount := by
  unfold setInterruptEnable
  dsimp only
  (repeat' split) <;> simp

@[simp] theorem complete_keeps (k : Fin 16) (n : Bool) (code : ResultCode) (fl : Byte) (c : Nat) (s : State) :
    (complete k n code fl c s).pending = s.pending ∧ (complete k n code fl c s).mem = s.mem ∧
    (complete k n code fl c s).journal = s.journal ∧ (complete k n code fl c s).scanner = s.scanner ∧
    (complete k n code fl c s).composer = s.composer ∧ (complete k n code fl c s).profile = s.profile ∧
    (complete k n code fl c s).picture = s.picture ∧ (complete k n code fl c s).frames = s.frames ∧
    (complete k n code fl c s).scanout = s.scanout ∧ (complete k n code fl c s).measure = s.measure ∧
    (complete k n code fl c s).light = s.light ∧ (complete k n code fl c s).lines = s.lines ∧
    (complete k n code fl c s).power = s.power ∧ (complete k n code fl c s).freeCount = s.freeCount := by
  unfold complete
  dsimp only
  (repeat' split) <;> simp

@[simp] theorem completeJob_keeps (j : Job) (code : ResultCode) (fl : Byte) (c : Nat) (s : State) :
    (completeJob j code fl c s).pending = s.pending ∧ (completeJob j code fl c s).mem = s.mem ∧
    (completeJob j code fl c s).journal = s.journal ∧ (completeJob j code fl c s).scanner = s.scanner ∧
    (completeJob j code fl c s).composer = s.composer ∧ (completeJob j code fl c s).profile = s.profile ∧
    (completeJob j code fl c s).picture = s.picture ∧ (completeJob j code fl c s).frames = s.frames ∧
    (completeJob j code fl c s).scanout = s.scanout ∧ (completeJob j code fl c s).measure = s.measure ∧
    (completeJob j code fl c s).light = s.light ∧ (completeJob j code fl c s).lines = s.lines ∧
    (completeJob j code fl c s).power = s.power ∧ (completeJob j code fl c s).freeCount = s.freeCount := by simp [completeJob]

@[simp] theorem putRecords_keeps (seq : Word) (rs : List Rec) (s : State) :
    (putRecords seq rs s).pending = s.pending ∧ (putRecords seq rs s).link = s.link ∧
    (putRecords seq rs s).exch = s.exch ∧ (putRecords seq rs s).journal = s.journal ∧
    (putRecords seq rs s).scanner = s.scanner ∧ (putRecords seq rs s).composer = s.composer ∧
    (putRecords seq rs s).profile = s.profile ∧ (putRecords seq rs s).picture = s.picture ∧
    (putRecords seq rs s).frames = s.frames ∧ (putRecords seq rs s).scanout = s.scanout ∧
    (putRecords seq rs s).measure = s.measure ∧ (putRecords seq rs s).light = s.light ∧
    (putRecords seq rs s).lines = s.lines ∧ (putRecords seq rs s).power = s.power ∧
    (putRecords seq rs s).freeCount = s.freeCount := by
  induction rs generalizing seq s with
  | nil => simp [putRecords]
  | cons r rs ih => simp [putRecords, ih]

@[simp] theorem testMark_keeps (s : State) :
    (testMark s).pending = s.pending ∧ (testMark s).mem = s.mem ∧ (testMark s).scanner = s.scanner ∧
    (testMark s).composer = s.composer ∧ (testMark s).profile = s.profile ∧ (testMark s).picture = s.picture ∧
    (testMark s).frames = s.frames ∧ (testMark s).scanout = s.scanout ∧ (testMark s).measure = s.measure ∧
    (testMark s).light = s.light ∧ (testMark s).lines = s.lines ∧ (testMark s).power = s.power ∧
    (testMark s).freeCount = s.freeCount := by
  unfold testMark
  (repeat' split) <;> simp

@[simp] theorem advanceHead_keeps (n : Nat) (s : State) :
    (advanceHead n s).pending = s.pending ∧ (advanceHead n s).mem = s.mem ∧ (advanceHead n s).scanner = s.scanner ∧
    (advanceHead n s).composer = s.composer ∧ (advanceHead n s).profile = s.profile ∧
    (advanceHead n s).picture = s.picture ∧ (advanceHead n s).frames = s.frames ∧
    (advanceHead n s).scanout = s.scanout ∧ (advanceHead n s).measure = s.measure ∧
    (advanceHead n s).light = s.light ∧ (advanceHead n s).lines = s.lines ∧ (advanceHead n s).power = s.power ∧
    (advanceHead n s).freeCount = s.freeCount := by simp [advanceHead]

@[simp] theorem writeGroup_keeps (s : State) :
    (writeGroup s).pending = s.pending ∧ (writeGroup s).scanner = s.scanner ∧ (writeGroup s).composer = s.composer ∧
    (writeGroup s).profile = s.profile ∧ (writeGroup s).picture = s.picture ∧ (writeGroup s).frames = s.frames ∧
    (writeGroup s).scanout = s.scanout ∧ (writeGroup s).measure = s.measure ∧ (writeGroup s).light = s.light ∧
    (writeGroup s).lines = s.lines ∧ (writeGroup s).power = s.power ∧ (writeGroup s).freeCount = s.freeCount := by simp [writeGroup]

@[simp] theorem recoveryTest_keeps (s : State) :
    (recoveryTest s).pending = s.pending ∧ (recoveryTest s).scanner = s.scanner ∧
    (recoveryTest s).composer = s.composer ∧ (recoveryTest s).profile = s.profile ∧
    (recoveryTest s).picture = s.picture ∧ (recoveryTest s).frames = s.frames ∧
    (recoveryTest s).scanout = s.scanout ∧ (recoveryTest s).measure = s.measure ∧ (recoveryTest s).light = s.light ∧
    (recoveryTest s).lines = s.lines ∧ (recoveryTest s).power = s.power ∧ (recoveryTest s).freeCount = s.freeCount := by
  unfold recoveryTest
  (repeat' split) <;> simp

@[simp] theorem handRecord_keeps (r : Rec) (s : State) :
    (handRecord r s).pending = s.pending ∧ (handRecord r s).scanner = s.scanner ∧
    (handRecord r s).composer = s.composer ∧ (handRecord r s).profile = s.profile ∧
    (handRecord r s).picture = s.picture ∧ (handRecord r s).frames = s.frames ∧
    (handRecord r s).scanout = s.scanout ∧ (handRecord r s).measure = s.measure ∧ (handRecord r s).light = s.light ∧
    (handRecord r s).lines = s.lines ∧ (handRecord r s).power = s.power ∧ (handRecord r s).freeCount = s.freeCount := by
  unfold handRecord
  (repeat' split) <;> simp

@[simp] theorem keyRecord_keeps (k : RecordKind) (p : Fin 128) (fl : Byte) (d : Half) (s : State) :
    (keyRecord k p fl d s).pending = s.pending ∧ (keyRecord k p fl d s).scanner = s.scanner ∧
    (keyRecord k p fl d s).composer = s.composer ∧ (keyRecord k p fl d s).profile = s.profile ∧
    (keyRecord k p fl d s).picture = s.picture ∧ (keyRecord k p fl d s).frames = s.frames ∧
    (keyRecord k p fl d s).scanout = s.scanout ∧ (keyRecord k p fl d s).measure = s.measure ∧
    (keyRecord k p fl d s).light = s.light ∧ (keyRecord k p fl d s).lines = s.lines ∧
    (keyRecord k p fl d s).power = s.power ∧ (keyRecord k p fl d s).freeCount = s.freeCount := by simp [keyRecord]

@[simp] theorem plainRecord_keeps (k : RecordKind) (d : Half) (s : State) :
    (plainRecord k d s).pending = s.pending ∧ (plainRecord k d s).scanner = s.scanner ∧
    (plainRecord k d s).composer = s.composer ∧ (plainRecord k d s).profile = s.profile ∧
    (plainRecord k d s).picture = s.picture ∧ (plainRecord k d s).frames = s.frames ∧
    (plainRecord k d s).scanout = s.scanout ∧ (plainRecord k d s).measure = s.measure ∧
    (plainRecord k d s).light = s.light ∧ (plainRecord k d s).lines = s.lines ∧
    (plainRecord k d s).power = s.power ∧ (plainRecord k d s).freeCount = s.freeCount := by simp [plainRecord]

@[simp] theorem wakeRecord_keeps (w : WakeSource) (s : State) :
    (wakeRecord w s).pending = s.pending ∧ (wakeRecord w s).scanner = s.scanner ∧
    (wakeRecord w s).composer = s.composer ∧ (wakeRecord w s).profile = s.profile ∧
    (wakeRecord w s).picture = s.picture ∧ (wakeRecord w s).frames = s.frames ∧
    (wakeRecord w s).scanout = s.scanout ∧ (wakeRecord w s).measure = s.measure ∧ (wakeRecord w s).light = s.light ∧
    (wakeRecord w s).lines = s.lines ∧ (wakeRecord w s).power = s.power ∧ (wakeRecord w s).freeCount = s.freeCount := by
  unfold wakeRecord
  (repeat' split) <;> simp

@[simp] theorem moveTaken_keeps (v : Word) (s : State) :
    (moveTaken v s).pending = s.pending ∧ (moveTaken v s).scanner = s.scanner ∧
    (moveTaken v s).composer = s.composer ∧ (moveTaken v s).profile = s.profile ∧
    (moveTaken v s).picture = s.picture ∧ (moveTaken v s).frames = s.frames ∧ (moveTaken v s).scanout = s.scanout ∧
    (moveTaken v s).measure = s.measure ∧ (moveTaken v s).light = s.light ∧ (moveTaken v s).lines = s.lines ∧
    (moveTaken v s).power = s.power ∧ (moveTaken v s).freeCount = s.freeCount := by
  unfold moveTaken
  dsimp only
  (repeat' split) <;> simp

@[simp] theorem takenWrite_keeps (v : Word) (s : State) :
    (takenWrite v s).pending = s.pending ∧ (takenWrite v s).scanner = s.scanner ∧
    (takenWrite v s).composer = s.composer ∧ (takenWrite v s).profile = s.profile ∧
    (takenWrite v s).picture = s.picture ∧ (takenWrite v s).frames = s.frames ∧
    (takenWrite v s).scanout = s.scanout ∧ (takenWrite v s).measure = s.measure ∧ (takenWrite v s).light = s.light ∧
    (takenWrite v s).lines = s.lines ∧ (takenWrite v s).power = s.power ∧ (takenWrite v s).freeCount = s.freeCount := by
  unfold takenWrite
  (repeat' split) <;> simp

@[simp] theorem markWrite_keeps (m : Word) (s : State) :
    (markWrite m s).pending = s.pending ∧ (markWrite m s).mem = s.mem ∧ (markWrite m s).scanner = s.scanner ∧
    (markWrite m s).composer = s.composer ∧ (markWrite m s).profile = s.profile ∧
    (markWrite m s).picture = s.picture ∧ (markWrite m s).frames = s.frames ∧ (markWrite m s).scanout = s.scanout ∧
    (markWrite m s).measure = s.measure ∧ (markWrite m s).light = s.light ∧ (markWrite m s).lines = s.lines ∧
    (markWrite m s).power = s.power ∧ (markWrite m s).freeCount = s.freeCount := by
  unfold markWrite
  (repeat' split) <;> simp

@[simp] theorem journalOpen_keeps (s : State) :
    (journalOpen s).pending = s.pending ∧ (journalOpen s).scanner = s.scanner ∧
    (journalOpen s).composer = s.composer ∧ (journalOpen s).profile = s.profile ∧
    (journalOpen s).picture = s.picture ∧ (journalOpen s).frames = s.frames ∧ (journalOpen s).scanout = s.scanout ∧
    (journalOpen s).measure = s.measure ∧ (journalOpen s).light = s.light ∧ (journalOpen s).lines = s.lines ∧
    (journalOpen s).power = s.power ∧ (journalOpen s).freeCount = s.freeCount := by simp [journalOpen]

end Sys2Proof.Machine
end

