-- ==== Sys2Proof/Laws/Picture.lean ====
section
/-! SUPPORT. What the operations of the Light Controller, the Picture Engine and the Scanout Unit leave as it was: one lemma for each, all
fields of State that it never touches. -/

namespace Sys2Proof.Machine

@[simp] theorem recompute_keeps (s : State) :
    (recompute s).pending = s.pending ∧ (recompute s).mem = s.mem ∧ (recompute s).link = s.link ∧
    (recompute s).exch = s.exch ∧ (recompute s).journal = s.journal ∧ (recompute s).scanner = s.scanner ∧
    (recompute s).composer = s.composer ∧ (recompute s).profile = s.profile ∧ (recompute s).picture = s.picture ∧
    (recompute s).frames = s.frames ∧ (recompute s).scanout = s.scanout ∧ (recompute s).measure = s.measure ∧
    (recompute s).lines = s.lines ∧ (recompute s).power = s.power ∧ (recompute s).freeCount = s.freeCount := by
  unfold recompute
  dsimp only
  (repeat' split) <;> simp

@[simp] theorem tickStep_keeps (s : State) :
    (tickStep s).pending = s.pending ∧ (tickStep s).mem = s.mem ∧ (tickStep s).link = s.link ∧
    (tickStep s).exch = s.exch ∧ (tickStep s).journal = s.journal ∧ (tickStep s).scanner = s.scanner ∧
    (tickStep s).composer = s.composer ∧ (tickStep s).profile = s.profile ∧ (tickStep s).picture = s.picture ∧
    (tickStep s).frames = s.frames ∧ (tickStep s).scanout = s.scanout ∧ (tickStep s).measure = s.measure ∧
    (tickStep s).lines = s.lines ∧ (tickStep s).power = s.power ∧ (tickStep s).freeCount = s.freeCount := by
  unfold tickStep
  (repeat' split) <;> simp

@[simp] theorem idleRestart_keeps (s : State) :
    (idleRestart s).pending = s.pending ∧ (idleRestart s).mem = s.mem ∧ (idleRestart s).link = s.link ∧
    (idleRestart s).exch = s.exch ∧ (idleRestart s).journal = s.journal ∧ (idleRestart s).scanner = s.scanner ∧
    (idleRestart s).composer = s.composer ∧ (idleRestart s).profile = s.profile ∧
    (idleRestart s).picture = s.picture ∧ (idleRestart s).frames = s.frames ∧ (idleRestart s).scanout = s.scanout ∧
    (idleRestart s).measure = s.measure ∧ (idleRestart s).lines = s.lines ∧ (idleRestart s).power = s.power ∧
    (idleRestart s).freeCount = s.freeCount := by
  unfold idleRestart
  (repeat' split) <;> simp

@[simp] theorem idleActivity_keeps (a : Activity) (s : State) :
    (idleActivity a s).pending = s.pending ∧ (idleActivity a s).mem = s.mem ∧ (idleActivity a s).link = s.link ∧
    (idleActivity a s).exch = s.exch ∧ (idleActivity a s).journal = s.journal ∧
    (idleActivity a s).scanner = s.scanner ∧ (idleActivity a s).composer = s.composer ∧
    (idleActivity a s).profile = s.profile ∧ (idleActivity a s).picture = s.picture ∧
    (idleActivity a s).frames = s.frames ∧ (idleActivity a s).scanout = s.scanout ∧
    (idleActivity a s).measure = s.measure ∧ (idleActivity a s).lines = s.lines ∧
    (idleActivity a s).power = s.power ∧ (idleActivity a s).freeCount = s.freeCount := by
  unfold idleActivity
  (repeat' split) <;> simp

@[simp] theorem lingerActivity_keeps (a : Activity) (s : State) :
    (lingerActivity a s).pending = s.pending ∧ (lingerActivity a s).mem = s.mem ∧
    (lingerActivity a s).link = s.link ∧ (lingerActivity a s).exch = s.exch ∧
    (lingerActivity a s).journal = s.journal ∧ (lingerActivity a s).scanner = s.scanner ∧
    (lingerActivity a s).composer = s.composer ∧ (lingerActivity a s).profile = s.profile ∧
    (lingerActivity a s).picture = s.picture ∧ (lingerActivity a s).frames = s.frames ∧
    (lingerActivity a s).scanout = s.scanout ∧ (lingerActivity a s).measure = s.measure ∧
    (lingerActivity a s).light = s.light ∧ (lingerActivity a s).lines = s.lines ∧
    (lingerActivity a s).freeCount = s.freeCount := by
  unfold lingerActivity
  (repeat' split) <;> simp

@[simp] theorem activity_keeps (a : Activity) (s : State) :
    (activity a s).pending = s.pending ∧ (activity a s).mem = s.mem ∧ (activity a s).link = s.link ∧
    (activity a s).exch = s.exch ∧ (activity a s).journal = s.journal ∧ (activity a s).scanner = s.scanner ∧
    (activity a s).composer = s.composer ∧ (activity a s).profile = s.profile ∧ (activity a s).picture = s.picture ∧
    (activity a s).frames = s.frames ∧ (activity a s).scanout = s.scanout ∧ (activity a s).measure = s.measure ∧
    (activity a s).lines = s.lines ∧ (activity a s).freeCount = s.freeCount := by simp [activity]

@[simp] theorem idleRetime_keeps (t : Nat) (s : State) :
    (idleRetime t s).pending = s.pending ∧ (idleRetime t s).mem = s.mem ∧ (idleRetime t s).link = s.link ∧
    (idleRetime t s).exch = s.exch ∧ (idleRetime t s).journal = s.journal ∧ (idleRetime t s).scanner = s.scanner ∧
    (idleRetime t s).composer = s.composer ∧ (idleRetime t s).profile = s.profile ∧
    (idleRetime t s).picture = s.picture ∧ (idleRetime t s).frames = s.frames ∧
    (idleRetime t s).scanout = s.scanout ∧ (idleRetime t s).measure = s.measure ∧ (idleRetime t s).lines = s.lines ∧
    (idleRetime t s).power = s.power ∧ (idleRetime t s).freeCount = s.freeCount := by
  unfold idleRetime
  (repeat' split) <;> simp

@[simp] theorem applyLight_keeps (l : LightSettings) (s : State) :
    (applyLight l s).pending = s.pending ∧ (applyLight l s).mem = s.mem ∧ (applyLight l s).link = s.link ∧
    (applyLight l s).exch = s.exch ∧ (applyLight l s).journal = s.journal ∧ (applyLight l s).scanner = s.scanner ∧
    (applyLight l s).composer = s.composer ∧ (applyLight l s).profile = s.profile ∧
    (applyLight l s).picture = s.picture ∧ (applyLight l s).frames = s.frames ∧
    (applyLight l s).scanout = s.scanout ∧ (applyLight l s).measure = s.measure ∧ (applyLight l s).lines = s.lines ∧
    (applyLight l s).power = s.power ∧ (applyLight l s).freeCount = s.freeCount := by simp [applyLight]

@[simp] theorem lightFunctionReset_keeps (s : State) :
    (lightFunctionReset s).pending = s.pending ∧ (lightFunctionReset s).mem = s.mem ∧
    (lightFunctionReset s).link = s.link ∧ (lightFunctionReset s).exch = s.exch ∧
    (lightFunctionReset s).journal = s.journal ∧ (lightFunctionReset s).scanner = s.scanner ∧
    (lightFunctionReset s).composer = s.composer ∧ (lightFunctionReset s).profile = s.profile ∧
    (lightFunctionReset s).picture = s.picture ∧ (lightFunctionReset s).frames = s.frames ∧
    (lightFunctionReset s).scanout = s.scanout ∧ (lightFunctionReset s).measure = s.measure ∧
    (lightFunctionReset s).lines = s.lines ∧ (lightFunctionReset s).power = s.power ∧
    (lightFunctionReset s).freeCount = s.freeCount := by simp [lightFunctionReset]

@[simp] theorem finishPicture_keeps (code : ResultCode) (s : State) :
    (finishPicture code s).pending = s.pending ∧ (finishPicture code s).mem = s.mem ∧
    (finishPicture code s).journal = s.journal ∧ (finishPicture code s).scanner = s.scanner ∧
    (finishPicture code s).composer = s.composer ∧ (finishPicture code s).profile = s.profile ∧
    (finishPicture code s).frames = s.frames ∧ (finishPicture code s).scanout = s.scanout ∧
    (finishPicture code s).measure = s.measure ∧ (finishPicture code s).light = s.light ∧
    (finishPicture code s).lines = s.lines ∧ (finishPicture code s).power = s.power ∧
    (finishPicture code s).freeCount = s.freeCount := by
  unfold finishPicture
  (repeat' split) <;> simp

@[simp] theorem failPicture_keeps (s : State) :
    (failPicture s).pending = s.pending ∧ (failPicture s).mem = s.mem ∧ (failPicture s).journal = s.journal ∧
    (failPicture s).scanner = s.scanner ∧ (failPicture s).composer = s.composer ∧
    (failPicture s).profile = s.profile ∧ (failPicture s).frames = s.frames ∧ (failPicture s).scanout = s.scanout ∧
    (failPicture s).measure = s.measure ∧ (failPicture s).light = s.light ∧ (failPicture s).lines = s.lines ∧
    (failPicture s).power = s.power ∧ (failPicture s).freeCount = s.freeCount := by
  unfold failPicture
  (repeat' split) <;> simp

@[simp] theorem issueReads_keeps (rs : List ReadPlan) (s : State) :
    (issueReads rs s).pending = s.pending ∧ (issueReads rs s).mem = s.mem ∧ (issueReads rs s).journal = s.journal ∧
    (issueReads rs s).scanner = s.scanner ∧ (issueReads rs s).composer = s.composer ∧
    (issueReads rs s).profile = s.profile ∧ (issueReads rs s).frames = s.frames ∧
    (issueReads rs s).scanout = s.scanout ∧ (issueReads rs s).measure = s.measure ∧
    (issueReads rs s).light = s.light ∧ (issueReads rs s).lines = s.lines ∧ (issueReads rs s).power = s.power ∧
    (issueReads rs s).freeCount = s.freeCount := by
  induction rs generalizing s with
  | nil => simp [issueReads]
  | cons r rs ih => unfold issueReads; (repeat' split) <;> simp [ih]

@[simp] theorem startHostFetch_keeps (s : State) :
    (startHostFetch s).pending = s.pending ∧ (startHostFetch s).mem = s.mem ∧
    (startHostFetch s).journal = s.journal ∧ (startHostFetch s).scanner = s.scanner ∧
    (startHostFetch s).composer = s.composer ∧ (startHostFetch s).profile = s.profile ∧
    (startHostFetch s).frames = s.frames ∧ (startHostFetch s).scanout = s.scanout ∧
    (startHostFetch s).measure = s.measure ∧ (startHostFetch s).light = s.light ∧
    (startHostFetch s).lines = s.lines ∧ (startHostFetch s).power = s.power ∧
    (startHostFetch s).freeCount = s.freeCount := by simp [startHostFetch]

@[simp] theorem beginRow_keeps (s : State) :
    (beginRow s).pending = s.pending ∧ (beginRow s).mem = s.mem ∧ (beginRow s).journal = s.journal ∧
    (beginRow s).scanner = s.scanner ∧ (beginRow s).composer = s.composer ∧ (beginRow s).profile = s.profile ∧
    (beginRow s).frames = s.frames ∧ (beginRow s).scanout = s.scanout ∧ (beginRow s).measure = s.measure ∧
    (beginRow s).light = s.light ∧ (beginRow s).lines = s.lines ∧ (beginRow s).power = s.power ∧
    (beginRow s).freeCount = s.freeCount := by
  unfold beginRow
  dsimp only
  (repeat' split) <;> simp

@[simp] theorem pictureBoundary_keeps (s : State) :
    (pictureBoundary s).pending = s.pending ∧ (pictureBoundary s).mem = s.mem ∧
    (pictureBoundary s).journal = s.journal ∧ (pictureBoundary s).scanner = s.scanner ∧
    (pictureBoundary s).composer = s.composer ∧ (pictureBoundary s).profile = s.profile ∧
    (pictureBoundary s).frames = s.frames ∧ (pictureBoundary s).scanout = s.scanout ∧
    (pictureBoundary s).measure = s.measure ∧ (pictureBoundary s).light = s.light ∧
    (pictureBoundary s).lines = s.lines ∧ (pictureBoundary s).power = s.power ∧
    (pictureBoundary s).freeCount = s.freeCount := by
  unfold pictureBoundary
  (repeat' split) <;> simp

@[simp] theorem resumePicture_keeps (s : State) :
    (resumePicture s).pending = s.pending ∧ (resumePicture s).mem = s.mem ∧ (resumePicture s).journal = s.journal ∧
    (resumePicture s).scanner = s.scanner ∧ (resumePicture s).composer = s.composer ∧
    (resumePicture s).profile = s.profile ∧ (resumePicture s).frames = s.frames ∧
    (resumePicture s).scanout = s.scanout ∧ (resumePicture s).measure = s.measure ∧
    (resumePicture s).light = s.light ∧ (resumePicture s).lines = s.lines ∧ (resumePicture s).power = s.power ∧
    (resumePicture s).freeCount = s.freeCount := by
  unfold resumePicture
  (repeat' split) <;> simp

@[simp] theorem endFetch_keeps (s : State) :
    (endFetch s).pending = s.pending ∧ (endFetch s).mem = s.mem ∧ (endFetch s).link = s.link ∧
    (endFetch s).exch = s.exch ∧ (endFetch s).journal = s.journal ∧ (endFetch s).scanner = s.scanner ∧
    (endFetch s).composer = s.composer ∧ (endFetch s).profile = s.profile ∧ (endFetch s).frames = s.frames ∧
    (endFetch s).scanout = s.scanout ∧ (endFetch s).measure = s.measure ∧ (endFetch s).light = s.light ∧
    (endFetch s).lines = s.lines ∧ (endFetch s).power = s.power ∧ (endFetch s).freeCount = s.freeCount := by
  unfold endFetch
  (repeat' split) <;> simp

@[simp] theorem takeCompletion_keeps (r : Read) (place : Nat) (d : List Byte) (s : State) :
    (takeCompletion r place d s).pending = s.pending ∧ (takeCompletion r place d s).mem = s.mem ∧
    (takeCompletion r place d s).journal = s.journal ∧ (takeCompletion r place d s).scanner = s.scanner ∧
    (takeCompletion r place d s).composer = s.composer ∧ (takeCompletion r place d s).profile = s.profile ∧
    (takeCompletion r place d s).frames = s.frames ∧ (takeCompletion r place d s).scanout = s.scanout ∧
    (takeCompletion r place d s).measure = s.measure ∧ (takeCompletion r place d s).light = s.light ∧
    (takeCompletion r place d s).lines = s.lines ∧ (takeCompletion r place d s).power = s.power ∧
    (takeCompletion r place d s).freeCount = s.freeCount := by
  unfold takeCompletion
  dsimp only
  (repeat' split) <;> simp

@[simp] theorem hostCompletion_keeps (tag place : Nat) (d : List Byte) (er po : Bool) (s : State) :
    (hostCompletion tag place d er po s).pending = s.pending ∧ (hostCompletion tag place d er po s).mem = s.mem ∧
    (hostCompletion tag place d er po s).journal = s.journal ∧
    (hostCompletion tag place d er po s).scanner = s.scanner ∧
    (hostCompletion tag place d er po s).composer = s.composer ∧
    (hostCompletion tag place d er po s).profile = s.profile ∧
    (hostCompletion tag place d er po s).frames = s.frames ∧
    (hostCompletion tag place d er po s).scanout = s.scanout ∧
    (hostCompletion tag place d er po s).measure = s.measure ∧
    (hostCompletion tag place d er po s).light = s.light ∧ (hostCompletion tag place d er po s).lines = s.lines ∧
    (hostCompletion tag place d er po s).power = s.power ∧
    (hostCompletion tag place d er po s).freeCount = s.freeCount := by
  unfold hostCompletion
  (repeat' split) <;> simp

@[simp] theorem hostTimeout_keeps (tag : Nat) (s : State) :
    (hostTimeout tag s).pending = s.pending ∧ (hostTimeout tag s).mem = s.mem ∧
    (hostTimeout tag s).journal = s.journal ∧ (hostTimeout tag s).scanner = s.scanner ∧
    (hostTimeout tag s).composer = s.composer ∧ (hostTimeout tag s).profile = s.profile ∧
    (hostTimeout tag s).frames = s.frames ∧ (hostTimeout tag s).scanout = s.scanout ∧
    (hostTimeout tag s).measure = s.measure ∧ (hostTimeout tag s).light = s.light ∧
    (hostTimeout tag s).lines = s.lines ∧ (hostTimeout tag s).power = s.power ∧
    (hostTimeout tag s).freeCount = s.freeCount := by
  unfold hostTimeout
  (repeat' split) <;> simp

@[simp] theorem rowWritten_keeps (s : State) :
    (rowWritten s).pending = s.pending ∧ (rowWritten s).mem = s.mem ∧ (rowWritten s).journal = s.journal ∧
    (rowWritten s).scanner = s.scanner ∧ (rowWritten s).composer = s.composer ∧ (rowWritten s).profile = s.profile ∧
    (rowWritten s).scanout = s.scanout ∧ (rowWritten s).measure = s.measure ∧ (rowWritten s).light = s.light ∧
    (rowWritten s).lines = s.lines ∧ (rowWritten s).power = s.power ∧ (rowWritten s).freeCount = s.freeCount := by
  unfold rowWritten
  dsimp only
  (repeat' split) <;> simp

@[simp] theorem abandonPicture_keeps (s : State) :
    (abandonPicture s).pending = s.pending ∧ (abandonPicture s).mem = s.mem ∧ (abandonPicture s).link = s.link ∧
    (abandonPicture s).exch = s.exch ∧ (abandonPicture s).journal = s.journal ∧
    (abandonPicture s).scanner = s.scanner ∧ (abandonPicture s).composer = s.composer ∧
    (abandonPicture s).profile = s.profile ∧ (abandonPicture s).frames = s.frames ∧
    (abandonPicture s).scanout = s.scanout ∧ (abandonPicture s).measure = s.measure ∧
    (abandonPicture s).light = s.light ∧ (abandonPicture s).lines = s.lines ∧ (abandonPicture s).power = s.power ∧
    (abandonPicture s).freeCount = s.freeCount := by
  unfold abandonPicture
  (repeat' split) <;> simp

@[simp] theorem giveUpReads_keeps (s : State) :
    (giveUpReads s).pending = s.pending ∧ (giveUpReads s).mem = s.mem ∧ (giveUpReads s).link = s.link ∧
    (giveUpReads s).exch = s.exch ∧ (giveUpReads s).journal = s.journal ∧ (giveUpReads s).scanner = s.scanner ∧
    (giveUpReads s).composer = s.composer ∧ (giveUpReads s).profile = s.profile ∧
    (giveUpReads s).frames = s.frames ∧ (giveUpReads s).scanout = s.scanout ∧ (giveUpReads s).measure = s.measure ∧
    (giveUpReads s).light = s.light ∧ (giveUpReads s).lines = s.lines ∧ (giveUpReads s).power = s.power ∧
    (giveUpReads s).freeCount = s.freeCount := by
  unfold giveUpReads
  (repeat' split) <;> simp

@[simp] theorem startPicture_keeps (j : Job) (fill : Bool) (s : State) :
    (startPicture j fill s).pending = s.pending ∧ (startPicture j fill s).mem = s.mem ∧
    (startPicture j fill s).journal = s.journal ∧ (startPicture j fill s).scanner = s.scanner ∧
    (startPicture j fill s).composer = s.composer ∧ (startPicture j fill s).profile = s.profile ∧
    (startPicture j fill s).frames = s.frames ∧ (startPicture j fill s).scanout = s.scanout ∧
    (startPicture j fill s).measure = s.measure ∧ (startPicture j fill s).light = s.light ∧
    (startPicture j fill s).lines = s.lines ∧ (startPicture j fill s).power = s.power ∧
    (startPicture j fill s).freeCount = s.freeCount := by
  unfold startPicture
  dsimp only
  (repeat' split) <;> simp

@[simp] theorem takePicture_keeps (j : Job) (fill : Bool) (s : State) :
    (takePicture j fill s).pending = s.pending ∧ (takePicture j fill s).mem = s.mem ∧
    (takePicture j fill s).journal = s.journal ∧ (takePicture j fill s).scanner = s.scanner ∧
    (takePicture j fill s).composer = s.composer ∧ (takePicture j fill s).profile = s.profile ∧
    (takePicture j fill s).frames = s.frames ∧ (takePicture j fill s).scanout = s.scanout ∧
    (takePicture j fill s).measure = s.measure ∧ (takePicture j fill s).light = s.light ∧
    (takePicture j fill s).lines = s.lines ∧ (takePicture j fill s).power = s.power ∧
    (takePicture j fill s).freeCount = s.freeCount := by
  unfold takePicture
  (repeat' split) <;> simp

@[simp] theorem finishPresent_keeps (code : ResultCode) (n : Nat) (s : State) :
    (finishPresent code n s).pending = s.pending ∧ (finishPresent code n s).mem = s.mem ∧
    (finishPresent code n s).journal = s.journal ∧ (finishPresent code n s).scanner = s.scanner ∧
    (finishPresent code n s).composer = s.composer ∧ (finishPresent code n s).profile = s.profile ∧
    (finishPresent code n s).frames = s.frames ∧ (finishPresent code n s).measure = s.measure ∧
    (finishPresent code n s).lines = s.lines ∧ (finishPresent code n s).freeCount = s.freeCount := by
  unfold finishPresent
  dsimp only
  (repeat' split) <;> simp

@[simp] theorem carryBoundary_keeps (c : Carry) (s : State) :
    (carryBoundary c s).pending = s.pending ∧ (carryBoundary c s).mem = s.mem ∧
    (carryBoundary c s).journal = s.journal ∧ (carryBoundary c s).scanner = s.scanner ∧
    (carryBoundary c s).composer = s.composer ∧ (carryBoundary c s).profile = s.profile ∧
    (carryBoundary c s).frames = s.frames ∧ (carryBoundary c s).measure = s.measure ∧
    (carryBoundary c s).lines = s.lines ∧ (carryBoundary c s).freeCount = s.freeCount := by
  unfold carryBoundary
  dsimp only
  (repeat' split) <;> simp

@[simp] theorem carryRowDone_keeps (s : State) :
    (carryRowDone s).pending = s.pending ∧ (carryRowDone s).mem = s.mem ∧ (carryRowDone s).journal = s.journal ∧
    (carryRowDone s).scanner = s.scanner ∧ (carryRowDone s).composer = s.composer ∧
    (carryRowDone s).profile = s.profile ∧ (carryRowDone s).measure = s.measure ∧ (carryRowDone s).lines = s.lines ∧
    (carryRowDone s).freeCount = s.freeCount := by
  unfold carryRowDone
  (repeat' split) <;> simp

@[simp] theorem resumeCarry_keeps (s : State) :
    (resumeCarry s).pending = s.pending ∧ (resumeCarry s).mem = s.mem ∧ (resumeCarry s).journal = s.journal ∧
    (resumeCarry s).scanner = s.scanner ∧ (resumeCarry s).composer = s.composer ∧
    (resumeCarry s).profile = s.profile ∧ (resumeCarry s).frames = s.frames ∧ (resumeCarry s).measure = s.measure ∧
    (resumeCarry s).lines = s.lines ∧ (resumeCarry s).freeCount = s.freeCount := by
  unfold resumeCarry
  (repeat' split) <;> simp

@[simp] theorem swap_keeps (c : Bool) (s : State) :
    (swap c s).pending = s.pending ∧ (swap c s).mem = s.mem ∧ (swap c s).journal = s.journal ∧
    (swap c s).scanner = s.scanner ∧ (swap c s).composer = s.composer ∧ (swap c s).profile = s.profile ∧
    (swap c s).frames = s.frames ∧ (swap c s).measure = s.measure ∧ (swap c s).lines = s.lines ∧
    (swap c s).freeCount = s.freeCount := by
  unfold swap
  dsimp only
  (repeat' split) <;> simp

@[simp] theorem swapWaiting_keeps (s : State) :
    (swapWaiting s).pending = s.pending ∧ (swapWaiting s).mem = s.mem ∧ (swapWaiting s).journal = s.journal ∧
    (swapWaiting s).scanner = s.scanner ∧ (swapWaiting s).composer = s.composer ∧
    (swapWaiting s).profile = s.profile ∧ (swapWaiting s).frames = s.frames ∧ (swapWaiting s).measure = s.measure ∧
    (swapWaiting s).lines = s.lines ∧ (swapWaiting s).freeCount = s.freeCount := by
  unfold swapWaiting
  (repeat' split) <;> simp

@[simp] theorem takePresent_keeps (j : Job) (s : State) :
    (takePresent j s).pending = s.pending ∧ (takePresent j s).mem = s.mem ∧ (takePresent j s).journal = s.journal ∧
    (takePresent j s).scanner = s.scanner ∧ (takePresent j s).composer = s.composer ∧
    (takePresent j s).profile = s.profile ∧ (takePresent j s).frames = s.frames ∧
    (takePresent j s).measure = s.measure ∧ (takePresent j s).lines = s.lines ∧
    (takePresent j s).freeCount = s.freeCount := by
  unfold takePresent
  dsimp only
  (repeat' split) <;> simp

@[simp] theorem stopCarry_keeps (s : State) :
    (stopCarry s).pending = s.pending ∧ (stopCarry s).mem = s.mem ∧ (stopCarry s).link = s.link ∧
    (stopCarry s).exch = s.exch ∧ (stopCarry s).journal = s.journal ∧ (stopCarry s).scanner = s.scanner ∧
    (stopCarry s).composer = s.composer ∧ (stopCarry s).profile = s.profile ∧ (stopCarry s).picture = s.picture ∧
    (stopCarry s).frames = s.frames ∧ (stopCarry s).measure = s.measure ∧ (stopCarry s).light = s.light ∧
    (stopCarry s).lines = s.lines ∧ (stopCarry s).power = s.power ∧ (stopCarry s).freeCount = s.freeCount := by
  unfold stopCarry
  (repeat' split) <;> simp

@[simp] theorem stopPanel_keeps (st : Stage) (s : State) :
    (stopPanel st s).pending = s.pending ∧ (stopPanel st s).mem = s.mem ∧ (stopPanel st s).journal = s.journal ∧
    (stopPanel st s).scanner = s.scanner ∧ (stopPanel st s).composer = s.composer ∧
    (stopPanel st s).profile = s.profile ∧ (stopPanel st s).frames = s.frames ∧
    (stopPanel st s).measure = s.measure ∧ (stopPanel st s).lines = s.lines ∧
    (stopPanel st s).freeCount = s.freeCount := by simp [stopPanel]

@[simp] theorem startPanel_keeps (s : State) :
    (startPanel s).pending = s.pending ∧ (startPanel s).mem = s.mem ∧ (startPanel s).link = s.link ∧
    (startPanel s).exch = s.exch ∧ (startPanel s).journal = s.journal ∧ (startPanel s).scanner = s.scanner ∧
    (startPanel s).composer = s.composer ∧ (startPanel s).profile = s.profile ∧ (startPanel s).picture = s.picture ∧
    (startPanel s).frames = s.frames ∧ (startPanel s).measure = s.measure ∧ (startPanel s).lines = s.lines ∧
    (startPanel s).power = s.power ∧ (startPanel s).freeCount = s.freeCount := by simp [startPanel]

@[simp] theorem panelTest_keeps (s : State) :
    (panelTest s).pending = s.pending ∧ (panelTest s).mem = s.mem ∧ (panelTest s).journal = s.journal ∧
    (panelTest s).scanner = s.scanner ∧ (panelTest s).composer = s.composer ∧ (panelTest s).profile = s.profile ∧
    (panelTest s).frames = s.frames ∧ (panelTest s).measure = s.measure ∧ (panelTest s).lines = s.lines ∧
    (panelTest s).freeCount = s.freeCount := by
  unfold panelTest
  (repeat' split) <;> simp

@[simp] theorem finishPanel_keeps (wish : Bool) (s : State) :
    (finishPanel wish s).pending = s.pending ∧ (finishPanel wish s).mem = s.mem ∧
    (finishPanel wish s).journal = s.journal ∧ (finishPanel wish s).scanner = s.scanner ∧
    (finishPanel wish s).composer = s.composer ∧ (finishPanel wish s).profile = s.profile ∧
    (finishPanel wish s).picture = s.picture ∧ (finishPanel wish s).frames = s.frames ∧
    (finishPanel wish s).scanout = s.scanout ∧ (finishPanel wish s).measure = s.measure ∧
    (finishPanel wish s).light = s.light ∧ (finishPanel wish s).lines = s.lines ∧
    (finishPanel wish s).power = s.power ∧ (finishPanel wish s).freeCount = s.freeCount := by
  unfold finishPanel
  (repeat' split) <;> simp

@[simp] theorem panelOn_keeps (s : State) :
    (panelOn s).pending = s.pending ∧ (panelOn s).mem = s.mem ∧ (panelOn s).journal = s.journal ∧
    (panelOn s).scanner = s.scanner ∧ (panelOn s).composer = s.composer ∧ (panelOn s).profile = s.profile ∧
    (panelOn s).picture = s.picture ∧ (panelOn s).frames = s.frames ∧ (panelOn s).measure = s.measure ∧
    (panelOn s).lines = s.lines ∧ (panelOn s).power = s.power ∧ (panelOn s).freeCount = s.freeCount := by simp [panelOn]

@[simp] theorem panelOff_keeps (s : State) :
    (panelOff s).pending = s.pending ∧ (panelOff s).mem = s.mem ∧ (panelOff s).journal = s.journal ∧
    (panelOff s).scanner = s.scanner ∧ (panelOff s).composer = s.composer ∧ (panelOff s).profile = s.profile ∧
    (panelOff s).frames = s.frames ∧ (panelOff s).measure = s.measure ∧ (panelOff s).lines = s.lines ∧
    (panelOff s).freeCount = s.freeCount := by simp [panelOff]

@[simp] theorem stageExpiry_keeps (s : State) :
    (stageExpiry s).pending = s.pending ∧ (stageExpiry s).mem = s.mem ∧ (stageExpiry s).journal = s.journal ∧
    (stageExpiry s).scanner = s.scanner ∧ (stageExpiry s).composer = s.composer ∧
    (stageExpiry s).profile = s.profile ∧ (stageExpiry s).frames = s.frames ∧ (stageExpiry s).measure = s.measure ∧
    (stageExpiry s).lines = s.lines ∧ (stageExpiry s).freeCount = s.freeCount := by
  unfold stageExpiry
  (repeat' split) <;> simp

@[simp] theorem verticalBlank_keeps (s : State) :
    (verticalBlank s).pending = s.pending ∧ (verticalBlank s).mem = s.mem ∧ (verticalBlank s).journal = s.journal ∧
    (verticalBlank s).scanner = s.scanner ∧ (verticalBlank s).composer = s.composer ∧
    (verticalBlank s).profile = s.profile ∧ (verticalBlank s).frames = s.frames ∧
    (verticalBlank s).measure = s.measure ∧ (verticalBlank s).lines = s.lines ∧
    (verticalBlank s).freeCount = s.freeCount := by
  unfold verticalBlank
  (repeat' split) <;> simp

end Sys2Proof.Machine
end

