-- ==== Sys2Proof/Laws/Keys.lean ====
section
/-! SUPPORT. What the operations of the Power Manager and the key path leave as it was: one lemma for each, all
fields of State that it never touches. -/

namespace Sys2Proof.Machine

/-- A field that each step of a fold keeps, the fold keeps. -/
theorem foldl_keeps {α β : Type} (f : State → α → State) (g : State → β) (h : ∀ s a, g (f s a) = g s) (l : List α)
    (s : State) : g (l.foldl f s) = g s := by
  induction l generalizing s with
  | nil => rfl
  | cons a l ih => rw [List.foldl_cons, ih, h]

@[simp] theorem scannerWake_keeps (s : State) :
    (scannerWake s).pending = s.pending ∧ (scannerWake s).mem = s.mem ∧ (scannerWake s).link = s.link ∧
    (scannerWake s).exch = s.exch ∧ (scannerWake s).journal = s.journal ∧ (scannerWake s).profile = s.profile ∧
    (scannerWake s).picture = s.picture ∧ (scannerWake s).frames = s.frames ∧ (scannerWake s).scanout = s.scanout ∧
    (scannerWake s).measure = s.measure ∧ (scannerWake s).light = s.light ∧ (scannerWake s).lines = s.lines ∧
    (scannerWake s).power = s.power ∧ (scannerWake s).freeCount = s.freeCount := by
  unfold scannerWake
  (repeat' split) <;> simp

@[simp] theorem enterStandby_keeps (s : State) :
    (enterStandby s).pending = s.pending ∧ (enterStandby s).composer = s.composer ∧
    (enterStandby s).profile = s.profile ∧ (enterStandby s).frames = s.frames ∧
    (enterStandby s).measure = s.measure ∧ (enterStandby s).lines = s.lines ∧
    (enterStandby s).freeCount = s.freeCount := by simp [enterStandby]

@[simp] theorem resumePictures_keeps (s : State) :
    (resumePictures s).pending = s.pending ∧ (resumePictures s).mem = s.mem ∧
    (resumePictures s).journal = s.journal ∧ (resumePictures s).scanner = s.scanner ∧
    (resumePictures s).composer = s.composer ∧ (resumePictures s).profile = s.profile ∧
    (resumePictures s).frames = s.frames ∧ (resumePictures s).measure = s.measure ∧
    (resumePictures s).lines = s.lines ∧ (resumePictures s).freeCount = s.freeCount := by simp [resumePictures]

@[simp] theorem wake_keeps (w : WakeSource) (s : State) :
    (wake w s).pending = s.pending ∧ (wake w s).profile = s.profile ∧ (wake w s).frames = s.frames ∧
    (wake w s).measure = s.measure ∧ (wake w s).lines = s.lines ∧ (wake w s).freeCount = s.freeCount := by
  unfold wake
  dsimp only
  (repeat' split) <;> simp

@[simp] theorem wakeSource_keeps (w : WakeSource) (s : State) :
    (wakeSource w s).pending = s.pending ∧ (wakeSource w s).profile = s.profile ∧
    (wakeSource w s).frames = s.frames ∧ (wakeSource w s).measure = s.measure ∧ (wakeSource w s).lines = s.lines ∧
    (wakeSource w s).freeCount = s.freeCount := by
  unfold wakeSource
  (repeat' split) <;> simp

@[simp] theorem ignitionOn_keeps (s : State) :
    (ignitionOn s).pending = s.pending ∧ (ignitionOn s).profile = s.profile ∧ (ignitionOn s).frames = s.frames ∧
    (ignitionOn s).measure = s.measure ∧ (ignitionOn s).lines = s.lines ∧ (ignitionOn s).freeCount = s.freeCount := by simp [ignitionOn]

@[simp] theorem ignitionOff_keeps (s : State) :
    (ignitionOff s).pending = s.pending ∧ (ignitionOff s).composer = s.composer ∧
    (ignitionOff s).profile = s.profile ∧ (ignitionOff s).frames = s.frames ∧ (ignitionOff s).measure = s.measure ∧
    (ignitionOff s).lines = s.lines ∧ (ignitionOff s).freeCount = s.freeCount := by
  unfold ignitionOff
  (repeat' split) <;> simp

@[simp] theorem lingerRetime_keeps (s : State) :
    (lingerRetime s).pending = s.pending ∧ (lingerRetime s).composer = s.composer ∧
    (lingerRetime s).profile = s.profile ∧ (lingerRetime s).frames = s.frames ∧
    (lingerRetime s).measure = s.measure ∧ (lingerRetime s).lines = s.lines ∧
    (lingerRetime s).freeCount = s.freeCount := by
  unfold lingerRetime
  (repeat' split) <;> simp

@[simp] theorem lingerExpiry_keeps (s : State) :
    (lingerExpiry s).pending = s.pending ∧ (lingerExpiry s).composer = s.composer ∧
    (lingerExpiry s).profile = s.profile ∧ (lingerExpiry s).frames = s.frames ∧
    (lingerExpiry s).measure = s.measure ∧ (lingerExpiry s).lines = s.lines ∧
    (lingerExpiry s).freeCount = s.freeCount := by
  unfold lingerExpiry
  (repeat' split) <;> simp

@[simp] theorem bandRecord_keeps (o n : Band) (s : State) :
    (bandRecord o n s).pending = s.pending ∧ (bandRecord o n s).scanner = s.scanner ∧
    (bandRecord o n s).composer = s.composer ∧ (bandRecord o n s).profile = s.profile ∧
    (bandRecord o n s).picture = s.picture ∧ (bandRecord o n s).frames = s.frames ∧
    (bandRecord o n s).scanout = s.scanout ∧ (bandRecord o n s).measure = s.measure ∧
    (bandRecord o n s).light = s.light ∧ (bandRecord o n s).lines = s.lines ∧ (bandRecord o n s).power = s.power ∧
    (bandRecord o n s).freeCount = s.freeCount := by
  unfold bandRecord
  (repeat' split) <;> simp

@[simp] theorem changeBand_keeps (n : Band) (s : State) :
    (changeBand n s).pending = s.pending ∧ (changeBand n s).scanner = s.scanner ∧
    (changeBand n s).composer = s.composer ∧ (changeBand n s).profile = s.profile ∧
    (changeBand n s).frames = s.frames ∧ (changeBand n s).measure = s.measure ∧ (changeBand n s).lines = s.lines ∧
    (changeBand n s).freeCount = s.freeCount := by simp [changeBand]

@[simp] theorem sample_keeps (mv : Nat) (s : State) :
    (sample mv s).pending = s.pending ∧ (sample mv s).scanner = s.scanner ∧ (sample mv s).composer = s.composer ∧
    (sample mv s).profile = s.profile ∧ (sample mv s).frames = s.frames ∧ (sample mv s).measure = s.measure ∧
    (sample mv s).lines = s.lines ∧ (sample mv s).freeCount = s.freeCount := by
  unfold sample
  dsimp only
  (repeat' split) <;> simp

@[simp] theorem repeatOnPress_keeps (p : Fin 128) (s : State) :
    (repeatOnPress p s).pending = s.pending ∧ (repeatOnPress p s).mem = s.mem ∧ (repeatOnPress p s).link = s.link ∧
    (repeatOnPress p s).exch = s.exch ∧ (repeatOnPress p s).journal = s.journal ∧
    (repeatOnPress p s).scanner = s.scanner ∧ (repeatOnPress p s).profile = s.profile ∧
    (repeatOnPress p s).picture = s.picture ∧ (repeatOnPress p s).frames = s.frames ∧
    (repeatOnPress p s).scanout = s.scanout ∧ (repeatOnPress p s).measure = s.measure ∧
    (repeatOnPress p s).light = s.light ∧ (repeatOnPress p s).lines = s.lines ∧
    (repeatOnPress p s).power = s.power ∧ (repeatOnPress p s).freeCount = s.freeCount := by
  unfold repeatOnPress
  (repeat' split) <;> simp

@[simp] theorem repeatOnLeave_keeps (p : Fin 128) (s : State) :
    (repeatOnLeave p s).pending = s.pending ∧ (repeatOnLeave p s).mem = s.mem ∧ (repeatOnLeave p s).link = s.link ∧
    (repeatOnLeave p s).exch = s.exch ∧ (repeatOnLeave p s).journal = s.journal ∧
    (repeatOnLeave p s).scanner = s.scanner ∧ (repeatOnLeave p s).profile = s.profile ∧
    (repeatOnLeave p s).picture = s.picture ∧ (repeatOnLeave p s).frames = s.frames ∧
    (repeatOnLeave p s).scanout = s.scanout ∧ (repeatOnLeave p s).measure = s.measure ∧
    (repeatOnLeave p s).light = s.light ∧ (repeatOnLeave p s).lines = s.lines ∧
    (repeatOnLeave p s).power = s.power ∧ (repeatOnLeave p s).freeCount = s.freeCount := by
  unfold repeatOnLeave
  (repeat' split) <;> simp

@[simp] theorem pressSuppressed_keeps (p : Fin 128) (s : State) :
    (pressSuppressed p s).pending = s.pending ∧ (pressSuppressed p s).scanner = s.scanner ∧
    (pressSuppressed p s).profile = s.profile ∧ (pressSuppressed p s).picture = s.picture ∧
    (pressSuppressed p s).frames = s.frames ∧ (pressSuppressed p s).scanout = s.scanout ∧
    (pressSuppressed p s).measure = s.measure ∧ (pressSuppressed p s).light = s.light ∧
    (pressSuppressed p s).lines = s.lines ∧ (pressSuppressed p s).power = s.power ∧
    (pressSuppressed p s).freeCount = s.freeCount := by simp [pressSuppressed]

@[simp] theorem pressRollover_keeps (p : Fin 128) (s : State) :
    (pressRollover p s).pending = s.pending ∧ (pressRollover p s).scanner = s.scanner ∧
    (pressRollover p s).profile = s.profile ∧ (pressRollover p s).picture = s.picture ∧
    (pressRollover p s).frames = s.frames ∧ (pressRollover p s).scanout = s.scanout ∧
    (pressRollover p s).measure = s.measure ∧ (pressRollover p s).light = s.light ∧
    (pressRollover p s).lines = s.lines ∧ (pressRollover p s).power = s.power ∧
    (pressRollover p s).freeCount = s.freeCount := by simp [pressRollover]

@[simp] theorem pressOrdinary_keeps (p : Fin 128) (s : State) :
    (pressOrdinary p s).pending = s.pending ∧ (pressOrdinary p s).scanner = s.scanner ∧
    (pressOrdinary p s).profile = s.profile ∧ (pressOrdinary p s).picture = s.picture ∧
    (pressOrdinary p s).frames = s.frames ∧ (pressOrdinary p s).scanout = s.scanout ∧
    (pressOrdinary p s).measure = s.measure ∧ (pressOrdinary p s).light = s.light ∧
    (pressOrdinary p s).lines = s.lines ∧ (pressOrdinary p s).power = s.power ∧
    (pressOrdinary p s).freeCount = s.freeCount := by simp [pressOrdinary]

@[simp] theorem pressAwake_keeps (p : Fin 128) (s : State) :
    (pressAwake p s).pending = s.pending ∧ (pressAwake p s).scanner = s.scanner ∧
    (pressAwake p s).profile = s.profile ∧ (pressAwake p s).picture = s.picture ∧
    (pressAwake p s).frames = s.frames ∧ (pressAwake p s).scanout = s.scanout ∧
    (pressAwake p s).measure = s.measure ∧ (pressAwake p s).light = s.light ∧ (pressAwake p s).lines = s.lines ∧
    (pressAwake p s).power = s.power ∧ (pressAwake p s).freeCount = s.freeCount := by
  unfold pressAwake
  (repeat' split) <;> simp

@[simp] theorem pressCases_keeps (p : Fin 128) (s : State) :
    (pressCases p s).pending = s.pending ∧ (pressCases p s).profile = s.profile ∧
    (pressCases p s).frames = s.frames ∧ (pressCases p s).measure = s.measure ∧ (pressCases p s).lines = s.lines ∧
    (pressCases p s).freeCount = s.freeCount := by
  unfold pressCases
  dsimp only
  (repeat' split) <;> simp

@[simp] theorem pressActivity_keeps (f : State) (s : State) :
    (pressActivity f s).pending = s.pending ∧ (pressActivity f s).profile = s.profile ∧
    (pressActivity f s).frames = s.frames ∧ (pressActivity f s).measure = s.measure ∧
    (pressActivity f s).lines = s.lines := by
  unfold pressActivity
  dsimp only
  (repeat' split) <;> simp

@[simp] theorem press_keeps (p : Fin 128) (s : State) :
    (press p s).pending = s.pending ∧ (press p s).profile = s.profile ∧ (press p s).frames = s.frames ∧
    (press p s).measure = s.measure ∧ (press p s).lines = s.lines := by
  unfold press
  (repeat' split) <;> simp

@[simp] theorem release_keeps (p : Fin 128) (s : State) :
    (release p s).pending = s.pending ∧ (release p s).scanner = s.scanner ∧ (release p s).profile = s.profile ∧
    (release p s).picture = s.picture ∧ (release p s).frames = s.frames ∧ (release p s).scanout = s.scanout ∧
    (release p s).measure = s.measure ∧ (release p s).light = s.light ∧ (release p s).lines = s.lines ∧
    (release p s).power = s.power ∧ (release p s).freeCount = s.freeCount := by
  unfold release
  dsimp only
  (repeat' split) <;> simp

@[simp] theorem holdTest_keeps (p : Fin 128) (s : State) :
    (holdTest p s).pending = s.pending ∧ (holdTest p s).scanner = s.scanner ∧ (holdTest p s).profile = s.profile ∧
    (holdTest p s).picture = s.picture ∧ (holdTest p s).frames = s.frames ∧ (holdTest p s).scanout = s.scanout ∧
    (holdTest p s).measure = s.measure ∧ (holdTest p s).light = s.light ∧ (holdTest p s).lines = s.lines ∧
    (holdTest p s).power = s.power ∧ (holdTest p s).freeCount = s.freeCount := by
  unfold holdTest
  dsimp only
  (repeat' split) <;> simp

@[simp] theorem stuckTest_keeps (p : Fin 128) (s : State) :
    (stuckTest p s).pending = s.pending ∧ (stuckTest p s).scanner = s.scanner ∧
    (stuckTest p s).profile = s.profile ∧ (stuckTest p s).picture = s.picture ∧ (stuckTest p s).frames = s.frames ∧
    (stuckTest p s).scanout = s.scanout ∧ (stuckTest p s).measure = s.measure ∧ (stuckTest p s).light = s.light ∧
    (stuckTest p s).lines = s.lines ∧ (stuckTest p s).power = s.power ∧ (stuckTest p s).freeCount = s.freeCount := by
  unfold stuckTest
  dsimp only
  (repeat' split) <;> simp

@[simp] theorem advanceKey_keeps (p : Fin 128) (s : State) :
    (advanceKey p s).pending = s.pending ∧ (advanceKey p s).scanner = s.scanner ∧
    (advanceKey p s).profile = s.profile ∧ (advanceKey p s).picture = s.picture ∧
    (advanceKey p s).frames = s.frames ∧ (advanceKey p s).scanout = s.scanout ∧
    (advanceKey p s).measure = s.measure ∧ (advanceKey p s).light = s.light ∧ (advanceKey p s).lines = s.lines ∧
    (advanceKey p s).power = s.power ∧ (advanceKey p s).freeCount = s.freeCount := by simp [advanceKey]

@[simp] theorem advanceDownTimes_keeps (s : State) :
    (advanceDownTimes s).pending = s.pending ∧ (advanceDownTimes s).scanner = s.scanner ∧
    (advanceDownTimes s).profile = s.profile ∧ (advanceDownTimes s).picture = s.picture ∧
    (advanceDownTimes s).frames = s.frames ∧ (advanceDownTimes s).scanout = s.scanout ∧
    (advanceDownTimes s).measure = s.measure ∧ (advanceDownTimes s).light = s.light ∧
    (advanceDownTimes s).lines = s.lines ∧ (advanceDownTimes s).power = s.power ∧
    (advanceDownTimes s).freeCount = s.freeCount := by
  unfold advanceDownTimes
  and_intros <;> exact foldl_keeps _ _ (by simp) _ _

@[simp] theorem repeatFires_keeps (s : State) :
    (repeatFires s).pending = s.pending ∧ (repeatFires s).scanner = s.scanner ∧
    (repeatFires s).profile = s.profile ∧ (repeatFires s).picture = s.picture ∧ (repeatFires s).frames = s.frames ∧
    (repeatFires s).scanout = s.scanout ∧ (repeatFires s).measure = s.measure ∧ (repeatFires s).light = s.light ∧
    (repeatFires s).lines = s.lines ∧ (repeatFires s).power = s.power ∧ (repeatFires s).freeCount = s.freeCount := by
  unfold repeatFires
  dsimp only
  (repeat' split) <;> simp

@[simp] theorem profileFails_keeps (j : Job) (s : State) :
    (profileFails j s).pending = s.pending ∧ (profileFails j s).mem = s.mem ∧
    (profileFails j s).journal = s.journal ∧ (profileFails j s).scanner = s.scanner ∧
    (profileFails j s).composer = s.composer ∧ (profileFails j s).profile = s.profile ∧
    (profileFails j s).picture = s.picture ∧ (profileFails j s).frames = s.frames ∧
    (profileFails j s).scanout = s.scanout ∧ (profileFails j s).measure = s.measure ∧
    (profileFails j s).light = s.light ∧ (profileFails j s).lines = s.lines ∧ (profileFails j s).power = s.power ∧
    (profileFails j s).freeCount = s.freeCount := by simp [profileFails]

@[simp] theorem takeProfile_keeps (j : Job) (s : State) :
    (takeProfile j s).pending = s.pending ∧ (takeProfile j s).mem = s.mem ∧ (takeProfile j s).journal = s.journal ∧
    (takeProfile j s).scanner = s.scanner ∧ (takeProfile j s).composer = s.composer ∧
    (takeProfile j s).picture = s.picture ∧ (takeProfile j s).frames = s.frames ∧
    (takeProfile j s).scanout = s.scanout ∧ (takeProfile j s).measure = s.measure ∧
    (takeProfile j s).light = s.light ∧ (takeProfile j s).lines = s.lines ∧ (takeProfile j s).power = s.power ∧
    (takeProfile j s).freeCount = s.freeCount := by
  unfold takeProfile
  dsimp only
  (repeat' split) <;> simp

@[simp] theorem finishProfile_keeps (code : ResultCode) (s : State) :
    (finishProfile code s).pending = s.pending ∧ (finishProfile code s).mem = s.mem ∧
    (finishProfile code s).journal = s.journal ∧ (finishProfile code s).scanner = s.scanner ∧
    (finishProfile code s).composer = s.composer ∧ (finishProfile code s).picture = s.picture ∧
    (finishProfile code s).frames = s.frames ∧ (finishProfile code s).scanout = s.scanout ∧
    (finishProfile code s).measure = s.measure ∧ (finishProfile code s).light = s.light ∧
    (finishProfile code s).lines = s.lines ∧ (finishProfile code s).power = s.power ∧
    (finishProfile code s).freeCount = s.freeCount := by
  unfold finishProfile
  (repeat' split) <;> simp

@[simp] theorem swapProfile_keeps (st : Staged) (s : State) :
    (swapProfile st s).pending = s.pending ∧ (swapProfile st s).picture = s.picture ∧
    (swapProfile st s).frames = s.frames ∧ (swapProfile st s).scanout = s.scanout ∧
    (swapProfile st s).measure = s.measure ∧ (swapProfile st s).light = s.light ∧
    (swapProfile st s).lines = s.lines ∧ (swapProfile st s).power = s.power ∧
    (swapProfile st s).freeCount = s.freeCount := by simp [swapProfile]

@[simp] theorem quietTest_keeps (s : State) :
    (quietTest s).pending = s.pending ∧ (quietTest s).picture = s.picture ∧ (quietTest s).frames = s.frames ∧
    (quietTest s).scanout = s.scanout ∧ (quietTest s).measure = s.measure ∧ (quietTest s).light = s.light ∧
    (quietTest s).lines = s.lines ∧ (quietTest s).power = s.power ∧ (quietTest s).freeCount = s.freeCount := by
  unfold quietTest
  (repeat' split) <;> simp

@[simp] theorem profileExpiry_keeps (s : State) :
    (profileExpiry s).pending = s.pending ∧ (profileExpiry s).mem = s.mem ∧ (profileExpiry s).journal = s.journal ∧
    (profileExpiry s).scanner = s.scanner ∧ (profileExpiry s).composer = s.composer ∧
    (profileExpiry s).picture = s.picture ∧ (profileExpiry s).frames = s.frames ∧
    (profileExpiry s).scanout = s.scanout ∧ (profileExpiry s).measure = s.measure ∧
    (profileExpiry s).light = s.light ∧ (profileExpiry s).lines = s.lines ∧ (profileExpiry s).power = s.power ∧
    (profileExpiry s).freeCount = s.freeCount := by
  unfold profileExpiry
  (repeat' split) <;> simp

@[simp] theorem handDecisions_keeps (rel pre : List (Fin 128)) (s : State) :
    (handDecisions rel pre s).pending = s.pending ∧ (handDecisions rel pre s).profile = s.profile ∧
    (handDecisions rel pre s).frames = s.frames ∧ (handDecisions rel pre s).measure = s.measure ∧
    (handDecisions rel pre s).lines = s.lines := by
  unfold handDecisions
  and_intros <;> exact Eq.trans (foldl_keeps _ _ (by simp) _ _) (foldl_keeps _ _ (by simp) _ _)

@[simp] theorem countWindow_keeps (s : State) :
    (countWindow s).pending = s.pending ∧ (countWindow s).mem = s.mem ∧ (countWindow s).link = s.link ∧
    (countWindow s).exch = s.exch ∧ (countWindow s).journal = s.journal ∧ (countWindow s).profile = s.profile ∧
    (countWindow s).picture = s.picture ∧ (countWindow s).frames = s.frames ∧ (countWindow s).scanout = s.scanout ∧
    (countWindow s).measure = s.measure ∧ (countWindow s).light = s.light ∧ (countWindow s).lines = s.lines ∧
    (countWindow s).power = s.power ∧ (countWindow s).freeCount = s.freeCount := by
  unfold countWindow
  dsimp only
  (repeat' split) <;> simp

@[simp] theorem countIdle_keeps (s : State) :
    (countIdle s).pending = s.pending ∧ (countIdle s).mem = s.mem ∧ (countIdle s).link = s.link ∧
    (countIdle s).exch = s.exch ∧ (countIdle s).journal = s.journal ∧ (countIdle s).profile = s.profile ∧
    (countIdle s).picture = s.picture ∧ (countIdle s).frames = s.frames ∧ (countIdle s).scanout = s.scanout ∧
    (countIdle s).measure = s.measure ∧ (countIdle s).light = s.light ∧ (countIdle s).lines = s.lines ∧
    (countIdle s).power = s.power ∧ (countIdle s).freeCount = s.freeCount := by
  unfold countIdle
  dsimp only
  (repeat' split) <;> simp

@[simp] theorem fastPassDecide_keeps (raw : BitVec 128) (s : State) :
    (fastPassDecide raw s).pending = s.pending ∧ (fastPassDecide raw s).profile = s.profile ∧
    (fastPassDecide raw s).frames = s.frames ∧ (fastPassDecide raw s).measure = s.measure ∧
    (fastPassDecide raw s).lines = s.lines := by simp [fastPassDecide]

@[simp] theorem fastPass_keeps (raw : BitVec 128) (s : State) :
    (fastPass raw s).pending = s.pending ∧ (fastPass raw s).frames = s.frames ∧
    (fastPass raw s).measure = s.measure ∧ (fastPass raw s).lines = s.lines := by simp [fastPass]

@[simp] theorem slowBoundary_keeps (sw : Bool) (s : State) :
    (slowBoundary sw s).pending = s.pending ∧ (slowBoundary sw s).picture = s.picture ∧
    (slowBoundary sw s).frames = s.frames ∧ (slowBoundary sw s).scanout = s.scanout ∧
    (slowBoundary sw s).measure = s.measure ∧ (slowBoundary sw s).light = s.light ∧
    (slowBoundary sw s).lines = s.lines ∧ (slowBoundary sw s).power = s.power := by
  unfold slowBoundary
  dsimp only
  (repeat' split) <;> simp

@[simp] theorem slowPass_keeps (raw : BitVec 128) (s : State) :
    (slowPass raw s).pending = s.pending ∧ (slowPass raw s).picture = s.picture ∧
    (slowPass raw s).frames = s.frames ∧ (slowPass raw s).scanout = s.scanout ∧
    (slowPass raw s).measure = s.measure ∧ (slowPass raw s).light = s.light ∧ (slowPass raw s).lines = s.lines ∧
    (slowPass raw s).power = s.power := by
  unfold slowPass
  and_intros <;> simp [foldl_keeps]

end Sys2Proof.Machine
end

