-- ==== Sys2Proof/Laws/Contexts.lean ====
section
/-! SUPPORT. What the operations of the contexts, the session, the lines and the starts leave as it was: one lemma for each, all
fields of State that it never touches. -/

namespace Sys2Proof.Machine

@[simp] theorem applyVehicle_keeps (ps : List Byte) (s : State) :
    (applyVehicle ps s).pending = s.pending ∧ (applyVehicle ps s).composer = s.composer ∧
    (applyVehicle ps s).profile = s.profile ∧ (applyVehicle ps s).frames = s.frames ∧
    (applyVehicle ps s).measure = s.measure ∧ (applyVehicle ps s).freeCount = s.freeCount := by simp [applyVehicle]

@[simp] theorem takeLight_keeps (j : Job) (s : State) :
    (takeLight j s).pending = s.pending ∧ (takeLight j s).mem = s.mem ∧ (takeLight j s).journal = s.journal ∧
    (takeLight j s).scanner = s.scanner ∧ (takeLight j s).composer = s.composer ∧
    (takeLight j s).profile = s.profile ∧ (takeLight j s).picture = s.picture ∧ (takeLight j s).frames = s.frames ∧
    (takeLight j s).scanout = s.scanout ∧ (takeLight j s).measure = s.measure ∧ (takeLight j s).lines = s.lines ∧
    (takeLight j s).power = s.power ∧ (takeLight j s).freeCount = s.freeCount := by
  unfold takeLight
  (repeat' split) <;> simp

@[simp] theorem takeIndicators_keeps (j : Job) (s : State) :
    (takeIndicators j s).pending = s.pending ∧ (takeIndicators j s).mem = s.mem ∧
    (takeIndicators j s).link = s.link ∧ (takeIndicators j s).journal = s.journal ∧
    (takeIndicators j s).scanner = s.scanner ∧ (takeIndicators j s).composer = s.composer ∧
    (takeIndicators j s).profile = s.profile ∧ (takeIndicators j s).picture = s.picture ∧
    (takeIndicators j s).frames = s.frames ∧ (takeIndicators j s).scanout = s.scanout ∧
    (takeIndicators j s).measure = s.measure ∧ (takeIndicators j s).lines = s.lines ∧
    (takeIndicators j s).power = s.power ∧ (takeIndicators j s).freeCount = s.freeCount := by simp [takeIndicators]

@[simp] theorem takeVehicle_keeps (j : Job) (s : State) :
    (takeVehicle j s).pending = s.pending ∧ (takeVehicle j s).composer = s.composer ∧
    (takeVehicle j s).profile = s.profile ∧ (takeVehicle j s).frames = s.frames ∧
    (takeVehicle j s).measure = s.measure ∧ (takeVehicle j s).freeCount = s.freeCount := by simp [takeVehicle]

@[simp] theorem applyWish_keeps (w : Bool) (s : State) :
    (applyWish w s).pending = s.pending ∧ (applyWish w s).profile = s.profile ∧ (applyWish w s).frames = s.frames ∧
    (applyWish w s).measure = s.measure ∧ (applyWish w s).lines = s.lines ∧ (applyWish w s).freeCount = s.freeCount := by
  unfold applyWish
  dsimp only
  (repeat' split) <;> simp

@[simp] theorem takePanel_keeps (j : Job) (s : State) :
    (takePanel j s).pending = s.pending ∧ (takePanel j s).profile = s.profile ∧ (takePanel j s).frames = s.frames ∧
    (takePanel j s).measure = s.measure ∧ (takePanel j s).lines = s.lines ∧ (takePanel j s).freeCount = s.freeCount := by
  unfold takePanel
  dsimp only
  (repeat' split) <;> simp

@[simp] theorem takeSettings_keeps (j : Job) (s : State) :
    (takeSettings j s).pending = s.pending ∧ (takeSettings j s).profile = s.profile ∧
    (takeSettings j s).frames = s.frames ∧ (takeSettings j s).measure = s.measure ∧
    (takeSettings j s).freeCount = s.freeCount := by
  unfold takeSettings
  (repeat' split) <;> simp

@[simp] theorem settingsComplete_keeps (s : State) :
    (settingsComplete s).pending = s.pending ∧ (settingsComplete s).mem = s.mem ∧
    (settingsComplete s).journal = s.journal ∧ (settingsComplete s).scanner = s.scanner ∧
    (settingsComplete s).composer = s.composer ∧ (settingsComplete s).profile = s.profile ∧
    (settingsComplete s).picture = s.picture ∧ (settingsComplete s).frames = s.frames ∧
    (settingsComplete s).scanout = s.scanout ∧ (settingsComplete s).measure = s.measure ∧
    (settingsComplete s).light = s.light ∧ (settingsComplete s).lines = s.lines ∧
    (settingsComplete s).power = s.power ∧ (settingsComplete s).freeCount = s.freeCount := by
  unfold settingsComplete
  (repeat' split) <;> simp

@[simp] theorem activate_keeps (e : Entry) (s : State) :
    (activate e s).pending = s.pending ∧ (activate e s).mem = s.mem ∧ (activate e s).link = s.link ∧
    (activate e s).journal = s.journal ∧ (activate e s).scanner = s.scanner ∧ (activate e s).composer = s.composer ∧
    (activate e s).profile = s.profile ∧ (activate e s).picture = s.picture ∧ (activate e s).frames = s.frames ∧
    (activate e s).scanout = s.scanout ∧ (activate e s).measure = s.measure ∧ (activate e s).light = s.light ∧
    (activate e s).lines = s.lines ∧ (activate e s).power = s.power ∧ (activate e s).freeCount = s.freeCount := by simp [activate]

@[simp] theorem takeByPicture_keeps (e : Entry) (s : State) :
    (takeByPicture e s).pending = s.pending ∧ (takeByPicture e s).mem = s.mem ∧
    (takeByPicture e s).journal = s.journal ∧ (takeByPicture e s).scanner = s.scanner ∧
    (takeByPicture e s).composer = s.composer ∧ (takeByPicture e s).profile = s.profile ∧
    (takeByPicture e s).frames = s.frames ∧ (takeByPicture e s).measure = s.measure ∧
    (takeByPicture e s).lines = s.lines ∧ (takeByPicture e s).freeCount = s.freeCount := by
  unfold takeByPicture
  dsimp only
  (repeat' split) <;> simp

@[simp] theorem takeByProfile_keeps (e : Entry) (s : State) :
    (takeByProfile e s).pending = s.pending ∧ (takeByProfile e s).mem = s.mem ∧
    (takeByProfile e s).journal = s.journal ∧ (takeByProfile e s).scanner = s.scanner ∧
    (takeByProfile e s).composer = s.composer ∧ (takeByProfile e s).picture = s.picture ∧
    (takeByProfile e s).frames = s.frames ∧ (takeByProfile e s).scanout = s.scanout ∧
    (takeByProfile e s).measure = s.measure ∧ (takeByProfile e s).light = s.light ∧
    (takeByProfile e s).lines = s.lines ∧ (takeByProfile e s).power = s.power ∧
    (takeByProfile e s).freeCount = s.freeCount := by simp [takeByProfile]

@[simp] theorem takeBySettings_keeps (e : Entry) (s : State) :
    (takeBySettings e s).pending = s.pending ∧ (takeBySettings e s).profile = s.profile ∧
    (takeBySettings e s).frames = s.frames ∧ (takeBySettings e s).measure = s.measure ∧
    (takeBySettings e s).freeCount = s.freeCount := by simp [takeBySettings]

/-- A take touches no command that waits, no frame memory, no measurement and no free value. -/
theorem oneTake_keeps {s t : State} (h : oneTake s = some t) :
    t.pending = s.pending ∧ t.frames = s.frames ∧ t.measure = s.measure ∧ t.freeCount = s.freeCount := by
  unfold oneTake settingsTake pictureTake profileTake at h
  simp only [Option.or_eq_some_iff] at h
  rcases h with (h | ⟨-, h⟩) | ⟨-, h⟩ <;> split at h <;>
    first
      | (obtain ⟨e, -, rfl⟩ := Option.map_eq_some_iff.mp h; simp)
      | simp at h

@[simp] theorem lookFor_keeps (n : Nat) (s : State) :
    (lookFor n s).pending = s.pending ∧ (lookFor n s).frames = s.frames ∧ (lookFor n s).measure = s.measure ∧
    (lookFor n s).freeCount = s.freeCount := by
  induction n generalizing s with
  | zero => simp [lookFor]
  | succ n ih =>
    unfold lookFor
    split
    · simp
    · next t h => have := oneTake_keeps h; simp [ih, this]

@[simp] theorem look_keeps (s : State) :
    (look s).pending = s.pending ∧ (look s).frames = s.frames ∧ (look s).measure = s.measure ∧
    (look s).freeCount = s.freeCount := by simp [look]

@[simp] theorem postWrite_keeps (k : Fin 16) (s : State) :
    (postWrite k s).pending = s.pending ∧ (postWrite k s).frames = s.frames ∧ (postWrite k s).measure = s.measure ∧
    (postWrite k s).freeCount = s.freeCount := by
  unfold postWrite
  (repeat' split) <;> simp

@[simp] theorem cancelPosted_keeps (k : Fin 16) (s : State) :
    (cancelPosted k s).pending = s.pending ∧ (cancelPosted k s).mem = s.mem ∧
    (cancelPosted k s).journal = s.journal ∧ (cancelPosted k s).scanner = s.scanner ∧
    (cancelPosted k s).composer = s.composer ∧ (cancelPosted k s).profile = s.profile ∧
    (cancelPosted k s).picture = s.picture ∧ (cancelPosted k s).frames = s.frames ∧
    (cancelPosted k s).scanout = s.scanout ∧ (cancelPosted k s).measure = s.measure ∧
    (cancelPosted k s).light = s.light ∧ (cancelPosted k s).lines = s.lines ∧ (cancelPosted k s).power = s.power ∧
    (cancelPosted k s).freeCount = s.freeCount := by
  unfold cancelPosted
  dsimp only
  (repeat' split) <;> simp

@[simp] theorem cancelPicture_keeps (s : State) :
    (cancelPicture s).pending = s.pending ∧ (cancelPicture s).mem = s.mem ∧ (cancelPicture s).journal = s.journal ∧
    (cancelPicture s).scanner = s.scanner ∧ (cancelPicture s).composer = s.composer ∧
    (cancelPicture s).profile = s.profile ∧ (cancelPicture s).frames = s.frames ∧
    (cancelPicture s).measure = s.measure ∧ (cancelPicture s).light = s.light ∧ (cancelPicture s).lines = s.lines ∧
    (cancelPicture s).power = s.power ∧ (cancelPicture s).freeCount = s.freeCount := by
  unfold cancelPicture
  (repeat' split) <;> simp

@[simp] theorem cancelSettings_keeps (s : State) :
    (cancelSettings s).pending = s.pending ∧ (cancelSettings s).mem = s.mem ∧
    (cancelSettings s).journal = s.journal ∧ (cancelSettings s).scanner = s.scanner ∧
    (cancelSettings s).composer = s.composer ∧ (cancelSettings s).profile = s.profile ∧
    (cancelSettings s).picture = s.picture ∧ (cancelSettings s).frames = s.frames ∧
    (cancelSettings s).scanout = s.scanout ∧ (cancelSettings s).measure = s.measure ∧
    (cancelSettings s).light = s.light ∧ (cancelSettings s).lines = s.lines ∧ (cancelSettings s).power = s.power ∧
    (cancelSettings s).freeCount = s.freeCount := by
  unfold cancelSettings
  (repeat' split) <;> simp

@[simp] theorem cancelActive_keeps (k : Fin 16) (s : State) :
    (cancelActive k s).pending = s.pending ∧ (cancelActive k s).mem = s.mem ∧
    (cancelActive k s).journal = s.journal ∧ (cancelActive k s).scanner = s.scanner ∧
    (cancelActive k s).composer = s.composer ∧ (cancelActive k s).frames = s.frames ∧
    (cancelActive k s).measure = s.measure ∧ (cancelActive k s).light = s.light ∧
    (cancelActive k s).lines = s.lines ∧ (cancelActive k s).power = s.power ∧
    (cancelActive k s).freeCount = s.freeCount := by
  unfold cancelActive
  dsimp only
  (repeat' split) <;> simp

@[simp] theorem cancelWrite_keeps (k : Fin 16) (s : State) :
    (cancelWrite k s).pending = s.pending ∧ (cancelWrite k s).frames = s.frames ∧
    (cancelWrite k s).measure = s.measure ∧ (cancelWrite k s).freeCount = s.freeCount := by
  unfold cancelWrite
  (repeat' split) <;> simp

@[simp] theorem freeWrite_keeps (k : Fin 16) (s : State) :
    (freeWrite k s).pending = s.pending ∧ (freeWrite k s).mem = s.mem ∧ (freeWrite k s).link = s.link ∧
    (freeWrite k s).journal = s.journal ∧ (freeWrite k s).scanner = s.scanner ∧
    (freeWrite k s).composer = s.composer ∧ (freeWrite k s).profile = s.profile ∧
    (freeWrite k s).picture = s.picture ∧ (freeWrite k s).frames = s.frames ∧ (freeWrite k s).scanout = s.scanout ∧
    (freeWrite k s).measure = s.measure ∧ (freeWrite k s).light = s.light ∧ (freeWrite k s).lines = s.lines ∧
    (freeWrite k s).power = s.power ∧ (freeWrite k s).freeCount = s.freeCount := by
  unfold freeWrite
  (repeat' split) <;> simp

@[simp] theorem openSession_keeps (s : State) :
    (openSession s).pending = s.pending ∧ (openSession s).scanner = s.scanner ∧
    (openSession s).composer = s.composer ∧ (openSession s).profile = s.profile ∧
    (openSession s).picture = s.picture ∧ (openSession s).frames = s.frames ∧ (openSession s).measure = s.measure ∧
    (openSession s).light = s.light ∧ (openSession s).lines = s.lines ∧ (openSession s).power = s.power ∧
    (openSession s).freeCount = s.freeCount := by simp [openSession]

@[simp] theorem abandonWork_keeps (s : State) :
    (abandonWork s).pending = s.pending ∧ (abandonWork s).mem = s.mem ∧ (abandonWork s).link = s.link ∧
    (abandonWork s).journal = s.journal ∧ (abandonWork s).scanner = s.scanner ∧
    (abandonWork s).composer = s.composer ∧ (abandonWork s).frames = s.frames ∧
    (abandonWork s).measure = s.measure ∧ (abandonWork s).light = s.light ∧ (abandonWork s).lines = s.lines ∧
    (abandonWork s).power = s.power ∧ (abandonWork s).freeCount = s.freeCount := by simp [abandonWork]

@[simp] theorem closeSession_keeps (s : State) :
    (closeSession s).pending = s.pending ∧ (closeSession s).mem = s.mem ∧ (closeSession s).link = s.link ∧
    (closeSession s).journal = s.journal ∧ (closeSession s).scanner = s.scanner ∧
    (closeSession s).composer = s.composer ∧ (closeSession s).frames = s.frames ∧
    (closeSession s).measure = s.measure ∧ (closeSession s).light = s.light ∧ (closeSession s).lines = s.lines ∧
    (closeSession s).power = s.power ∧ (closeSession s).freeCount = s.freeCount := by simp [closeSession]

@[simp] theorem endSession_keeps (s : State) :
    (endSession s).pending = s.pending ∧ (endSession s).mem = s.mem ∧ (endSession s).link = s.link ∧
    (endSession s).journal = s.journal ∧ (endSession s).scanner = s.scanner ∧ (endSession s).composer = s.composer ∧
    (endSession s).frames = s.frames ∧ (endSession s).measure = s.measure ∧ (endSession s).light = s.light ∧
    (endSession s).lines = s.lines ∧ (endSession s).power = s.power ∧ (endSession s).freeCount = s.freeCount := by
  unfold endSession
  (repeat' split) <;> simp

@[simp] theorem sessionWrite_keeps (v : Word) (s : State) :
    (sessionWrite v s).pending = s.pending ∧ (sessionWrite v s).scanner = s.scanner ∧
    (sessionWrite v s).composer = s.composer ∧ (sessionWrite v s).frames = s.frames ∧
    (sessionWrite v s).measure = s.measure ∧ (sessionWrite v s).light = s.light ∧
    (sessionWrite v s).lines = s.lines ∧ (sessionWrite v s).power = s.power ∧
    (sessionWrite v s).freeCount = s.freeCount := by
  unfold sessionWrite
  (repeat' split) <;> simp

@[simp] theorem ackWrite_keeps (v : Word) (s : State) :
    (ackWrite v s).pending = s.pending ∧ (ackWrite v s).mem = s.mem ∧ (ackWrite v s).journal = s.journal ∧
    (ackWrite v s).scanner = s.scanner ∧ (ackWrite v s).composer = s.composer ∧ (ackWrite v s).profile = s.profile ∧
    (ackWrite v s).picture = s.picture ∧ (ackWrite v s).frames = s.frames ∧ (ackWrite v s).scanout = s.scanout ∧
    (ackWrite v s).measure = s.measure ∧ (ackWrite v s).light = s.light ∧ (ackWrite v s).lines = s.lines ∧
    (ackWrite v s).power = s.power ∧ (ackWrite v s).freeCount = s.freeCount := by
  unfold ackWrite
  (repeat' split) <;> simp

@[simp] theorem slotStateWrite_keeps (k : Fin 16) (v : Word) (s : State) :
    (slotStateWrite k v s).pending = s.pending ∧ (slotStateWrite k v s).frames = s.frames ∧
    (slotStateWrite k v s).measure = s.measure ∧ (slotStateWrite k v s).freeCount = s.freeCount := by
  unfold slotStateWrite
  (repeat' split) <;> simp

@[simp] theorem guardedWrite_keeps (g : Guarded) (v : Word) (s : State) :
    (guardedWrite g v s).pending = s.pending ∧ (guardedWrite g v s).frames = s.frames ∧
    (guardedWrite g v s).measure = s.measure ∧ (guardedWrite g v s).freeCount = s.freeCount := by
  unfold guardedWrite
  (repeat' split) <;> simp

@[simp] theorem exchangeWrite_keeps (w : BitVec 14) (be : BitVec 4) (v : Word) (s : State) :
    (exchangeWrite w be v s).pending = s.pending ∧ (exchangeWrite w be v s).frames = s.frames ∧
    (exchangeWrite w be v s).measure = s.measure ∧ (exchangeWrite w be v s).freeCount = s.freeCount := by
  unfold exchangeWrite
  (repeat' split) <;> simp

@[simp] theorem lineEdge_keeps (line : Line) (high : Bool) (s : State) :
    (lineEdge line high s).pending = s.pending ∧ (lineEdge line high s).mem = s.mem ∧
    (lineEdge line high s).link = s.link ∧ (lineEdge line high s).exch = s.exch ∧
    (lineEdge line high s).journal = s.journal ∧ (lineEdge line high s).scanner = s.scanner ∧
    (lineEdge line high s).composer = s.composer ∧ (lineEdge line high s).profile = s.profile ∧
    (lineEdge line high s).picture = s.picture ∧ (lineEdge line high s).frames = s.frames ∧
    (lineEdge line high s).scanout = s.scanout ∧ (lineEdge line high s).measure = s.measure ∧
    (lineEdge line high s).light = s.light ∧ (lineEdge line high s).power = s.power ∧
    (lineEdge line high s).freeCount = s.freeCount := by
  unfold lineEdge
  dsimp only
  (repeat' split) <;> simp

@[simp] theorem deriveDrive_keeps (s : State) :
    (deriveDrive s).pending = s.pending ∧ (deriveDrive s).scanner = s.scanner ∧
    (deriveDrive s).composer = s.composer ∧ (deriveDrive s).profile = s.profile ∧
    (deriveDrive s).picture = s.picture ∧ (deriveDrive s).frames = s.frames ∧ (deriveDrive s).scanout = s.scanout ∧
    (deriveDrive s).measure = s.measure ∧ (deriveDrive s).power = s.power ∧ (deriveDrive s).freeCount = s.freeCount := by
  unfold deriveDrive
  dsimp only
  (repeat' split) <;> simp

@[simp] theorem ignChange_keeps (on : Bool) (s : State) :
    (ignChange on s).pending = s.pending ∧ (ignChange on s).profile = s.profile ∧
    (ignChange on s).frames = s.frames ∧ (ignChange on s).measure = s.measure ∧
    (ignChange on s).freeCount = s.freeCount := by
  unfold ignChange
  dsimp only
  (repeat' split) <;> simp

@[simp] theorem parkChange_keeps (b : Bool) (s : State) :
    (parkChange b s).pending = s.pending ∧ (parkChange b s).scanner = s.scanner ∧
    (parkChange b s).composer = s.composer ∧ (parkChange b s).profile = s.profile ∧
    (parkChange b s).picture = s.picture ∧ (parkChange b s).frames = s.frames ∧
    (parkChange b s).scanout = s.scanout ∧ (parkChange b s).measure = s.measure ∧
    (parkChange b s).freeCount = s.freeCount := by simp [parkChange]

@[simp] theorem presenceChange_keeps (b : Bool) (s : State) :
    (presenceChange b s).pending = s.pending ∧ (presenceChange b s).frames = s.frames ∧
    (presenceChange b s).measure = s.measure ∧ (presenceChange b s).freeCount = s.freeCount := by
  unfold presenceChange
  dsimp only
  (repeat' split) <;> simp

@[simp] theorem latchChange_keeps (b : Bool) (s : State) :
    (latchChange b s).pending = s.pending ∧ (latchChange b s).profile = s.profile ∧
    (latchChange b s).frames = s.frames ∧ (latchChange b s).measure = s.measure ∧
    (latchChange b s).freeCount = s.freeCount := by
  unfold latchChange
  dsimp only
  (repeat' split) <;> simp

@[simp] theorem lineChange_keeps (line : Line) (b : Bool) (s : State) :
    (lineChange line b s).pending = s.pending ∧ (lineChange line b s).frames = s.frames ∧
    (lineChange line b s).measure = s.measure ∧ (lineChange line b s).freeCount = s.freeCount := by
  unfold lineChange
  (repeat' split) <;> simp

@[simp] theorem lineExpiry_keeps (line : Line) (s : State) :
    (lineExpiry line s).pending = s.pending ∧ (lineExpiry line s).frames = s.frames ∧
    (lineExpiry line s).measure = s.measure ∧ (lineExpiry line s).freeCount = s.freeCount := by
  unfold lineExpiry
  dsimp only
  (repeat' split) <;> simp

@[simp] theorem supplyDone_keeps (code : BitVec 10) (s : State) :
    (supplyDone code s).pending = s.pending ∧ (supplyDone code s).scanner = s.scanner ∧
    (supplyDone code s).composer = s.composer ∧ (supplyDone code s).profile = s.profile ∧
    (supplyDone code s).frames = s.frames ∧ (supplyDone code s).lines = s.lines ∧
    (supplyDone code s).freeCount = s.freeCount := by simp [supplyDone]

@[simp] theorem ambientDone_keeps (code : BitVec 10) (s : State) :
    (ambientDone code s).pending = s.pending ∧ (ambientDone code s).mem = s.mem ∧
    (ambientDone code s).link = s.link ∧ (ambientDone code s).exch = s.exch ∧
    (ambientDone code s).journal = s.journal ∧ (ambientDone code s).scanner = s.scanner ∧
    (ambientDone code s).composer = s.composer ∧ (ambientDone code s).profile = s.profile ∧
    (ambientDone code s).picture = s.picture ∧ (ambientDone code s).frames = s.frames ∧
    (ambientDone code s).scanout = s.scanout ∧ (ambientDone code s).lines = s.lines ∧
    (ambientDone code s).power = s.power ∧ (ambientDone code s).freeCount = s.freeCount := by simp [ambientDone]

@[simp] theorem lightTick_keeps (s : State) :
    (lightTick s).pending = s.pending ∧ (lightTick s).mem = s.mem ∧ (lightTick s).link = s.link ∧
    (lightTick s).exch = s.exch ∧ (lightTick s).journal = s.journal ∧ (lightTick s).scanner = s.scanner ∧
    (lightTick s).composer = s.composer ∧ (lightTick s).profile = s.profile ∧ (lightTick s).picture = s.picture ∧
    (lightTick s).frames = s.frames ∧ (lightTick s).scanout = s.scanout ∧ (lightTick s).measure = s.measure ∧
    (lightTick s).lines = s.lines ∧ (lightTick s).power = s.power ∧ (lightTick s).freeCount = s.freeCount := by
  unfold lightTick
  (repeat' split) <;> simp

@[simp] theorem idleExpiry_keeps (s : State) :
    (idleExpiry s).pending = s.pending ∧ (idleExpiry s).mem = s.mem ∧ (idleExpiry s).link = s.link ∧
    (idleExpiry s).exch = s.exch ∧ (idleExpiry s).journal = s.journal ∧ (idleExpiry s).scanner = s.scanner ∧
    (idleExpiry s).composer = s.composer ∧ (idleExpiry s).profile = s.profile ∧ (idleExpiry s).picture = s.picture ∧
    (idleExpiry s).frames = s.frames ∧ (idleExpiry s).scanout = s.scanout ∧ (idleExpiry s).measure = s.measure ∧
    (idleExpiry s).lines = s.lines ∧ (idleExpiry s).power = s.power ∧ (idleExpiry s).freeCount = s.freeCount := by
  unfold idleExpiry
  (repeat' split) <;> simp

@[simp] theorem trip_keeps (s : State) :
    (trip s).pending = s.pending ∧ (trip s).mem = s.mem ∧ (trip s).journal = s.journal ∧
    (trip s).scanner = s.scanner ∧ (trip s).composer = s.composer ∧ (trip s).frames = s.frames ∧
    (trip s).measure = s.measure ∧ (trip s).light = s.light ∧ (trip s).lines = s.lines ∧
    (trip s).freeCount = s.freeCount := by simp [trip]

@[simp] theorem panelReset_keeps (s : State) :
    (panelReset s).pending = s.pending ∧ (panelReset s).mem = s.mem ∧ (panelReset s).journal = s.journal ∧
    (panelReset s).scanner = s.scanner ∧ (panelReset s).composer = s.composer ∧ (panelReset s).profile = s.profile ∧
    (panelReset s).frames = s.frames ∧ (panelReset s).measure = s.measure ∧ (panelReset s).lines = s.lines ∧
    (panelReset s).freeCount = s.freeCount := by simp [panelReset]

@[simp] theorem workReset_keeps (s : State) :
    (workReset s).pending = s.pending ∧ (workReset s).mem = s.mem ∧ (workReset s).link = s.link ∧
    (workReset s).journal = s.journal ∧ (workReset s).scanner = s.scanner ∧ (workReset s).composer = s.composer ∧
    (workReset s).frames = s.frames ∧ (workReset s).measure = s.measure ∧ (workReset s).light = s.light ∧
    (workReset s).lines = s.lines ∧ (workReset s).power = s.power ∧ (workReset s).freeCount = s.freeCount := by simp [workReset]

@[simp] theorem resetFunction_keeps (s : State) :
    (resetFunction s).pending = s.pending ∧ (resetFunction s).frames = s.frames ∧
    (resetFunction s).freeCount = s.freeCount := by simp [resetFunction]

@[simp] theorem controlWrite_keeps (v : Word) (s : State) :
    (controlWrite v s).pending = s.pending ∧ (controlWrite v s).frames = s.frames ∧
    (controlWrite v s).freeCount = s.freeCount := by
  unfold controlWrite
  dsimp only
  (repeat' split) <;> simp

@[simp] theorem registerWrite_keeps (w : BitVec 10) (be : BitVec 4) (v : Word) (s : State) :
    (registerWrite w be v s).pending = s.pending ∧ (registerWrite w be v s).frames = s.frames ∧
    (registerWrite w be v s).freeCount = s.freeCount := by
  unfold registerWrite
  (repeat' split) <;> simp

@[simp] theorem failFetches_keeps (n : Nat) (s : State) :
    (failFetches n s).pending = s.pending ∧ (failFetches n s).frames = s.frames ∧
    (failFetches n s).measure = s.measure := by
  induction n generalizing s with
  | zero => simp [failFetches]
  | succ n ih =>
    unfold failFetches
    dsimp only
    (repeat' split) <;> simp [ih]

@[simp] theorem linkLost_keeps (s : State) :
    (linkLost s).pending = s.pending ∧ (linkLost s).frames = s.frames ∧ (linkLost s).measure = s.measure := by simp [linkLost]

@[simp] theorem linkDown_keeps (s : State) :
    (linkDown s).pending = s.pending ∧ (linkDown s).frames = s.frames ∧ (linkDown s).measure = s.measure := by
  unfold linkDown
  (repeat' split) <;> simp

@[simp] theorem linkReset_keeps (s : State) :
    (linkReset s).pending = s.pending ∧ (linkReset s).mem = s.mem ∧ (linkReset s).journal = s.journal ∧
    (linkReset s).scanner = s.scanner ∧ (linkReset s).composer = s.composer ∧ (linkReset s).frames = s.frames ∧
    (linkReset s).measure = s.measure ∧ (linkReset s).light = s.light ∧ (linkReset s).lines = s.lines ∧
    (linkReset s).power = s.power ∧ (linkReset s).freeCount = s.freeCount := by simp [linkReset]

@[simp] theorem linkUp_keeps (s : State) :
    (linkUp s).pending = s.pending ∧ (linkUp s).mem = s.mem ∧ (linkUp s).exch = s.exch ∧
    (linkUp s).journal = s.journal ∧ (linkUp s).scanner = s.scanner ∧ (linkUp s).composer = s.composer ∧
    (linkUp s).profile = s.profile ∧ (linkUp s).picture = s.picture ∧ (linkUp s).frames = s.frames ∧
    (linkUp s).scanout = s.scanout ∧ (linkUp s).measure = s.measure ∧ (linkUp s).light = s.light ∧
    (linkUp s).lines = s.lines ∧ (linkUp s).power = s.power ∧ (linkUp s).freeCount = s.freeCount := by simp [linkUp]

end Sys2Proof.Machine
end

