-- ==== Sys2Proof/Laws/Fields.lean ====
section
/-! SUPPORT. Single fields that the operations keep inside a block they touch: Dock Time and the hold, the frame number, the
session, the number of slots, the link's settings, the line levels. -/

namespace Sys2Proof.Machine

@[simp] theorem sendMessage_fields (s : State) :
    (sendMessage s).link.up = s.link.up ∧ (sendMessage s).link.msiEnable = s.link.msiEnable ∧
    (sendMessage s).link.busMastering = s.link.busMastering ∧
    (sendMessage s).link.intxDisable = s.link.intxDisable ∧ (sendMessage s).link.intEnable = s.link.intEnable := by
  unfold sendMessage
  (repeat' split) <;> simp

@[simp] theorem raise_fields (c : Cause) (s : State) :
    (raise c s).exch.sessionOpen = s.exch.sessionOpen ∧ (raise c s).exch.sessionNo = s.exch.sessionNo ∧
    (raise c s).exch.slots.length = s.exch.slots.length ∧ (raise c s).link.up = s.link.up ∧
    (raise c s).link.msiEnable = s.link.msiEnable ∧ (raise c s).link.busMastering = s.link.busMastering ∧
    (raise c s).link.intxDisable = s.link.intxDisable ∧ (raise c s).link.intEnable = s.link.intEnable := by
  unfold raise
  dsimp only
  (repeat' split) <;> simp

@[simp] theorem acknowledge_fields (v : Word) (s : State) :
    (acknowledge v s).exch.sessionOpen = s.exch.sessionOpen ∧ (acknowledge v s).exch.sessionNo = s.exch.sessionNo ∧
    (acknowledge v s).exch.slots.length = s.exch.slots.length ∧ (acknowledge v s).link.up = s.link.up ∧
    (acknowledge v s).link.msiEnable = s.link.msiEnable ∧
    (acknowledge v s).link.busMastering = s.link.busMastering ∧
    (acknowledge v s).link.intxDisable = s.link.intxDisable ∧ (acknowledge v s).link.intEnable = s.link.intEnable := by
  unfold acknowledge
  dsimp only
  (repeat' split) <;> simp

@[simp] theorem setInterruptEnable_fields (on : Bool) (s : State) :
    (setInterruptEnable on s).link.up = s.link.up ∧ (setInterruptEnable on s).link.msiEnable = s.link.msiEnable ∧
    (setInterruptEnable on s).link.busMastering = s.link.busMastering ∧
    (setInterruptEnable on s).link.intxDisable = s.link.intxDisable := by
  unfold setInterruptEnable
  dsimp only
  (repeat' split) <;> simp

@[simp] theorem complete_fields (k : Fin 16) (n : Bool) (code : ResultCode) (fl : Byte) (c : Nat) (s : State) :
    (complete k n code fl c s).exch.sessionOpen = s.exch.sessionOpen ∧
    (complete k n code fl c s).exch.sessionNo = s.exch.sessionNo ∧
    (complete k n code fl c s).exch.slots.length = s.exch.slots.length ∧
    (complete k n code fl c s).link.up = s.link.up ∧ (complete k n code fl c s).link.msiEnable = s.link.msiEnable ∧
    (complete k n code fl c s).link.busMastering = s.link.busMastering ∧
    (complete k n code fl c s).link.intxDisable = s.link.intxDisable ∧
    (complete k n code fl c s).link.intEnable = s.link.intEnable := by
  unfold complete
  dsimp only
  (repeat' split) <;> simp

@[simp] theorem completeJob_fields (j : Job) (code : ResultCode) (fl : Byte) (c : Nat) (s : State) :
    (completeJob j code fl c s).exch.sessionOpen = s.exch.sessionOpen ∧
    (completeJob j code fl c s).exch.sessionNo = s.exch.sessionNo ∧
    (completeJob j code fl c s).exch.slots.length = s.exch.slots.length ∧
    (completeJob j code fl c s).link.up = s.link.up ∧
    (completeJob j code fl c s).link.msiEnable = s.link.msiEnable ∧
    (completeJob j code fl c s).link.busMastering = s.link.busMastering ∧
    (completeJob j code fl c s).link.intxDisable = s.link.intxDisable ∧
    (completeJob j code fl c s).link.intEnable = s.link.intEnable := by simp [completeJob]

@[simp] theorem testMark_fields (s : State) :
    (testMark s).exch.sessionOpen = s.exch.sessionOpen ∧ (testMark s).exch.sessionNo = s.exch.sessionNo ∧
    (testMark s).exch.slots.length = s.exch.slots.length ∧ (testMark s).link.up = s.link.up ∧
    (testMark s).link.msiEnable = s.link.msiEnable ∧ (testMark s).link.busMastering = s.link.busMastering ∧
    (testMark s).link.intxDisable = s.link.intxDisable ∧ (testMark s).link.intEnable = s.link.intEnable := by
  unfold testMark
  (repeat' split) <;> simp

@[simp] theorem advanceHead_fields (n : Nat) (s : State) :
    (advanceHead n s).exch.sessionOpen = s.exch.sessionOpen ∧ (advanceHead n s).exch.sessionNo = s.exch.sessionNo ∧
    (advanceHead n s).exch.slots.length = s.exch.slots.length ∧ (advanceHead n s).link.up = s.link.up ∧
    (advanceHead n s).link.msiEnable = s.link.msiEnable ∧
    (advanceHead n s).link.busMastering = s.link.busMastering ∧
    (advanceHead n s).link.intxDisable = s.link.intxDisable ∧ (advanceHead n s).link.intEnable = s.link.intEnable := by simp [advanceHead]

@[simp] theorem writeGroup_fields (s : State) :
    (writeGroup s).exch.sessionOpen = s.exch.sessionOpen ∧ (writeGroup s).exch.sessionNo = s.exch.sessionNo ∧
    (writeGroup s).exch.slots.length = s.exch.slots.length ∧ (writeGroup s).link.up = s.link.up ∧
    (writeGroup s).link.msiEnable = s.link.msiEnable ∧ (writeGroup s).link.busMastering = s.link.busMastering ∧
    (writeGroup s).link.intxDisable = s.link.intxDisable ∧ (writeGroup s).link.intEnable = s.link.intEnable := by simp [writeGroup]

@[simp] theorem recoveryTest_fields (s : State) :
    (recoveryTest s).exch.sessionOpen = s.exch.sessionOpen ∧ (recoveryTest s).exch.sessionNo = s.exch.sessionNo ∧
    (recoveryTest s).exch.slots.length = s.exch.slots.length ∧ (recoveryTest s).link.up = s.link.up ∧
    (recoveryTest s).link.msiEnable = s.link.msiEnable ∧ (recoveryTest s).link.busMastering = s.link.busMastering ∧
    (recoveryTest s).link.intxDisable = s.link.intxDisable ∧ (recoveryTest s).link.intEnable = s.link.intEnable := by
  unfold recoveryTest
  (repeat' split) <;> simp

@[simp] theorem handRecord_fields (r : Rec) (s : State) :
    (handRecord r s).exch.sessionOpen = s.exch.sessionOpen ∧ (handRecord r s).exch.sessionNo = s.exch.sessionNo ∧
    (handRecord r s).exch.slots.length = s.exch.slots.length ∧ (handRecord r s).link.up = s.link.up ∧
    (handRecord r s).link.msiEnable = s.link.msiEnable ∧ (handRecord r s).link.busMastering = s.link.busMastering ∧
    (handRecord r s).link.intxDisable = s.link.intxDisable ∧ (handRecord r s).link.intEnable = s.link.intEnable := by
  unfold handRecord
  (repeat' split) <;> simp

@[simp] theorem keyRecord_fields (k : RecordKind) (p : Fin 128) (fl : Byte) (d : Half) (s : State) :
    (keyRecord k p fl d s).exch.sessionOpen = s.exch.sessionOpen ∧
    (keyRecord k p fl d s).exch.sessionNo = s.exch.sessionNo ∧
    (keyRecord k p fl d s).exch.slots.length = s.exch.slots.length ∧ (keyRecord k p fl d s).link.up = s.link.up ∧
    (keyRecord k p fl d s).link.msiEnable = s.link.msiEnable ∧
    (keyRecord k p fl d s).link.busMastering = s.link.busMastering ∧
    (keyRecord k p fl d s).link.intxDisable = s.link.intxDisable ∧
    (keyRecord k p fl d s).link.intEnable = s.link.intEnable := by simp [keyRecord]

@[simp] theorem plainRecord_fields (k : RecordKind) (d : Half) (s : State) :
    (plainRecord k d s).exch.sessionOpen = s.exch.sessionOpen ∧
    (plainRecord k d s).exch.sessionNo = s.exch.sessionNo ∧
    (plainRecord k d s).exch.slots.length = s.exch.slots.length ∧ (plainRecord k d s).link.up = s.link.up ∧
    (plainRecord k d s).link.msiEnable = s.link.msiEnable ∧
    (plainRecord k d s).link.busMastering = s.link.busMastering ∧
    (plainRecord k d s).link.intxDisable = s.link.intxDisable ∧
    (plainRecord k d s).link.intEnable = s.link.intEnable := by simp [plainRecord]

@[simp] theorem wakeRecord_fields (w : WakeSource) (s : State) :
    (wakeRecord w s).exch.sessionOpen = s.exch.sessionOpen ∧ (wakeRecord w s).exch.sessionNo = s.exch.sessionNo ∧
    (wakeRecord w s).exch.slots.length = s.exch.slots.length ∧ (wakeRecord w s).link.up = s.link.up ∧
    (wakeRecord w s).link.msiEnable = s.link.msiEnable ∧ (wakeRecord w s).link.busMastering = s.link.busMastering ∧
    (wakeRecord w s).link.intxDisable = s.link.intxDisable ∧ (wakeRecord w s).link.intEnable = s.link.intEnable := by
  unfold wakeRecord
  (repeat' split) <;> simp

@[simp] theorem moveTaken_fields (v : Word) (s : State) :
    (moveTaken v s).exch.sessionOpen = s.exch.sessionOpen ∧ (moveTaken v s).exch.sessionNo = s.exch.sessionNo ∧
    (moveTaken v s).exch.slots.length = s.exch.slots.length ∧ (moveTaken v s).link.up = s.link.up ∧
    (moveTaken v s).link.msiEnable = s.link.msiEnable ∧ (moveTaken v s).link.busMastering = s.link.busMastering ∧
    (moveTaken v s).link.intxDisable = s.link.intxDisable ∧ (moveTaken v s).link.intEnable = s.link.intEnable := by
  unfold moveTaken
  dsimp only
  (repeat' split) <;> simp

@[simp] theorem takenWrite_fields (v : Word) (s : State) :
    (takenWrite v s).exch.sessionOpen = s.exch.sessionOpen ∧ (takenWrite v s).exch.sessionNo = s.exch.sessionNo ∧
    (takenWrite v s).exch.slots.length = s.exch.slots.length ∧ (takenWrite v s).link.up = s.link.up ∧
    (takenWrite v s).link.msiEnable = s.link.msiEnable ∧ (takenWrite v s).link.busMastering = s.link.busMastering ∧
    (takenWrite v s).link.intxDisable = s.link.intxDisable ∧ (takenWrite v s).link.intEnable = s.link.intEnable := by
  unfold takenWrite
  (repeat' split) <;> simp

@[simp] theorem markWrite_fields (m : Word) (s : State) :
    (markWrite m s).exch.sessionOpen = s.exch.sessionOpen ∧ (markWrite m s).exch.sessionNo = s.exch.sessionNo ∧
    (markWrite m s).exch.slots.length = s.exch.slots.length ∧ (markWrite m s).link.up = s.link.up ∧
    (markWrite m s).link.msiEnable = s.link.msiEnable ∧ (markWrite m s).link.busMastering = s.link.busMastering ∧
    (markWrite m s).link.intxDisable = s.link.intxDisable ∧ (markWrite m s).link.intEnable = s.link.intEnable := by
  unfold markWrite
  (repeat' split) <;> simp

@[simp] theorem journalOpen_fields (s : State) :
    (journalOpen s).exch.sessionOpen = s.exch.sessionOpen ∧ (journalOpen s).exch.sessionNo = s.exch.sessionNo ∧
    (journalOpen s).exch.slots.length = s.exch.slots.length ∧ (journalOpen s).link.up = s.link.up ∧
    (journalOpen s).link.msiEnable = s.link.msiEnable ∧ (journalOpen s).link.busMastering = s.link.busMastering ∧
    (journalOpen s).link.intxDisable = s.link.intxDisable ∧ (journalOpen s).link.intEnable = s.link.intEnable := by simp [journalOpen]

@[simp] theorem lingerActivity_fields (a : Activity) (s : State) :
    (lingerActivity a s).power.dockTime = s.power.dockTime ∧ (lingerActivity a s).power.held = s.power.held := by
  unfold lingerActivity
  (repeat' split) <;> simp

@[simp] theorem activity_fields (a : Activity) (s : State) :
    (activity a s).power.dockTime = s.power.dockTime ∧ (activity a s).power.held = s.power.held := by simp [activity]

@[simp] theorem finishPicture_fields (code : ResultCode) (s : State) :
    (finishPicture code s).exch.sessionOpen = s.exch.sessionOpen ∧
    (finishPicture code s).exch.sessionNo = s.exch.sessionNo ∧
    (finishPicture code s).exch.slots.length = s.exch.slots.length ∧ (finishPicture code s).link.up = s.link.up ∧
    (finishPicture code s).link.msiEnable = s.link.msiEnable ∧
    (finishPicture code s).link.busMastering = s.link.busMastering ∧
    (finishPicture code s).link.intxDisable = s.link.intxDisable ∧
    (finishPicture code s).link.intEnable = s.link.intEnable := by
  unfold finishPicture
  (repeat' split) <;> simp

@[simp] theorem failPicture_fields (s : State) :
    (failPicture s).exch.sessionOpen = s.exch.sessionOpen ∧ (failPicture s).exch.sessionNo = s.exch.sessionNo ∧
    (failPicture s).exch.slots.length = s.exch.slots.length ∧ (failPicture s).link.up = s.link.up ∧
    (failPicture s).link.msiEnable = s.link.msiEnable ∧ (failPicture s).link.busMastering = s.link.busMastering ∧
    (failPicture s).link.intxDisable = s.link.intxDisable ∧ (failPicture s).link.intEnable = s.link.intEnable := by
  unfold failPicture
  (repeat' split) <;> simp

@[simp] theorem issueReads_fields (rs : List ReadPlan) (s : State) :
    (issueReads rs s).exch.sessionOpen = s.exch.sessionOpen ∧ (issueReads rs s).exch.sessionNo = s.exch.sessionNo ∧
    (issueReads rs s).exch.slots.length = s.exch.slots.length ∧ (issueReads rs s).link.up = s.link.up ∧
    (issueReads rs s).link.msiEnable = s.link.msiEnable ∧
    (issueReads rs s).link.busMastering = s.link.busMastering ∧
    (issueReads rs s).link.intxDisable = s.link.intxDisable ∧ (issueReads rs s).link.intEnable = s.link.intEnable := by
  induction rs generalizing s with
  | nil => simp [issueReads]
  | cons r rs ih => unfold issueReads; (repeat' split) <;> simp [ih]

@[simp] theorem startHostFetch_fields (s : State) :
    (startHostFetch s).exch.sessionOpen = s.exch.sessionOpen ∧
    (startHostFetch s).exch.sessionNo = s.exch.sessionNo ∧
    (startHostFetch s).exch.slots.length = s.exch.slots.length ∧ (startHostFetch s).link.up = s.link.up ∧
    (startHostFetch s).link.msiEnable = s.link.msiEnable ∧
    (startHostFetch s).link.busMastering = s.link.busMastering ∧
    (startHostFetch s).link.intxDisable = s.link.intxDisable ∧ (startHostFetch s).link.intEnable = s.link.intEnable := by simp [startHostFetch]

@[simp] theorem beginRow_fields (s : State) :
    (beginRow s).exch.sessionOpen = s.exch.sessionOpen ∧ (beginRow s).exch.sessionNo = s.exch.sessionNo ∧
    (beginRow s).exch.slots.length = s.exch.slots.length ∧ (beginRow s).link.up = s.link.up ∧
    (beginRow s).link.msiEnable = s.link.msiEnable ∧ (beginRow s).link.busMastering = s.link.busMastering ∧
    (beginRow s).link.intxDisable = s.link.intxDisable ∧ (beginRow s).link.intEnable = s.link.intEnable := by
  unfold beginRow
  dsimp only
  (repeat' split) <;> simp

@[simp] theorem pictureBoundary_fields (s : State) :
    (pictureBoundary s).exch.sessionOpen = s.exch.sessionOpen ∧
    (pictureBoundary s).exch.sessionNo = s.exch.sessionNo ∧
    (pictureBoundary s).exch.slots.length = s.exch.slots.length ∧ (pictureBoundary s).link.up = s.link.up ∧
    (pictureBoundary s).link.msiEnable = s.link.msiEnable ∧
    (pictureBoundary s).link.busMastering = s.link.busMastering ∧
    (pictureBoundary s).link.intxDisable = s.link.intxDisable ∧
    (pictureBoundary s).link.intEnable = s.link.intEnable := by
  unfold pictureBoundary
  (repeat' split) <;> simp

@[simp] theorem resumePicture_fields (s : State) :
    (resumePicture s).exch.sessionOpen = s.exch.sessionOpen ∧ (resumePicture s).exch.sessionNo = s.exch.sessionNo ∧
    (resumePicture s).exch.slots.length = s.exch.slots.length ∧ (resumePicture s).link.up = s.link.up ∧
    (resumePicture s).link.msiEnable = s.link.msiEnable ∧
    (resumePicture s).link.busMastering = s.link.busMastering ∧
    (resumePicture s).link.intxDisable = s.link.intxDisable ∧ (resumePicture s).link.intEnable = s.link.intEnable := by
  unfold resumePicture
  (repeat' split) <;> simp

@[simp] theorem takeCompletion_fields (r : Read) (place : Nat) (d : List Byte) (s : State) :
    (takeCompletion r place d s).exch.sessionOpen = s.exch.sessionOpen ∧
    (takeCompletion r place d s).exch.sessionNo = s.exch.sessionNo ∧
    (takeCompletion r place d s).exch.slots.length = s.exch.slots.length ∧
    (takeCompletion r place d s).link.up = s.link.up ∧
    (takeCompletion r place d s).link.msiEnable = s.link.msiEnable ∧
    (takeCompletion r place d s).link.busMastering = s.link.busMastering ∧
    (takeCompletion r place d s).link.intxDisable = s.link.intxDisable ∧
    (takeCompletion r place d s).link.intEnable = s.link.intEnable := by
  unfold takeCompletion
  dsimp only
  (repeat' split) <;> simp

@[simp] theorem hostCompletion_fields (tag place : Nat) (d : List Byte) (er po : Bool) (s : State) :
    (hostCompletion tag place d er po s).exch.sessionOpen = s.exch.sessionOpen ∧
    (hostCompletion tag place d er po s).exch.sessionNo = s.exch.sessionNo ∧
    (hostCompletion tag place d er po s).exch.slots.length = s.exch.slots.length ∧
    (hostCompletion tag place d er po s).link.up = s.link.up ∧
    (hostCompletion tag place d er po s).link.msiEnable = s.link.msiEnable ∧
    (hostCompletion tag place d er po s).link.busMastering = s.link.busMastering ∧
    (hostCompletion tag place d er po s).link.intxDisable = s.link.intxDisable ∧
    (hostCompletion tag place d er po s).link.intEnable = s.link.intEnable := by
  unfold hostCompletion
  (repeat' split) <;> simp

@[simp] theorem hostTimeout_fields (tag : Nat) (s : State) :
    (hostTimeout tag s).exch.sessionOpen = s.exch.sessionOpen ∧
    (hostTimeout tag s).exch.sessionNo = s.exch.sessionNo ∧
    (hostTimeout tag s).exch.slots.length = s.exch.slots.length ∧ (hostTimeout tag s).link.up = s.link.up ∧
    (hostTimeout tag s).link.msiEnable = s.link.msiEnable ∧
    (hostTimeout tag s).link.busMastering = s.link.busMastering ∧
    (hostTimeout tag s).link.intxDisable = s.link.intxDisable ∧
    (hostTimeout tag s).link.intEnable = s.link.intEnable := by
  unfold hostTimeout
  (repeat' split) <;> simp

@[simp] theorem rowWritten_fields (s : State) :
    (rowWritten s).exch.sessionOpen = s.exch.sessionOpen ∧ (rowWritten s).exch.sessionNo = s.exch.sessionNo ∧
    (rowWritten s).exch.slots.length = s.exch.slots.length ∧ (rowWritten s).link.up = s.link.up ∧
    (rowWritten s).link.msiEnable = s.link.msiEnable ∧ (rowWritten s).link.busMastering = s.link.busMastering ∧
    (rowWritten s).link.intxDisable = s.link.intxDisable ∧ (rowWritten s).link.intEnable = s.link.intEnable := by
  unfold rowWritten
  dsimp only
  (repeat' split) <;> simp

@[simp] theorem startPicture_fields (j : Job) (fill : Bool) (s : State) :
    (startPicture j fill s).exch.sessionOpen = s.exch.sessionOpen ∧
    (startPicture j fill s).exch.sessionNo = s.exch.sessionNo ∧
    (startPicture j fill s).exch.slots.length = s.exch.slots.length ∧ (startPicture j fill s).link.up = s.link.up ∧
    (startPicture j fill s).link.msiEnable = s.link.msiEnable ∧
    (startPicture j fill s).link.busMastering = s.link.busMastering ∧
    (startPicture j fill s).link.intxDisable = s.link.intxDisable ∧
    (startPicture j fill s).link.intEnable = s.link.intEnable := by
  unfold startPicture
  dsimp only
  (repeat' split) <;> simp

@[simp] theorem takePicture_fields (j : Job) (fill : Bool) (s : State) :
    (takePicture j fill s).exch.sessionOpen = s.exch.sessionOpen ∧
    (takePicture j fill s).exch.sessionNo = s.exch.sessionNo ∧
    (takePicture j fill s).exch.slots.length = s.exch.slots.length ∧ (takePicture j fill s).link.up = s.link.up ∧
    (takePicture j fill s).link.msiEnable = s.link.msiEnable ∧
    (takePicture j fill s).link.busMastering = s.link.busMastering ∧
    (takePicture j fill s).link.intxDisable = s.link.intxDisable ∧
    (takePicture j fill s).link.intEnable = s.link.intEnable := by
  unfold takePicture
  (repeat' split) <;> simp

@[simp] theorem finishPresent_fields (code : ResultCode) (n : Nat) (s : State) :
    (finishPresent code n s).power.dockTime = s.power.dockTime ∧
    (finishPresent code n s).power.held = s.power.held ∧ (finishPresent code n s).scanout.frame = s.scanout.frame ∧
    (finishPresent code n s).exch.sessionOpen = s.exch.sessionOpen ∧
    (finishPresent code n s).exch.sessionNo = s.exch.sessionNo ∧
    (finishPresent code n s).exch.slots.length = s.exch.slots.length ∧
    (finishPresent code n s).link.up = s.link.up ∧ (finishPresent code n s).link.msiEnable = s.link.msiEnable ∧
    (finishPresent code n s).link.busMastering = s.link.busMastering ∧
    (finishPresent code n s).link.intxDisable = s.link.intxDisable ∧
    (finishPresent code n s).link.intEnable = s.link.intEnable := by
  unfold finishPresent
  dsimp only
  (repeat' split) <;> simp

@[simp] theorem carryBoundary_fields (c : Carry) (s : State) :
    (carryBoundary c s).power.dockTime = s.power.dockTime ∧ (carryBoundary c s).power.held = s.power.held ∧
    (carryBoundary c s).scanout.frame = s.scanout.frame ∧
    (carryBoundary c s).exch.sessionOpen = s.exch.sessionOpen ∧
    (carryBoundary c s).exch.sessionNo = s.exch.sessionNo ∧
    (carryBoundary c s).exch.slots.length = s.exch.slots.length ∧ (carryBoundary c s).link.up = s.link.up ∧
    (carryBoundary c s).link.msiEnable = s.link.msiEnable ∧
    (carryBoundary c s).link.busMastering = s.link.busMastering ∧
    (carryBoundary c s).link.intxDisable = s.link.intxDisable ∧
    (carryBoundary c s).link.intEnable = s.link.intEnable := by
  unfold carryBoundary
  dsimp only
  (repeat' split) <;> simp

@[simp] theorem carryRowDone_fields (s : State) :
    (carryRowDone s).power.dockTime = s.power.dockTime ∧ (carryRowDone s).power.held = s.power.held ∧
    (carryRowDone s).scanout.frame = s.scanout.frame ∧ (carryRowDone s).exch.sessionOpen = s.exch.sessionOpen ∧
    (carryRowDone s).exch.sessionNo = s.exch.sessionNo ∧ (carryRowDone s).exch.slots.length = s.exch.slots.length ∧
    (carryRowDone s).link.up = s.link.up ∧ (carryRowDone s).link.msiEnable = s.link.msiEnable ∧
    (carryRowDone s).link.busMastering = s.link.busMastering ∧
    (carryRowDone s).link.intxDisable = s.link.intxDisable ∧ (carryRowDone s).link.intEnable = s.link.intEnable := by
  unfold carryRowDone
  (repeat' split) <;> simp

@[simp] theorem resumeCarry_fields (s : State) :
    (resumeCarry s).power.dockTime = s.power.dockTime ∧ (resumeCarry s).power.held = s.power.held ∧
    (resumeCarry s).scanout.frame = s.scanout.frame ∧ (resumeCarry s).exch.sessionOpen = s.exch.sessionOpen ∧
    (resumeCarry s).exch.sessionNo = s.exch.sessionNo ∧ (resumeCarry s).exch.slots.length = s.exch.slots.length ∧
    (resumeCarry s).link.up = s.link.up ∧ (resumeCarry s).link.msiEnable = s.link.msiEnable ∧
    (resumeCarry s).link.busMastering = s.link.busMastering ∧
    (resumeCarry s).link.intxDisable = s.link.intxDisable ∧ (resumeCarry s).link.intEnable = s.link.intEnable := by
  unfold resumeCarry
  (repeat' split) <;> simp

@[simp] theorem swap_fields (c : Bool) (s : State) :
    (swap c s).power.dockTime = s.power.dockTime ∧ (swap c s).power.held = s.power.held ∧
    (swap c s).scanout.frame = s.scanout.frame ∧ (swap c s).exch.sessionOpen = s.exch.sessionOpen ∧
    (swap c s).exch.sessionNo = s.exch.sessionNo ∧ (swap c s).exch.slots.length = s.exch.slots.length ∧
    (swap c s).link.up = s.link.up ∧ (swap c s).link.msiEnable = s.link.msiEnable ∧
    (swap c s).link.busMastering = s.link.busMastering ∧ (swap c s).link.intxDisable = s.link.intxDisable ∧
    (swap c s).link.intEnable = s.link.intEnable := by
  unfold swap
  dsimp only
  (repeat' split) <;> simp

@[simp] theorem swapWaiting_fields (s : State) :
    (swapWaiting s).power.dockTime = s.power.dockTime ∧ (swapWaiting s).power.held = s.power.held ∧
    (swapWaiting s).scanout.frame = s.scanout.frame ∧ (swapWaiting s).exch.sessionOpen = s.exch.sessionOpen ∧
    (swapWaiting s).exch.sessionNo = s.exch.sessionNo ∧ (swapWaiting s).exch.slots.length = s.exch.slots.length ∧
    (swapWaiting s).link.up = s.link.up ∧ (swapWaiting s).link.msiEnable = s.link.msiEnable ∧
    (swapWaiting s).link.busMastering = s.link.busMastering ∧
    (swapWaiting s).link.intxDisable = s.link.intxDisable ∧ (swapWaiting s).link.intEnable = s.link.intEnable := by
  unfold swapWaiting
  (repeat' split) <;> simp

@[simp] theorem takePresent_fields (j : Job) (s : State) :
    (takePresent j s).power.dockTime = s.power.dockTime ∧ (takePresent j s).power.held = s.power.held ∧
    (takePresent j s).scanout.frame = s.scanout.frame ∧ (takePresent j s).exch.sessionOpen = s.exch.sessionOpen ∧
    (takePresent j s).exch.sessionNo = s.exch.sessionNo ∧
    (takePresent j s).exch.slots.length = s.exch.slots.length ∧ (takePresent j s).link.up = s.link.up ∧
    (takePresent j s).link.msiEnable = s.link.msiEnable ∧
    (takePresent j s).link.busMastering = s.link.busMastering ∧
    (takePresent j s).link.intxDisable = s.link.intxDisable ∧ (takePresent j s).link.intEnable = s.link.intEnable := by
  unfold takePresent
  dsimp only
  (repeat' split) <;> simp

@[simp] theorem stopCarry_fields (s : State) :
    (stopCarry s).scanout.frame = s.scanout.frame := by
  unfold stopCarry
  (repeat' split) <;> simp

@[simp] theorem stopPanel_fields (st : Stage) (s : State) :
    (stopPanel st s).power.dockTime = s.power.dockTime ∧ (stopPanel st s).power.held = s.power.held ∧
    (stopPanel st s).scanout.frame = s.scanout.frame ∧ (stopPanel st s).exch.sessionOpen = s.exch.sessionOpen ∧
    (stopPanel st s).exch.sessionNo = s.exch.sessionNo ∧ (stopPanel st s).exch.slots.length = s.exch.slots.length ∧
    (stopPanel st s).link.up = s.link.up ∧ (stopPanel st s).link.msiEnable = s.link.msiEnable ∧
    (stopPanel st s).link.busMastering = s.link.busMastering ∧
    (stopPanel st s).link.intxDisable = s.link.intxDisable ∧ (stopPanel st s).link.intEnable = s.link.intEnable := by simp [stopPanel]

@[simp] theorem startPanel_fields (s : State) :
    (startPanel s).scanout.frame = s.scanout.frame := by simp [startPanel]

@[simp] theorem panelTest_fields (s : State) :
    (panelTest s).power.dockTime = s.power.dockTime ∧ (panelTest s).power.held = s.power.held ∧
    (panelTest s).scanout.frame = s.scanout.frame ∧ (panelTest s).exch.sessionOpen = s.exch.sessionOpen ∧
    (panelTest s).exch.sessionNo = s.exch.sessionNo ∧ (panelTest s).exch.slots.length = s.exch.slots.length ∧
    (panelTest s).link.up = s.link.up ∧ (panelTest s).link.msiEnable = s.link.msiEnable ∧
    (panelTest s).link.busMastering = s.link.busMastering ∧ (panelTest s).link.intxDisable = s.link.intxDisable ∧
    (panelTest s).link.intEnable = s.link.intEnable := by
  unfold panelTest
  (repeat' split) <;> simp

@[simp] theorem finishPanel_fields (wish : Bool) (s : State) :
    (finishPanel wish s).exch.sessionOpen = s.exch.sessionOpen ∧
    (finishPanel wish s).exch.sessionNo = s.exch.sessionNo ∧
    (finishPanel wish s).exch.slots.length = s.exch.slots.length ∧ (finishPanel wish s).link.up = s.link.up ∧
    (finishPanel wish s).link.msiEnable = s.link.msiEnable ∧
    (finishPanel wish s).link.busMastering = s.link.busMastering ∧
    (finishPanel wish s).link.intxDisable = s.link.intxDisable ∧
    (finishPanel wish s).link.intEnable = s.link.intEnable := by
  unfold finishPanel
  (repeat' split) <;> simp

@[simp] theorem panelOn_fields (s : State) :
    (panelOn s).scanout.frame = s.scanout.frame ∧ (panelOn s).exch.sessionOpen = s.exch.sessionOpen ∧
    (panelOn s).exch.sessionNo = s.exch.sessionNo ∧ (panelOn s).exch.slots.length = s.exch.slots.length ∧
    (panelOn s).link.up = s.link.up ∧ (panelOn s).link.msiEnable = s.link.msiEnable ∧
    (panelOn s).link.busMastering = s.link.busMastering ∧ (panelOn s).link.intxDisable = s.link.intxDisable ∧
    (panelOn s).link.intEnable = s.link.intEnable := by simp [panelOn]

@[simp] theorem panelOff_fields (s : State) :
    (panelOff s).power.dockTime = s.power.dockTime ∧ (panelOff s).power.held = s.power.held ∧
    (panelOff s).scanout.frame = s.scanout.frame ∧ (panelOff s).exch.sessionOpen = s.exch.sessionOpen ∧
    (panelOff s).exch.sessionNo = s.exch.sessionNo ∧ (panelOff s).exch.slots.length = s.exch.slots.length ∧
    (panelOff s).link.up = s.link.up ∧ (panelOff s).link.msiEnable = s.link.msiEnable ∧
    (panelOff s).link.busMastering = s.link.busMastering ∧ (panelOff s).link.intxDisable = s.link.intxDisable ∧
    (panelOff s).link.intEnable = s.link.intEnable := by simp [panelOff]

@[simp] theorem stageExpiry_fields (s : State) :
    (stageExpiry s).power.dockTime = s.power.dockTime ∧ (stageExpiry s).power.held = s.power.held ∧
    (stageExpiry s).scanout.frame = s.scanout.frame ∧ (stageExpiry s).exch.sessionOpen = s.exch.sessionOpen ∧
    (stageExpiry s).exch.sessionNo = s.exch.sessionNo ∧ (stageExpiry s).exch.slots.length = s.exch.slots.length ∧
    (stageExpiry s).link.up = s.link.up ∧ (stageExpiry s).link.msiEnable = s.link.msiEnable ∧
    (stageExpiry s).link.busMastering = s.link.busMastering ∧
    (stageExpiry s).link.intxDisable = s.link.intxDisable ∧ (stageExpiry s).link.intEnable = s.link.intEnable := by
  unfold stageExpiry
  (repeat' split) <;> simp

@[simp] theorem verticalBlank_fields (s : State) :
    (verticalBlank s).power.dockTime = s.power.dockTime ∧ (verticalBlank s).power.held = s.power.held ∧
    (verticalBlank s).exch.sessionOpen = s.exch.sessionOpen ∧ (verticalBlank s).exch.sessionNo = s.exch.sessionNo ∧
    (verticalBlank s).exch.slots.length = s.exch.slots.length ∧ (verticalBlank s).link.up = s.link.up ∧
    (verticalBlank s).link.msiEnable = s.link.msiEnable ∧
    (verticalBlank s).link.busMastering = s.link.busMastering ∧
    (verticalBlank s).link.intxDisable = s.link.intxDisable ∧ (verticalBlank s).link.intEnable = s.link.intEnable := by
  unfold verticalBlank
  (repeat' split) <;> simp

@[simp] theorem enterStandby_fields (s : State) :
    (enterStandby s).power.dockTime = s.power.dockTime ∧ (enterStandby s).power.held = s.power.held ∧
    (enterStandby s).scanout.frame = s.scanout.frame ∧ (enterStandby s).exch.sessionOpen = s.exch.sessionOpen ∧
    (enterStandby s).exch.sessionNo = s.exch.sessionNo ∧ (enterStandby s).exch.slots.length = s.exch.slots.length ∧
    (enterStandby s).link.up = s.link.up ∧ (enterStandby s).link.msiEnable = s.link.msiEnable ∧
    (enterStandby s).link.busMastering = s.link.busMastering ∧
    (enterStandby s).link.intxDisable = s.link.intxDisable ∧ (enterStandby s).link.intEnable = s.link.intEnable := by simp [enterStandby]

@[simp] theorem resumePictures_fields (s : State) :
    (resumePictures s).power.dockTime = s.power.dockTime ∧ (resumePictures s).power.held = s.power.held ∧
    (resumePictures s).scanout.frame = s.scanout.frame ∧ (resumePictures s).exch.sessionOpen = s.exch.sessionOpen ∧
    (resumePictures s).exch.sessionNo = s.exch.sessionNo ∧
    (resumePictures s).exch.slots.length = s.exch.slots.length ∧ (resumePictures s).link.up = s.link.up ∧
    (resumePictures s).link.msiEnable = s.link.msiEnable ∧
    (resumePictures s).link.busMastering = s.link.busMastering ∧
    (resumePictures s).link.intxDisable = s.link.intxDisable ∧ (resumePictures s).link.intEnable = s.link.intEnable := by simp [resumePictures]

@[simp] theorem wake_fields (w : WakeSource) (s : State) :
    (wake w s).power.dockTime = s.power.dockTime ∧ (wake w s).power.held = s.power.held ∧
    (wake w s).scanout.frame = s.scanout.frame ∧ (wake w s).exch.sessionOpen = s.exch.sessionOpen ∧
    (wake w s).exch.sessionNo = s.exch.sessionNo ∧ (wake w s).exch.slots.length = s.exch.slots.length ∧
    (wake w s).link.up = s.link.up ∧ (wake w s).link.msiEnable = s.link.msiEnable ∧
    (wake w s).link.busMastering = s.link.busMastering ∧ (wake w s).link.intxDisable = s.link.intxDisable ∧
    (wake w s).link.intEnable = s.link.intEnable := by
  unfold wake
  dsimp only
  (repeat' split) <;> simp

@[simp] theorem wakeSource_fields (w : WakeSource) (s : State) :
    (wakeSource w s).power.dockTime = s.power.dockTime ∧ (wakeSource w s).power.held = s.power.held ∧
    (wakeSource w s).scanout.frame = s.scanout.frame ∧ (wakeSource w s).exch.sessionOpen = s.exch.sessionOpen ∧
    (wakeSource w s).exch.sessionNo = s.exch.sessionNo ∧ (wakeSource w s).exch.slots.length = s.exch.slots.length ∧
    (wakeSource w s).link.up = s.link.up ∧ (wakeSource w s).link.msiEnable = s.link.msiEnable ∧
    (wakeSource w s).link.busMastering = s.link.busMastering ∧
    (wakeSource w s).link.intxDisable = s.link.intxDisable ∧ (wakeSource w s).link.intEnable = s.link.intEnable := by
  unfold wakeSource
  (repeat' split) <;> simp

@[simp] theorem ignitionOn_fields (s : State) :
    (ignitionOn s).power.dockTime = s.power.dockTime ∧ (ignitionOn s).power.held = s.power.held ∧
    (ignitionOn s).scanout.frame = s.scanout.frame ∧ (ignitionOn s).exch.sessionOpen = s.exch.sessionOpen ∧
    (ignitionOn s).exch.sessionNo = s.exch.sessionNo ∧ (ignitionOn s).exch.slots.length = s.exch.slots.length ∧
    (ignitionOn s).link.up = s.link.up ∧ (ignitionOn s).link.msiEnable = s.link.msiEnable ∧
    (ignitionOn s).link.busMastering = s.link.busMastering ∧ (ignitionOn s).link.intxDisable = s.link.intxDisable ∧
    (ignitionOn s).link.intEnable = s.link.intEnable := by simp [ignitionOn]

@[simp] theorem ignitionOff_fields (s : State) :
    (ignitionOff s).power.dockTime = s.power.dockTime ∧ (ignitionOff s).power.held = s.power.held ∧
    (ignitionOff s).scanout.frame = s.scanout.frame ∧ (ignitionOff s).exch.sessionOpen = s.exch.sessionOpen ∧
    (ignitionOff s).exch.sessionNo = s.exch.sessionNo ∧ (ignitionOff s).exch.slots.length = s.exch.slots.length ∧
    (ignitionOff s).link.up = s.link.up ∧ (ignitionOff s).link.msiEnable = s.link.msiEnable ∧
    (ignitionOff s).link.busMastering = s.link.busMastering ∧
    (ignitionOff s).link.intxDisable = s.link.intxDisable ∧ (ignitionOff s).link.intEnable = s.link.intEnable := by
  unfold ignitionOff
  (repeat' split) <;> simp

@[simp] theorem lingerRetime_fields (s : State) :
    (lingerRetime s).power.dockTime = s.power.dockTime ∧ (lingerRetime s).power.held = s.power.held ∧
    (lingerRetime s).scanout.frame = s.scanout.frame ∧ (lingerRetime s).exch.sessionOpen = s.exch.sessionOpen ∧
    (lingerRetime s).exch.sessionNo = s.exch.sessionNo ∧ (lingerRetime s).exch.slots.length = s.exch.slots.length ∧
    (lingerRetime s).link.up = s.link.up ∧ (lingerRetime s).link.msiEnable = s.link.msiEnable ∧
    (lingerRetime s).link.busMastering = s.link.busMastering ∧
    (lingerRetime s).link.intxDisable = s.link.intxDisable ∧ (lingerRetime s).link.intEnable = s.link.intEnable := by
  unfold lingerRetime
  (repeat' split) <;> simp

@[simp] theorem lingerExpiry_fields (s : State) :
    (lingerExpiry s).power.dockTime = s.power.dockTime ∧ (lingerExpiry s).power.held = s.power.held ∧
    (lingerExpiry s).scanout.frame = s.scanout.frame ∧ (lingerExpiry s).exch.sessionOpen = s.exch.sessionOpen ∧
    (lingerExpiry s).exch.sessionNo = s.exch.sessionNo ∧ (lingerExpiry s).exch.slots.length = s.exch.slots.length ∧
    (lingerExpiry s).link.up = s.link.up ∧ (lingerExpiry s).link.msiEnable = s.link.msiEnable ∧
    (lingerExpiry s).link.busMastering = s.link.busMastering ∧
    (lingerExpiry s).link.intxDisable = s.link.intxDisable ∧ (lingerExpiry s).link.intEnable = s.link.intEnable := by
  unfold lingerExpiry
  (repeat' split) <;> simp

@[simp] theorem bandRecord_fields (o n : Band) (s : State) :
    (bandRecord o n s).exch.sessionOpen = s.exch.sessionOpen ∧
    (bandRecord o n s).exch.sessionNo = s.exch.sessionNo ∧
    (bandRecord o n s).exch.slots.length = s.exch.slots.length ∧ (bandRecord o n s).link.up = s.link.up ∧
    (bandRecord o n s).link.msiEnable = s.link.msiEnable ∧
    (bandRecord o n s).link.busMastering = s.link.busMastering ∧
    (bandRecord o n s).link.intxDisable = s.link.intxDisable ∧ (bandRecord o n s).link.intEnable = s.link.intEnable := by
  unfold bandRecord
  (repeat' split) <;> simp

@[simp] theorem changeBand_fields (n : Band) (s : State) :
    (changeBand n s).power.dockTime = s.power.dockTime ∧ (changeBand n s).power.held = s.power.held ∧
    (changeBand n s).scanout.frame = s.scanout.frame ∧ (changeBand n s).exch.sessionOpen = s.exch.sessionOpen ∧
    (changeBand n s).exch.sessionNo = s.exch.sessionNo ∧ (changeBand n s).exch.slots.length = s.exch.slots.length ∧
    (changeBand n s).link.up = s.link.up ∧ (changeBand n s).link.msiEnable = s.link.msiEnable ∧
    (changeBand n s).link.busMastering = s.link.busMastering ∧
    (changeBand n s).link.intxDisable = s.link.intxDisable ∧ (changeBand n s).link.intEnable = s.link.intEnable := by simp [changeBand]

@[simp] theorem sample_fields (mv : Nat) (s : State) :
    (sample mv s).power.dockTime = s.power.dockTime ∧ (sample mv s).power.held = s.power.held ∧
    (sample mv s).scanout.frame = s.scanout.frame ∧ (sample mv s).exch.sessionOpen = s.exch.sessionOpen ∧
    (sample mv s).exch.sessionNo = s.exch.sessionNo ∧ (sample mv s).exch.slots.length = s.exch.slots.length ∧
    (sample mv s).link.up = s.link.up ∧ (sample mv s).link.msiEnable = s.link.msiEnable ∧
    (sample mv s).link.busMastering = s.link.busMastering ∧ (sample mv s).link.intxDisable = s.link.intxDisable ∧
    (sample mv s).link.intEnable = s.link.intEnable := by
  unfold sample
  dsimp only
  (repeat' split) <;> simp

@[simp] theorem pressSuppressed_fields (p : Fin 128) (s : State) :
    (pressSuppressed p s).exch.sessionOpen = s.exch.sessionOpen ∧
    (pressSuppressed p s).exch.sessionNo = s.exch.sessionNo ∧
    (pressSuppressed p s).exch.slots.length = s.exch.slots.length ∧ (pressSuppressed p s).link.up = s.link.up ∧
    (pressSuppressed p s).link.msiEnable = s.link.msiEnable ∧
    (pressSuppressed p s).link.busMastering = s.link.busMastering ∧
    (pressSuppressed p s).link.intxDisable = s.link.intxDisable ∧
    (pressSuppressed p s).link.intEnable = s.link.intEnable := by simp [pressSuppressed]

@[simp] theorem pressRollover_fields (p : Fin 128) (s : State) :
    (pressRollover p s).exch.sessionOpen = s.exch.sessionOpen ∧
    (pressRollover p s).exch.sessionNo = s.exch.sessionNo ∧
    (pressRollover p s).exch.slots.length = s.exch.slots.length ∧ (pressRollover p s).link.up = s.link.up ∧
    (pressRollover p s).link.msiEnable = s.link.msiEnable ∧
    (pressRollover p s).link.busMastering = s.link.busMastering ∧
    (pressRollover p s).link.intxDisable = s.link.intxDisable ∧
    (pressRollover p s).link.intEnable = s.link.intEnable := by simp [pressRollover]

@[simp] theorem pressOrdinary_fields (p : Fin 128) (s : State) :
    (pressOrdinary p s).exch.sessionOpen = s.exch.sessionOpen ∧
    (pressOrdinary p s).exch.sessionNo = s.exch.sessionNo ∧
    (pressOrdinary p s).exch.slots.length = s.exch.slots.length ∧ (pressOrdinary p s).link.up = s.link.up ∧
    (pressOrdinary p s).link.msiEnable = s.link.msiEnable ∧
    (pressOrdinary p s).link.busMastering = s.link.busMastering ∧
    (pressOrdinary p s).link.intxDisable = s.link.intxDisable ∧
    (pressOrdinary p s).link.intEnable = s.link.intEnable := by simp [pressOrdinary]

@[simp] theorem pressAwake_fields (p : Fin 128) (s : State) :
    (pressAwake p s).exch.sessionOpen = s.exch.sessionOpen ∧ (pressAwake p s).exch.sessionNo = s.exch.sessionNo ∧
    (pressAwake p s).exch.slots.length = s.exch.slots.length ∧ (pressAwake p s).link.up = s.link.up ∧
    (pressAwake p s).link.msiEnable = s.link.msiEnable ∧ (pressAwake p s).link.busMastering = s.link.busMastering ∧
    (pressAwake p s).link.intxDisable = s.link.intxDisable ∧ (pressAwake p s).link.intEnable = s.link.intEnable := by
  unfold pressAwake
  (repeat' split) <;> simp

@[simp] theorem pressCases_fields (p : Fin 128) (s : State) :
    (pressCases p s).power.dockTime = s.power.dockTime ∧ (pressCases p s).power.held = s.power.held ∧
    (pressCases p s).scanout.frame = s.scanout.frame ∧ (pressCases p s).exch.sessionOpen = s.exch.sessionOpen ∧
    (pressCases p s).exch.sessionNo = s.exch.sessionNo ∧ (pressCases p s).exch.slots.length = s.exch.slots.length ∧
    (pressCases p s).link.up = s.link.up ∧ (pressCases p s).link.msiEnable = s.link.msiEnable ∧
    (pressCases p s).link.busMastering = s.link.busMastering ∧
    (pressCases p s).link.intxDisable = s.link.intxDisable ∧ (pressCases p s).link.intEnable = s.link.intEnable := by
  unfold pressCases
  dsimp only
  (repeat' split) <;> simp

@[simp] theorem pressActivity_fields (f : State) (s : State) :
    (pressActivity f s).power.dockTime = s.power.dockTime ∧ (pressActivity f s).power.held = s.power.held ∧
    (pressActivity f s).scanout.frame = s.scanout.frame ∧
    (pressActivity f s).exch.sessionOpen = s.exch.sessionOpen ∧
    (pressActivity f s).exch.sessionNo = s.exch.sessionNo ∧
    (pressActivity f s).exch.slots.length = s.exch.slots.length ∧ (pressActivity f s).link.up = s.link.up ∧
    (pressActivity f s).link.msiEnable = s.link.msiEnable ∧
    (pressActivity f s).link.busMastering = s.link.busMastering ∧
    (pressActivity f s).link.intxDisable = s.link.intxDisable ∧
    (pressActivity f s).link.intEnable = s.link.intEnable := by
  unfold pressActivity
  dsimp only
  (repeat' split) <;> simp

@[simp] theorem press_fields (p : Fin 128) (s : State) :
    (press p s).power.dockTime = s.power.dockTime ∧ (press p s).power.held = s.power.held ∧
    (press p s).scanout.frame = s.scanout.frame ∧ (press p s).exch.sessionOpen = s.exch.sessionOpen ∧
    (press p s).exch.sessionNo = s.exch.sessionNo ∧ (press p s).exch.slots.length = s.exch.slots.length ∧
    (press p s).link.up = s.link.up ∧ (press p s).link.msiEnable = s.link.msiEnable ∧
    (press p s).link.busMastering = s.link.busMastering ∧ (press p s).link.intxDisable = s.link.intxDisable ∧
    (press p s).link.intEnable = s.link.intEnable := by
  unfold press
  (repeat' split) <;> simp

@[simp] theorem release_fields (p : Fin 128) (s : State) :
    (release p s).exch.sessionOpen = s.exch.sessionOpen ∧ (release p s).exch.sessionNo = s.exch.sessionNo ∧
    (release p s).exch.slots.length = s.exch.slots.length ∧ (release p s).link.up = s.link.up ∧
    (release p s).link.msiEnable = s.link.msiEnable ∧ (release p s).link.busMastering = s.link.busMastering ∧
    (release p s).link.intxDisable = s.link.intxDisable ∧ (release p s).link.intEnable = s.link.intEnable := by
  unfold release
  dsimp only
  (repeat' split) <;> simp

@[simp] theorem holdTest_fields (p : Fin 128) (s : State) :
    (holdTest p s).exch.sessionOpen = s.exch.sessionOpen ∧ (holdTest p s).exch.sessionNo = s.exch.sessionNo ∧
    (holdTest p s).exch.slots.length = s.exch.slots.length ∧ (holdTest p s).link.up = s.link.up ∧
    (holdTest p s).link.msiEnable = s.link.msiEnable ∧ (holdTest p s).link.busMastering = s.link.busMastering ∧
    (holdTest p s).link.intxDisable = s.link.intxDisable ∧ (holdTest p s).link.intEnable = s.link.intEnable := by
  unfold holdTest
  dsimp only
  (repeat' split) <;> simp

@[simp] theorem stuckTest_fields (p : Fin 128) (s : State) :
    (stuckTest p s).exch.sessionOpen = s.exch.sessionOpen ∧ (stuckTest p s).exch.sessionNo = s.exch.sessionNo ∧
    (stuckTest p s).exch.slots.length = s.exch.slots.length ∧ (stuckTest p s).link.up = s.link.up ∧
    (stuckTest p s).link.msiEnable = s.link.msiEnable ∧ (stuckTest p s).link.busMastering = s.link.busMastering ∧
    (stuckTest p s).link.intxDisable = s.link.intxDisable ∧ (stuckTest p s).link.intEnable = s.link.intEnable := by
  unfold stuckTest
  dsimp only
  (repeat' split) <;> simp

@[simp] theorem advanceKey_fields (p : Fin 128) (s : State) :
    (advanceKey p s).exch.sessionOpen = s.exch.sessionOpen ∧ (advanceKey p s).exch.sessionNo = s.exch.sessionNo ∧
    (advanceKey p s).exch.slots.length = s.exch.slots.length ∧ (advanceKey p s).link.up = s.link.up ∧
    (advanceKey p s).link.msiEnable = s.link.msiEnable ∧ (advanceKey p s).link.busMastering = s.link.busMastering ∧
    (advanceKey p s).link.intxDisable = s.link.intxDisable ∧ (advanceKey p s).link.intEnable = s.link.intEnable := by simp [advanceKey]

@[simp] theorem advanceDownTimes_fields (s : State) :
    (advanceDownTimes s).exch.sessionOpen = s.exch.sessionOpen ∧
    (advanceDownTimes s).exch.sessionNo = s.exch.sessionNo ∧
    (advanceDownTimes s).exch.slots.length = s.exch.slots.length ∧ (advanceDownTimes s).link.up = s.link.up ∧
    (advanceDownTimes s).link.msiEnable = s.link.msiEnable ∧
    (advanceDownTimes s).link.busMastering = s.link.busMastering ∧
    (advanceDownTimes s).link.intxDisable = s.link.intxDisable ∧
    (advanceDownTimes s).link.intEnable = s.link.intEnable := by
  unfold advanceDownTimes
  exact ⟨foldl_keeps _ (fun s : State => s.exch.sessionOpen) (by simp) _ _,
    foldl_keeps _ (fun s : State => s.exch.sessionNo) (by simp) _ _,
    foldl_keeps _ (fun s : State => s.exch.slots.length) (by simp) _ _,
    foldl_keeps _ (fun s : State => s.link.up) (by simp) _ _,
    foldl_keeps _ (fun s : State => s.link.msiEnable) (by simp) _ _,
    foldl_keeps _ (fun s : State => s.link.busMastering) (by simp) _ _,
    foldl_keeps _ (fun s : State => s.link.intxDisable) (by simp) _ _,
    foldl_keeps _ (fun s : State => s.link.intEnable) (by simp) _ _⟩

@[simp] theorem repeatFires_fields (s : State) :
    (repeatFires s).exch.sessionOpen = s.exch.sessionOpen ∧ (repeatFires s).exch.sessionNo = s.exch.sessionNo ∧
    (repeatFires s).exch.slots.length = s.exch.slots.length ∧ (repeatFires s).link.up = s.link.up ∧
    (repeatFires s).link.msiEnable = s.link.msiEnable ∧ (repeatFires s).link.busMastering = s.link.busMastering ∧
    (repeatFires s).link.intxDisable = s.link.intxDisable ∧ (repeatFires s).link.intEnable = s.link.intEnable := by
  unfold repeatFires
  dsimp only
  (repeat' split) <;> simp

@[simp] theorem profileFails_fields (j : Job) (s : State) :
    (profileFails j s).exch.sessionOpen = s.exch.sessionOpen ∧
    (profileFails j s).exch.sessionNo = s.exch.sessionNo ∧
    (profileFails j s).exch.slots.length = s.exch.slots.length ∧ (profileFails j s).link.up = s.link.up ∧
    (profileFails j s).link.msiEnable = s.link.msiEnable ∧
    (profileFails j s).link.busMastering = s.link.busMastering ∧
    (profileFails j s).link.intxDisable = s.link.intxDisable ∧ (profileFails j s).link.intEnable = s.link.intEnable := by simp [profileFails]

@[simp] theorem takeProfile_fields (j : Job) (s : State) :
    (takeProfile j s).exch.sessionOpen = s.exch.sessionOpen ∧ (takeProfile j s).exch.sessionNo = s.exch.sessionNo ∧
    (takeProfile j s).exch.slots.length = s.exch.slots.length ∧ (takeProfile j s).link.up = s.link.up ∧
    (takeProfile j s).link.msiEnable = s.link.msiEnable ∧
    (takeProfile j s).link.busMastering = s.link.busMastering ∧
    (takeProfile j s).link.intxDisable = s.link.intxDisable ∧ (takeProfile j s).link.intEnable = s.link.intEnable ∧
    (takeProfile j s).profile.active = s.profile.active := by
  unfold takeProfile
  dsimp only
  (repeat' split) <;> simp

@[simp] theorem finishProfile_fields (code : ResultCode) (s : State) :
    (finishProfile code s).exch.sessionOpen = s.exch.sessionOpen ∧
    (finishProfile code s).exch.sessionNo = s.exch.sessionNo ∧
    (finishProfile code s).exch.slots.length = s.exch.slots.length ∧ (finishProfile code s).link.up = s.link.up ∧
    (finishProfile code s).link.msiEnable = s.link.msiEnable ∧
    (finishProfile code s).link.busMastering = s.link.busMastering ∧
    (finishProfile code s).link.intxDisable = s.link.intxDisable ∧
    (finishProfile code s).link.intEnable = s.link.intEnable ∧
    (finishProfile code s).profile.active = s.profile.active := by
  unfold finishProfile
  (repeat' split) <;> simp

@[simp] theorem swapProfile_fields (st : Staged) (s : State) :
    (swapProfile st s).exch.sessionOpen = s.exch.sessionOpen ∧
    (swapProfile st s).exch.sessionNo = s.exch.sessionNo ∧
    (swapProfile st s).exch.slots.length = s.exch.slots.length ∧ (swapProfile st s).link.up = s.link.up ∧
    (swapProfile st s).link.msiEnable = s.link.msiEnable ∧
    (swapProfile st s).link.busMastering = s.link.busMastering ∧
    (swapProfile st s).link.intxDisable = s.link.intxDisable ∧ (swapProfile st s).link.intEnable = s.link.intEnable := by simp [swapProfile]

@[simp] theorem quietTest_fields (s : State) :
    (quietTest s).exch.sessionOpen = s.exch.sessionOpen ∧ (quietTest s).exch.sessionNo = s.exch.sessionNo ∧
    (quietTest s).exch.slots.length = s.exch.slots.length ∧ (quietTest s).link.up = s.link.up ∧
    (quietTest s).link.msiEnable = s.link.msiEnable ∧ (quietTest s).link.busMastering = s.link.busMastering ∧
    (quietTest s).link.intxDisable = s.link.intxDisable ∧ (quietTest s).link.intEnable = s.link.intEnable := by
  unfold quietTest
  (repeat' split) <;> simp

@[simp] theorem profileExpiry_fields (s : State) :
    (profileExpiry s).exch.sessionOpen = s.exch.sessionOpen ∧ (profileExpiry s).exch.sessionNo = s.exch.sessionNo ∧
    (profileExpiry s).exch.slots.length = s.exch.slots.length ∧ (profileExpiry s).link.up = s.link.up ∧
    (profileExpiry s).link.msiEnable = s.link.msiEnable ∧
    (profileExpiry s).link.busMastering = s.link.busMastering ∧
    (profileExpiry s).link.intxDisable = s.link.intxDisable ∧ (profileExpiry s).link.intEnable = s.link.intEnable ∧
    (profileExpiry s).profile.active = s.profile.active := by
  unfold profileExpiry
  (repeat' split) <;> simp

@[simp] theorem handDecisions_fields (rel pre : List (Fin 128)) (s : State) :
    (handDecisions rel pre s).power.dockTime = s.power.dockTime ∧
    (handDecisions rel pre s).power.held = s.power.held ∧
    (handDecisions rel pre s).scanout.frame = s.scanout.frame ∧
    (handDecisions rel pre s).exch.sessionOpen = s.exch.sessionOpen ∧
    (handDecisions rel pre s).exch.sessionNo = s.exch.sessionNo ∧
    (handDecisions rel pre s).exch.slots.length = s.exch.slots.length ∧
    (handDecisions rel pre s).link.up = s.link.up ∧ (handDecisions rel pre s).link.msiEnable = s.link.msiEnable ∧
    (handDecisions rel pre s).link.busMastering = s.link.busMastering ∧
    (handDecisions rel pre s).link.intxDisable = s.link.intxDisable ∧
    (handDecisions rel pre s).link.intEnable = s.link.intEnable := by
  unfold handDecisions
  exact ⟨Eq.trans (foldl_keeps _ (fun s : State => s.power.dockTime) (by simp) _ _)
      (foldl_keeps _ (fun s : State => s.power.dockTime) (by simp) _ _),
    Eq.trans (foldl_keeps _ (fun s : State => s.power.held) (by simp) _ _)
      (foldl_keeps _ (fun s : State => s.power.held) (by simp) _ _),
    Eq.trans (foldl_keeps _ (fun s : State => s.scanout.frame) (by simp) _ _)
      (foldl_keeps _ (fun s : State => s.scanout.frame) (by simp) _ _),
    Eq.trans (foldl_keeps _ (fun s : State => s.exch.sessionOpen) (by simp) _ _)
      (foldl_keeps _ (fun s : State => s.exch.sessionOpen) (by simp) _ _),
    Eq.trans (foldl_keeps _ (fun s : State => s.exch.sessionNo) (by simp) _ _)
      (foldl_keeps _ (fun s : State => s.exch.sessionNo) (by simp) _ _),
    Eq.trans (foldl_keeps _ (fun s : State => s.exch.slots.length) (by simp) _ _)
      (foldl_keeps _ (fun s : State => s.exch.slots.length) (by simp) _ _),
    Eq.trans (foldl_keeps _ (fun s : State => s.link.up) (by simp) _ _)
      (foldl_keeps _ (fun s : State => s.link.up) (by simp) _ _),
    Eq.trans (foldl_keeps _ (fun s : State => s.link.msiEnable) (by simp) _ _)
      (foldl_keeps _ (fun s : State => s.link.msiEnable) (by simp) _ _),
    Eq.trans (foldl_keeps _ (fun s : State => s.link.busMastering) (by simp) _ _)
      (foldl_keeps _ (fun s : State => s.link.busMastering) (by simp) _ _),
    Eq.trans (foldl_keeps _ (fun s : State => s.link.intxDisable) (by simp) _ _)
      (foldl_keeps _ (fun s : State => s.link.intxDisable) (by simp) _ _),
    Eq.trans (foldl_keeps _ (fun s : State => s.link.intEnable) (by simp) _ _)
      (foldl_keeps _ (fun s : State => s.link.intEnable) (by simp) _ _)⟩

@[simp] theorem fastPassDecide_fields (raw : BitVec 128) (s : State) :
    (fastPassDecide raw s).power.dockTime = s.power.dockTime ∧ (fastPassDecide raw s).power.held = s.power.held ∧
    (fastPassDecide raw s).scanout.frame = s.scanout.frame ∧
    (fastPassDecide raw s).exch.sessionOpen = s.exch.sessionOpen ∧
    (fastPassDecide raw s).exch.sessionNo = s.exch.sessionNo ∧
    (fastPassDecide raw s).exch.slots.length = s.exch.slots.length ∧ (fastPassDecide raw s).link.up = s.link.up ∧
    (fastPassDecide raw s).link.msiEnable = s.link.msiEnable ∧
    (fastPassDecide raw s).link.busMastering = s.link.busMastering ∧
    (fastPassDecide raw s).link.intxDisable = s.link.intxDisable ∧
    (fastPassDecide raw s).link.intEnable = s.link.intEnable := by simp [fastPassDecide]

@[simp] theorem fastPass_fields (raw : BitVec 128) (s : State) :
    (fastPass raw s).power.dockTime = s.power.dockTime ∧ (fastPass raw s).power.held = s.power.held ∧
    (fastPass raw s).scanout.frame = s.scanout.frame ∧ (fastPass raw s).exch.sessionOpen = s.exch.sessionOpen ∧
    (fastPass raw s).exch.sessionNo = s.exch.sessionNo ∧ (fastPass raw s).exch.slots.length = s.exch.slots.length ∧
    (fastPass raw s).link.up = s.link.up ∧ (fastPass raw s).link.msiEnable = s.link.msiEnable ∧
    (fastPass raw s).link.busMastering = s.link.busMastering ∧
    (fastPass raw s).link.intxDisable = s.link.intxDisable ∧ (fastPass raw s).link.intEnable = s.link.intEnable := by simp [fastPass]

@[simp] theorem slowBoundary_fields (sw : Bool) (s : State) :
    (slowBoundary sw s).exch.sessionOpen = s.exch.sessionOpen ∧
    (slowBoundary sw s).exch.sessionNo = s.exch.sessionNo ∧
    (slowBoundary sw s).exch.slots.length = s.exch.slots.length ∧ (slowBoundary sw s).link.up = s.link.up ∧
    (slowBoundary sw s).link.msiEnable = s.link.msiEnable ∧
    (slowBoundary sw s).link.busMastering = s.link.busMastering ∧
    (slowBoundary sw s).link.intxDisable = s.link.intxDisable ∧
    (slowBoundary sw s).link.intEnable = s.link.intEnable := by
  unfold slowBoundary
  dsimp only
  (repeat' split) <;> simp

@[simp] theorem slowPass_fields (raw : BitVec 128) (s : State) :
    (slowPass raw s).exch.sessionOpen = s.exch.sessionOpen ∧ (slowPass raw s).exch.sessionNo = s.exch.sessionNo ∧
    (slowPass raw s).exch.slots.length = s.exch.slots.length ∧ (slowPass raw s).link.up = s.link.up ∧
    (slowPass raw s).link.msiEnable = s.link.msiEnable ∧ (slowPass raw s).link.busMastering = s.link.busMastering ∧
    (slowPass raw s).link.intxDisable = s.link.intxDisable ∧ (slowPass raw s).link.intEnable = s.link.intEnable := by
  have h0 : ∀ (l : List (Fin 128)) (s : State), (l.foldl (fun s p => release p s) s).exch.sessionOpen = s.exch.sessionOpen :=
    foldl_keeps _ (fun s : State => s.exch.sessionOpen) (by simp)
  have h1 : ∀ (l : List (Fin 128)) (s : State), (l.foldl (fun s p => release p s) s).exch.sessionNo = s.exch.sessionNo :=
    foldl_keeps _ (fun s : State => s.exch.sessionNo) (by simp)
  have h2 : ∀ (l : List (Fin 128)) (s : State), (l.foldl (fun s p => release p s) s).exch.slots.length = s.exch.slots.length :=
    foldl_keeps _ (fun s : State => s.exch.slots.length) (by simp)
  have h3 : ∀ (l : List (Fin 128)) (s : State), (l.foldl (fun s p => release p s) s).link.up = s.link.up :=
    foldl_keeps _ (fun s : State => s.link.up) (by simp)
  have h4 : ∀ (l : List (Fin 128)) (s : State), (l.foldl (fun s p => release p s) s).link.msiEnable = s.link.msiEnable :=
    foldl_keeps _ (fun s : State => s.link.msiEnable) (by simp)
  have h5 : ∀ (l : List (Fin 128)) (s : State), (l.foldl (fun s p => release p s) s).link.busMastering = s.link.busMastering :=
    foldl_keeps _ (fun s : State => s.link.busMastering) (by simp)
  have h6 : ∀ (l : List (Fin 128)) (s : State), (l.foldl (fun s p => release p s) s).link.intxDisable = s.link.intxDisable :=
    foldl_keeps _ (fun s : State => s.link.intxDisable) (by simp)
  have h7 : ∀ (l : List (Fin 128)) (s : State), (l.foldl (fun s p => release p s) s).link.intEnable = s.link.intEnable :=
    foldl_keeps _ (fun s : State => s.link.intEnable) (by simp)
  simp [slowPass, h0, h1, h2, h3, h4, h5, h6, h7]

@[simp] theorem applyVehicle_fields (ps : List Byte) (s : State) :
    (applyVehicle ps s).power.dockTime = s.power.dockTime ∧ (applyVehicle ps s).power.held = s.power.held ∧
    (applyVehicle ps s).scanout.frame = s.scanout.frame ∧
    (applyVehicle ps s).exch.sessionOpen = s.exch.sessionOpen ∧
    (applyVehicle ps s).exch.sessionNo = s.exch.sessionNo ∧
    (applyVehicle ps s).exch.slots.length = s.exch.slots.length ∧ (applyVehicle ps s).link.up = s.link.up ∧
    (applyVehicle ps s).link.msiEnable = s.link.msiEnable ∧
    (applyVehicle ps s).link.busMastering = s.link.busMastering ∧
    (applyVehicle ps s).link.intxDisable = s.link.intxDisable ∧
    (applyVehicle ps s).link.intEnable = s.link.intEnable ∧ (applyVehicle ps s).lines.levels = s.lines.levels := by simp [applyVehicle]

@[simp] theorem takeLight_fields (j : Job) (s : State) :
    (takeLight j s).exch.sessionOpen = s.exch.sessionOpen ∧ (takeLight j s).exch.sessionNo = s.exch.sessionNo ∧
    (takeLight j s).exch.slots.length = s.exch.slots.length ∧ (takeLight j s).link.up = s.link.up ∧
    (takeLight j s).link.msiEnable = s.link.msiEnable ∧ (takeLight j s).link.busMastering = s.link.busMastering ∧
    (takeLight j s).link.intxDisable = s.link.intxDisable ∧ (takeLight j s).link.intEnable = s.link.intEnable := by
  unfold takeLight
  (repeat' split) <;> simp

@[simp] theorem takeIndicators_fields (j : Job) (s : State) :
    (takeIndicators j s).exch.sessionOpen = s.exch.sessionOpen ∧
    (takeIndicators j s).exch.sessionNo = s.exch.sessionNo ∧
    (takeIndicators j s).exch.slots.length = s.exch.slots.length := by simp [takeIndicators]

@[simp] theorem takeVehicle_fields (j : Job) (s : State) :
    (takeVehicle j s).power.dockTime = s.power.dockTime ∧ (takeVehicle j s).power.held = s.power.held ∧
    (takeVehicle j s).scanout.frame = s.scanout.frame ∧ (takeVehicle j s).exch.sessionOpen = s.exch.sessionOpen ∧
    (takeVehicle j s).exch.sessionNo = s.exch.sessionNo ∧
    (takeVehicle j s).exch.slots.length = s.exch.slots.length ∧ (takeVehicle j s).link.up = s.link.up ∧
    (takeVehicle j s).link.msiEnable = s.link.msiEnable ∧
    (takeVehicle j s).link.busMastering = s.link.busMastering ∧
    (takeVehicle j s).link.intxDisable = s.link.intxDisable ∧ (takeVehicle j s).link.intEnable = s.link.intEnable ∧
    (takeVehicle j s).lines.levels = s.lines.levels := by simp [takeVehicle]

@[simp] theorem applyWish_fields (w : Bool) (s : State) :
    (applyWish w s).power.dockTime = s.power.dockTime ∧ (applyWish w s).power.held = s.power.held ∧
    (applyWish w s).scanout.frame = s.scanout.frame ∧ (applyWish w s).exch.sessionOpen = s.exch.sessionOpen ∧
    (applyWish w s).exch.sessionNo = s.exch.sessionNo ∧ (applyWish w s).exch.slots.length = s.exch.slots.length ∧
    (applyWish w s).link.up = s.link.up ∧ (applyWish w s).link.msiEnable = s.link.msiEnable ∧
    (applyWish w s).link.busMastering = s.link.busMastering ∧
    (applyWish w s).link.intxDisable = s.link.intxDisable ∧ (applyWish w s).link.intEnable = s.link.intEnable := by
  unfold applyWish
  dsimp only
  (repeat' split) <;> simp

@[simp] theorem takePanel_fields (j : Job) (s : State) :
    (takePanel j s).power.dockTime = s.power.dockTime ∧ (takePanel j s).power.held = s.power.held ∧
    (takePanel j s).scanout.frame = s.scanout.frame ∧ (takePanel j s).exch.sessionOpen = s.exch.sessionOpen ∧
    (takePanel j s).exch.sessionNo = s.exch.sessionNo ∧ (takePanel j s).exch.slots.length = s.exch.slots.length ∧
    (takePanel j s).link.up = s.link.up ∧ (takePanel j s).link.msiEnable = s.link.msiEnable ∧
    (takePanel j s).link.busMastering = s.link.busMastering ∧
    (takePanel j s).link.intxDisable = s.link.intxDisable ∧ (takePanel j s).link.intEnable = s.link.intEnable := by
  unfold takePanel
  dsimp only
  (repeat' split) <;> simp

@[simp] theorem takeSettings_fields (j : Job) (s : State) :
    (takeSettings j s).power.dockTime = s.power.dockTime ∧ (takeSettings j s).power.held = s.power.held ∧
    (takeSettings j s).scanout.frame = s.scanout.frame ∧ (takeSettings j s).exch.sessionOpen = s.exch.sessionOpen ∧
    (takeSettings j s).exch.sessionNo = s.exch.sessionNo ∧
    (takeSettings j s).exch.slots.length = s.exch.slots.length ∧ (takeSettings j s).link.up = s.link.up ∧
    (takeSettings j s).link.msiEnable = s.link.msiEnable ∧
    (takeSettings j s).link.busMastering = s.link.busMastering ∧
    (takeSettings j s).link.intxDisable = s.link.intxDisable ∧
    (takeSettings j s).link.intEnable = s.link.intEnable ∧ (takeSettings j s).lines.levels = s.lines.levels := by
  unfold takeSettings
  (repeat' split) <;> simp

@[simp] theorem settingsComplete_fields (s : State) :
    (settingsComplete s).exch.sessionOpen = s.exch.sessionOpen ∧
    (settingsComplete s).exch.sessionNo = s.exch.sessionNo ∧
    (settingsComplete s).exch.slots.length = s.exch.slots.length ∧ (settingsComplete s).link.up = s.link.up ∧
    (settingsComplete s).link.msiEnable = s.link.msiEnable ∧
    (settingsComplete s).link.busMastering = s.link.busMastering ∧
    (settingsComplete s).link.intxDisable = s.link.intxDisable ∧
    (settingsComplete s).link.intEnable = s.link.intEnable := by
  unfold settingsComplete
  (repeat' split) <;> simp

@[simp] theorem activate_fields (e : Entry) (s : State) :
    (activate e s).exch.sessionOpen = s.exch.sessionOpen ∧ (activate e s).exch.sessionNo = s.exch.sessionNo ∧
    (activate e s).exch.slots.length = s.exch.slots.length := by simp [activate]

@[simp] theorem takeByPicture_fields (e : Entry) (s : State) :
    (takeByPicture e s).power.dockTime = s.power.dockTime ∧ (takeByPicture e s).power.held = s.power.held ∧
    (takeByPicture e s).scanout.frame = s.scanout.frame ∧
    (takeByPicture e s).exch.sessionOpen = s.exch.sessionOpen ∧
    (takeByPicture e s).exch.sessionNo = s.exch.sessionNo ∧
    (takeByPicture e s).exch.slots.length = s.exch.slots.length ∧ (takeByPicture e s).link.up = s.link.up ∧
    (takeByPicture e s).link.msiEnable = s.link.msiEnable ∧
    (takeByPicture e s).link.busMastering = s.link.busMastering ∧
    (takeByPicture e s).link.intxDisable = s.link.intxDisable ∧
    (takeByPicture e s).link.intEnable = s.link.intEnable := by
  unfold takeByPicture
  dsimp only
  (repeat' split) <;> simp

@[simp] theorem takeByProfile_fields (e : Entry) (s : State) :
    (takeByProfile e s).exch.sessionOpen = s.exch.sessionOpen ∧
    (takeByProfile e s).exch.sessionNo = s.exch.sessionNo ∧
    (takeByProfile e s).exch.slots.length = s.exch.slots.length ∧ (takeByProfile e s).link.up = s.link.up ∧
    (takeByProfile e s).link.msiEnable = s.link.msiEnable ∧
    (takeByProfile e s).link.busMastering = s.link.busMastering ∧
    (takeByProfile e s).link.intxDisable = s.link.intxDisable ∧
    (takeByProfile e s).link.intEnable = s.link.intEnable ∧ (takeByProfile e s).profile.active = s.profile.active := by simp [takeByProfile]

@[simp] theorem takeBySettings_fields (e : Entry) (s : State) :
    (takeBySettings e s).power.dockTime = s.power.dockTime ∧ (takeBySettings e s).power.held = s.power.held ∧
    (takeBySettings e s).scanout.frame = s.scanout.frame ∧
    (takeBySettings e s).exch.sessionOpen = s.exch.sessionOpen ∧
    (takeBySettings e s).exch.sessionNo = s.exch.sessionNo ∧
    (takeBySettings e s).exch.slots.length = s.exch.slots.length ∧ (takeBySettings e s).link.up = s.link.up ∧
    (takeBySettings e s).link.msiEnable = s.link.msiEnable ∧
    (takeBySettings e s).link.busMastering = s.link.busMastering ∧
    (takeBySettings e s).link.intxDisable = s.link.intxDisable ∧
    (takeBySettings e s).link.intEnable = s.link.intEnable ∧ (takeBySettings e s).lines.levels = s.lines.levels := by simp [takeBySettings]

/-- A take keeps the same single fields. -/
theorem oneTake_fields {s t : State} (h : oneTake s = some t) :
    t.power.dockTime = s.power.dockTime ∧ t.power.held = s.power.held ∧ t.scanout.frame = s.scanout.frame ∧
    t.exch.sessionOpen = s.exch.sessionOpen ∧ t.exch.sessionNo = s.exch.sessionNo ∧
    t.exch.slots.length = s.exch.slots.length ∧ t.link.up = s.link.up ∧ t.link.msiEnable = s.link.msiEnable ∧
    t.link.busMastering = s.link.busMastering ∧ t.link.intxDisable = s.link.intxDisable ∧
    t.link.intEnable = s.link.intEnable ∧ t.lines.levels = s.lines.levels ∧ t.profile.active = s.profile.active := by
  unfold oneTake settingsTake pictureTake profileTake at h
  simp only [Option.or_eq_some_iff] at h
  rcases h with (h | ⟨-, h⟩) | ⟨-, h⟩ <;> split at h <;>
    first
      | (obtain ⟨e, -, rfl⟩ := Option.map_eq_some_iff.mp h; simp)
      | simp at h

@[simp] theorem lookFor_fields (n : Nat) (s : State) :
    (lookFor n s).power.dockTime = s.power.dockTime ∧ (lookFor n s).power.held = s.power.held ∧
    (lookFor n s).scanout.frame = s.scanout.frame ∧ (lookFor n s).exch.sessionOpen = s.exch.sessionOpen ∧
    (lookFor n s).exch.sessionNo = s.exch.sessionNo ∧ (lookFor n s).exch.slots.length = s.exch.slots.length ∧
    (lookFor n s).link.up = s.link.up ∧ (lookFor n s).link.msiEnable = s.link.msiEnable ∧
    (lookFor n s).link.busMastering = s.link.busMastering ∧ (lookFor n s).link.intxDisable = s.link.intxDisable ∧
    (lookFor n s).link.intEnable = s.link.intEnable ∧ (lookFor n s).lines.levels = s.lines.levels ∧
    (lookFor n s).profile.active = s.profile.active := by
  induction n generalizing s with
  | zero => simp [lookFor]
  | succ n ih =>
    unfold lookFor
    split
    · simp
    · next t h => have := oneTake_fields h; simp [ih, this]

@[simp] theorem look_fields (s : State) :
    (look s).power.dockTime = s.power.dockTime ∧ (look s).power.held = s.power.held ∧
    (look s).scanout.frame = s.scanout.frame ∧ (look s).exch.sessionOpen = s.exch.sessionOpen ∧
    (look s).exch.sessionNo = s.exch.sessionNo ∧ (look s).exch.slots.length = s.exch.slots.length ∧
    (look s).link.up = s.link.up ∧ (look s).link.msiEnable = s.link.msiEnable ∧
    (look s).link.busMastering = s.link.busMastering ∧ (look s).link.intxDisable = s.link.intxDisable ∧
    (look s).link.intEnable = s.link.intEnable ∧ (look s).lines.levels = s.lines.levels ∧
    (look s).profile.active = s.profile.active := by simp [look]

@[simp] theorem postWrite_fields (k : Fin 16) (s : State) :
    (postWrite k s).power.dockTime = s.power.dockTime ∧ (postWrite k s).power.held = s.power.held ∧
    (postWrite k s).scanout.frame = s.scanout.frame ∧ (postWrite k s).exch.sessionOpen = s.exch.sessionOpen ∧
    (postWrite k s).exch.sessionNo = s.exch.sessionNo ∧ (postWrite k s).exch.slots.length = s.exch.slots.length ∧
    (postWrite k s).link.up = s.link.up ∧ (postWrite k s).link.msiEnable = s.link.msiEnable ∧
    (postWrite k s).link.busMastering = s.link.busMastering ∧
    (postWrite k s).link.intxDisable = s.link.intxDisable ∧ (postWrite k s).link.intEnable = s.link.intEnable ∧
    (postWrite k s).lines.levels = s.lines.levels ∧ (postWrite k s).profile.active = s.profile.active := by
  unfold postWrite
  (repeat' split) <;> simp

@[simp] theorem cancelPosted_fields (k : Fin 16) (s : State) :
    (cancelPosted k s).exch.sessionOpen = s.exch.sessionOpen ∧
    (cancelPosted k s).exch.sessionNo = s.exch.sessionNo ∧
    (cancelPosted k s).exch.slots.length = s.exch.slots.length ∧ (cancelPosted k s).link.up = s.link.up ∧
    (cancelPosted k s).link.msiEnable = s.link.msiEnable ∧
    (cancelPosted k s).link.busMastering = s.link.busMastering ∧
    (cancelPosted k s).link.intxDisable = s.link.intxDisable ∧ (cancelPosted k s).link.intEnable = s.link.intEnable := by
  unfold cancelPosted
  dsimp only
  (repeat' split) <;> simp

@[simp] theorem cancelPicture_fields (s : State) :
    (cancelPicture s).scanout.frame = s.scanout.frame ∧ (cancelPicture s).exch.sessionOpen = s.exch.sessionOpen ∧
    (cancelPicture s).exch.sessionNo = s.exch.sessionNo ∧
    (cancelPicture s).exch.slots.length = s.exch.slots.length ∧ (cancelPicture s).link.up = s.link.up ∧
    (cancelPicture s).link.msiEnable = s.link.msiEnable ∧
    (cancelPicture s).link.busMastering = s.link.busMastering ∧
    (cancelPicture s).link.intxDisable = s.link.intxDisable ∧ (cancelPicture s).link.intEnable = s.link.intEnable := by
  unfold cancelPicture
  (repeat' split) <;> simp

@[simp] theorem cancelSettings_fields (s : State) :
    (cancelSettings s).exch.sessionOpen = s.exch.sessionOpen ∧
    (cancelSettings s).exch.sessionNo = s.exch.sessionNo ∧
    (cancelSettings s).exch.slots.length = s.exch.slots.length ∧ (cancelSettings s).link.up = s.link.up ∧
    (cancelSettings s).link.msiEnable = s.link.msiEnable ∧
    (cancelSettings s).link.busMastering = s.link.busMastering ∧
    (cancelSettings s).link.intxDisable = s.link.intxDisable ∧ (cancelSettings s).link.intEnable = s.link.intEnable := by
  unfold cancelSettings
  (repeat' split) <;> simp

@[simp] theorem cancelActive_fields (k : Fin 16) (s : State) :
    (cancelActive k s).scanout.frame = s.scanout.frame ∧ (cancelActive k s).exch.sessionOpen = s.exch.sessionOpen ∧
    (cancelActive k s).exch.sessionNo = s.exch.sessionNo ∧
    (cancelActive k s).exch.slots.length = s.exch.slots.length ∧ (cancelActive k s).link.up = s.link.up ∧
    (cancelActive k s).link.msiEnable = s.link.msiEnable ∧
    (cancelActive k s).link.busMastering = s.link.busMastering ∧
    (cancelActive k s).link.intxDisable = s.link.intxDisable ∧
    (cancelActive k s).link.intEnable = s.link.intEnable ∧ (cancelActive k s).profile.active = s.profile.active := by
  unfold cancelActive
  dsimp only
  (repeat' split) <;> simp

@[simp] theorem cancelWrite_fields (k : Fin 16) (s : State) :
    (cancelWrite k s).power.dockTime = s.power.dockTime ∧ (cancelWrite k s).power.held = s.power.held ∧
    (cancelWrite k s).scanout.frame = s.scanout.frame ∧ (cancelWrite k s).exch.sessionOpen = s.exch.sessionOpen ∧
    (cancelWrite k s).exch.sessionNo = s.exch.sessionNo ∧
    (cancelWrite k s).exch.slots.length = s.exch.slots.length ∧ (cancelWrite k s).link.up = s.link.up ∧
    (cancelWrite k s).link.msiEnable = s.link.msiEnable ∧
    (cancelWrite k s).link.busMastering = s.link.busMastering ∧
    (cancelWrite k s).link.intxDisable = s.link.intxDisable ∧ (cancelWrite k s).link.intEnable = s.link.intEnable ∧
    (cancelWrite k s).lines.levels = s.lines.levels ∧ (cancelWrite k s).profile.active = s.profile.active := by
  unfold cancelWrite
  (repeat' split) <;> simp

@[simp] theorem freeWrite_fields (k : Fin 16) (s : State) :
    (freeWrite k s).exch.sessionOpen = s.exch.sessionOpen ∧ (freeWrite k s).exch.sessionNo = s.exch.sessionNo ∧
    (freeWrite k s).exch.slots.length = s.exch.slots.length := by
  unfold freeWrite
  (repeat' split) <;> simp

@[simp] theorem openSession_fields (s : State) :
    (openSession s).scanout.frame = s.scanout.frame ∧ (openSession s).exch.slots.length = s.exch.slots.length ∧
    (openSession s).link.up = s.link.up ∧ (openSession s).link.msiEnable = s.link.msiEnable ∧
    (openSession s).link.busMastering = s.link.busMastering ∧
    (openSession s).link.intxDisable = s.link.intxDisable ∧ (openSession s).link.intEnable = s.link.intEnable := by simp [openSession]

@[simp] theorem abandonWork_fields (s : State) :
    (abandonWork s).scanout.frame = s.scanout.frame ∧ (abandonWork s).exch.sessionOpen = s.exch.sessionOpen ∧
    (abandonWork s).exch.sessionNo = s.exch.sessionNo ∧ (abandonWork s).exch.slots.length = s.exch.slots.length ∧
    (abandonWork s).profile.active = s.profile.active := by simp [abandonWork]

@[simp] theorem closeSession_fields (s : State) :
    (closeSession s).scanout.frame = s.scanout.frame ∧ (closeSession s).exch.sessionNo = s.exch.sessionNo ∧
    (closeSession s).exch.slots.length = s.exch.slots.length ∧ (closeSession s).profile.active = s.profile.active := by simp [closeSession]

@[simp] theorem endSession_fields (s : State) :
    (endSession s).scanout.frame = s.scanout.frame ∧ (endSession s).exch.sessionNo = s.exch.sessionNo ∧
    (endSession s).exch.slots.length = s.exch.slots.length ∧ (endSession s).profile.active = s.profile.active := by
  unfold endSession
  (repeat' split) <;> simp

@[simp] theorem sessionWrite_fields (v : Word) (s : State) :
    (sessionWrite v s).scanout.frame = s.scanout.frame ∧
    (sessionWrite v s).exch.slots.length = s.exch.slots.length ∧ (sessionWrite v s).link.up = s.link.up ∧
    (sessionWrite v s).link.msiEnable = s.link.msiEnable ∧
    (sessionWrite v s).link.busMastering = s.link.busMastering ∧
    (sessionWrite v s).link.intxDisable = s.link.intxDisable ∧
    (sessionWrite v s).link.intEnable = s.link.intEnable ∧ (sessionWrite v s).profile.active = s.profile.active := by
  unfold sessionWrite
  (repeat' split) <;> simp

@[simp] theorem ackWrite_fields (v : Word) (s : State) :
    (ackWrite v s).exch.sessionOpen = s.exch.sessionOpen ∧ (ackWrite v s).exch.sessionNo = s.exch.sessionNo ∧
    (ackWrite v s).exch.slots.length = s.exch.slots.length ∧ (ackWrite v s).link.up = s.link.up ∧
    (ackWrite v s).link.msiEnable = s.link.msiEnable ∧ (ackWrite v s).link.busMastering = s.link.busMastering ∧
    (ackWrite v s).link.intxDisable = s.link.intxDisable ∧ (ackWrite v s).link.intEnable = s.link.intEnable := by
  unfold ackWrite
  (repeat' split) <;> simp

@[simp] theorem slotStateWrite_fields (k : Fin 16) (v : Word) (s : State) :
    (slotStateWrite k v s).power.dockTime = s.power.dockTime ∧ (slotStateWrite k v s).power.held = s.power.held ∧
    (slotStateWrite k v s).scanout.frame = s.scanout.frame ∧
    (slotStateWrite k v s).exch.sessionOpen = s.exch.sessionOpen ∧
    (slotStateWrite k v s).exch.sessionNo = s.exch.sessionNo ∧
    (slotStateWrite k v s).exch.slots.length = s.exch.slots.length ∧ (slotStateWrite k v s).link.up = s.link.up ∧
    (slotStateWrite k v s).link.msiEnable = s.link.msiEnable ∧
    (slotStateWrite k v s).link.busMastering = s.link.busMastering ∧
    (slotStateWrite k v s).link.intxDisable = s.link.intxDisable ∧
    (slotStateWrite k v s).link.intEnable = s.link.intEnable ∧
    (slotStateWrite k v s).lines.levels = s.lines.levels ∧ (slotStateWrite k v s).profile.active = s.profile.active := by
  unfold slotStateWrite
  (repeat' split) <;> simp

@[simp] theorem guardedWrite_fields (g : Guarded) (v : Word) (s : State) :
    (guardedWrite g v s).power.dockTime = s.power.dockTime ∧ (guardedWrite g v s).power.held = s.power.held ∧
    (guardedWrite g v s).scanout.frame = s.scanout.frame ∧
    (guardedWrite g v s).exch.slots.length = s.exch.slots.length ∧ (guardedWrite g v s).link.up = s.link.up ∧
    (guardedWrite g v s).link.msiEnable = s.link.msiEnable ∧
    (guardedWrite g v s).link.busMastering = s.link.busMastering ∧
    (guardedWrite g v s).link.intxDisable = s.link.intxDisable ∧
    (guardedWrite g v s).link.intEnable = s.link.intEnable ∧ (guardedWrite g v s).lines.levels = s.lines.levels ∧
    (guardedWrite g v s).profile.active = s.profile.active := by
  unfold guardedWrite
  (repeat' split) <;> simp

@[simp] theorem exchangeWrite_fields (w : BitVec 14) (be : BitVec 4) (v : Word) (s : State) :
    (exchangeWrite w be v s).power.dockTime = s.power.dockTime ∧
    (exchangeWrite w be v s).power.held = s.power.held ∧ (exchangeWrite w be v s).scanout.frame = s.scanout.frame ∧
    (exchangeWrite w be v s).exch.slots.length = s.exch.slots.length ∧
    (exchangeWrite w be v s).link.up = s.link.up ∧ (exchangeWrite w be v s).link.msiEnable = s.link.msiEnable ∧
    (exchangeWrite w be v s).link.busMastering = s.link.busMastering ∧
    (exchangeWrite w be v s).link.intxDisable = s.link.intxDisable ∧
    (exchangeWrite w be v s).link.intEnable = s.link.intEnable ∧
    (exchangeWrite w be v s).lines.levels = s.lines.levels ∧
    (exchangeWrite w be v s).profile.active = s.profile.active := by
  unfold exchangeWrite
  (repeat' split) <;> simp

@[simp] theorem deriveDrive_fields (s : State) :
    (deriveDrive s).exch.sessionOpen = s.exch.sessionOpen ∧ (deriveDrive s).exch.sessionNo = s.exch.sessionNo ∧
    (deriveDrive s).exch.slots.length = s.exch.slots.length ∧ (deriveDrive s).link.up = s.link.up ∧
    (deriveDrive s).link.msiEnable = s.link.msiEnable ∧ (deriveDrive s).link.busMastering = s.link.busMastering ∧
    (deriveDrive s).link.intxDisable = s.link.intxDisable ∧ (deriveDrive s).link.intEnable = s.link.intEnable ∧
    (deriveDrive s).lines.levels = s.lines.levels := by
  unfold deriveDrive
  dsimp only
  (repeat' split) <;> simp

@[simp] theorem ignChange_fields (on : Bool) (s : State) :
    (ignChange on s).power.dockTime = s.power.dockTime ∧ (ignChange on s).power.held = s.power.held ∧
    (ignChange on s).scanout.frame = s.scanout.frame ∧ (ignChange on s).exch.sessionOpen = s.exch.sessionOpen ∧
    (ignChange on s).exch.sessionNo = s.exch.sessionNo ∧ (ignChange on s).exch.slots.length = s.exch.slots.length ∧
    (ignChange on s).link.up = s.link.up ∧ (ignChange on s).link.msiEnable = s.link.msiEnable ∧
    (ignChange on s).link.busMastering = s.link.busMastering ∧
    (ignChange on s).link.intxDisable = s.link.intxDisable ∧ (ignChange on s).link.intEnable = s.link.intEnable ∧
    (ignChange on s).lines.levels = s.lines.levels := by
  unfold ignChange
  dsimp only
  (repeat' split) <;> simp

@[simp] theorem parkChange_fields (b : Bool) (s : State) :
    (parkChange b s).power.dockTime = s.power.dockTime ∧ (parkChange b s).power.held = s.power.held ∧
    (parkChange b s).exch.sessionOpen = s.exch.sessionOpen ∧ (parkChange b s).exch.sessionNo = s.exch.sessionNo ∧
    (parkChange b s).exch.slots.length = s.exch.slots.length ∧ (parkChange b s).link.up = s.link.up ∧
    (parkChange b s).link.msiEnable = s.link.msiEnable ∧ (parkChange b s).link.busMastering = s.link.busMastering ∧
    (parkChange b s).link.intxDisable = s.link.intxDisable ∧ (parkChange b s).link.intEnable = s.link.intEnable ∧
    (parkChange b s).lines.levels = s.lines.levels := by simp [parkChange]

@[simp] theorem presenceChange_fields (b : Bool) (s : State) :
    (presenceChange b s).power.dockTime = s.power.dockTime ∧ (presenceChange b s).power.held = s.power.held ∧
    (presenceChange b s).scanout.frame = s.scanout.frame ∧ (presenceChange b s).exch.sessionNo = s.exch.sessionNo ∧
    (presenceChange b s).exch.slots.length = s.exch.slots.length ∧ (presenceChange b s).link.up = s.link.up ∧
    (presenceChange b s).link.msiEnable = s.link.msiEnable ∧
    (presenceChange b s).link.busMastering = s.link.busMastering ∧
    (presenceChange b s).link.intxDisable = s.link.intxDisable ∧
    (presenceChange b s).link.intEnable = s.link.intEnable ∧ (presenceChange b s).lines.levels = s.lines.levels ∧
    (presenceChange b s).profile.active = s.profile.active := by
  unfold presenceChange
  dsimp only
  (repeat' split) <;> simp

@[simp] theorem latchChange_fields (b : Bool) (s : State) :
    (latchChange b s).power.dockTime = s.power.dockTime ∧ (latchChange b s).power.held = s.power.held ∧
    (latchChange b s).scanout.frame = s.scanout.frame ∧ (latchChange b s).exch.sessionOpen = s.exch.sessionOpen ∧
    (latchChange b s).exch.sessionNo = s.exch.sessionNo ∧
    (latchChange b s).exch.slots.length = s.exch.slots.length ∧ (latchChange b s).link.up = s.link.up ∧
    (latchChange b s).link.msiEnable = s.link.msiEnable ∧
    (latchChange b s).link.busMastering = s.link.busMastering ∧
    (latchChange b s).link.intxDisable = s.link.intxDisable ∧ (latchChange b s).link.intEnable = s.link.intEnable ∧
    (latchChange b s).lines.levels = s.lines.levels := by
  unfold latchChange
  dsimp only
  (repeat' split) <;> simp

@[simp] theorem lineChange_fields (line : Line) (b : Bool) (s : State) :
    (lineChange line b s).power.dockTime = s.power.dockTime ∧ (lineChange line b s).power.held = s.power.held ∧
    (lineChange line b s).scanout.frame = s.scanout.frame ∧
    (lineChange line b s).exch.sessionNo = s.exch.sessionNo ∧
    (lineChange line b s).exch.slots.length = s.exch.slots.length ∧ (lineChange line b s).link.up = s.link.up ∧
    (lineChange line b s).link.msiEnable = s.link.msiEnable ∧
    (lineChange line b s).link.busMastering = s.link.busMastering ∧
    (lineChange line b s).link.intxDisable = s.link.intxDisable ∧
    (lineChange line b s).link.intEnable = s.link.intEnable ∧ (lineChange line b s).lines.levels = s.lines.levels ∧
    (lineChange line b s).profile.active = s.profile.active := by
  unfold lineChange
  (repeat' split) <;> simp

@[simp] theorem lineExpiry_fields (line : Line) (s : State) :
    (lineExpiry line s).power.dockTime = s.power.dockTime ∧ (lineExpiry line s).power.held = s.power.held ∧
    (lineExpiry line s).scanout.frame = s.scanout.frame ∧ (lineExpiry line s).exch.sessionNo = s.exch.sessionNo ∧
    (lineExpiry line s).exch.slots.length = s.exch.slots.length ∧ (lineExpiry line s).link.up = s.link.up ∧
    (lineExpiry line s).link.msiEnable = s.link.msiEnable ∧
    (lineExpiry line s).link.busMastering = s.link.busMastering ∧
    (lineExpiry line s).link.intxDisable = s.link.intxDisable ∧
    (lineExpiry line s).link.intEnable = s.link.intEnable ∧ (lineExpiry line s).lines.levels = s.lines.levels ∧
    (lineExpiry line s).profile.active = s.profile.active := by
  unfold lineExpiry
  dsimp only
  (repeat' split) <;> simp

@[simp] theorem supplyDone_fields (code : BitVec 10) (s : State) :
    (supplyDone code s).power.dockTime = s.power.dockTime ∧ (supplyDone code s).power.held = s.power.held ∧
    (supplyDone code s).scanout.frame = s.scanout.frame ∧
    (supplyDone code s).exch.sessionOpen = s.exch.sessionOpen ∧
    (supplyDone code s).exch.sessionNo = s.exch.sessionNo ∧
    (supplyDone code s).exch.slots.length = s.exch.slots.length ∧ (supplyDone code s).link.up = s.link.up ∧
    (supplyDone code s).link.msiEnable = s.link.msiEnable ∧
    (supplyDone code s).link.busMastering = s.link.busMastering ∧
    (supplyDone code s).link.intxDisable = s.link.intxDisable ∧
    (supplyDone code s).link.intEnable = s.link.intEnable := by simp [supplyDone]

@[simp] theorem trip_fields (s : State) :
    (trip s).power.dockTime = s.power.dockTime ∧ (trip s).scanout.frame = s.scanout.frame ∧
    (trip s).exch.sessionNo = s.exch.sessionNo ∧ (trip s).exch.slots.length = s.exch.slots.length ∧
    (trip s).link.msiEnable = s.link.msiEnable ∧ (trip s).link.busMastering = s.link.busMastering ∧
    (trip s).link.intxDisable = s.link.intxDisable ∧ (trip s).link.intEnable = s.link.intEnable ∧
    (trip s).profile.active = s.profile.active := by simp [trip]

@[simp] theorem panelReset_fields (s : State) :
    (panelReset s).power.dockTime = s.power.dockTime ∧ (panelReset s).power.held = s.power.held ∧
    (panelReset s).scanout.frame = s.scanout.frame ∧ (panelReset s).exch.sessionOpen = s.exch.sessionOpen ∧
    (panelReset s).exch.sessionNo = s.exch.sessionNo ∧ (panelReset s).exch.slots.length = s.exch.slots.length ∧
    (panelReset s).link.up = s.link.up ∧ (panelReset s).link.msiEnable = s.link.msiEnable ∧
    (panelReset s).link.busMastering = s.link.busMastering ∧ (panelReset s).link.intxDisable = s.link.intxDisable ∧
    (panelReset s).link.intEnable = s.link.intEnable := by simp [panelReset]

@[simp] theorem workReset_fields (s : State) :
    (workReset s).scanout.frame = s.scanout.frame ∧ (workReset s).exch.sessionNo = s.exch.sessionNo ∧
    (workReset s).exch.slots.length = s.exch.slots.length ∧ (workReset s).profile.active = s.profile.active := by simp [workReset]

@[simp] theorem resetFunction_fields (s : State) :
    (resetFunction s).power.dockTime = s.power.dockTime ∧ (resetFunction s).power.held = s.power.held ∧
    (resetFunction s).scanout.frame = s.scanout.frame ∧ (resetFunction s).link.up = s.link.up ∧
    (resetFunction s).link.msiEnable = s.link.msiEnable ∧
    (resetFunction s).link.busMastering = s.link.busMastering ∧
    (resetFunction s).link.intxDisable = s.link.intxDisable ∧ (resetFunction s).lines.levels = s.lines.levels := by simp [resetFunction]

@[simp] theorem controlWrite_fields (v : Word) (s : State) :
    (controlWrite v s).power.dockTime = s.power.dockTime ∧ (controlWrite v s).power.held = s.power.held ∧
    (controlWrite v s).scanout.frame = s.scanout.frame ∧ (controlWrite v s).link.up = s.link.up ∧
    (controlWrite v s).link.msiEnable = s.link.msiEnable ∧
    (controlWrite v s).link.busMastering = s.link.busMastering ∧
    (controlWrite v s).link.intxDisable = s.link.intxDisable ∧ (controlWrite v s).lines.levels = s.lines.levels := by
  unfold controlWrite
  dsimp only
  (repeat' split) <;> simp

@[simp] theorem registerWrite_fields (w : BitVec 10) (be : BitVec 4) (v : Word) (s : State) :
    (registerWrite w be v s).power.dockTime = s.power.dockTime ∧
    (registerWrite w be v s).power.held = s.power.held ∧ (registerWrite w be v s).scanout.frame = s.scanout.frame ∧
    (registerWrite w be v s).link.up = s.link.up ∧ (registerWrite w be v s).link.msiEnable = s.link.msiEnable ∧
    (registerWrite w be v s).link.busMastering = s.link.busMastering ∧
    (registerWrite w be v s).link.intxDisable = s.link.intxDisable ∧
    (registerWrite w be v s).lines.levels = s.lines.levels := by
  unfold registerWrite
  (repeat' split) <;> simp

@[simp] theorem failFetches_fields (n : Nat) (s : State) :
    (failFetches n s).power.dockTime = s.power.dockTime ∧ (failFetches n s).power.held = s.power.held ∧
    (failFetches n s).scanout.frame = s.scanout.frame ∧ (failFetches n s).exch.sessionOpen = s.exch.sessionOpen ∧
    (failFetches n s).exch.sessionNo = s.exch.sessionNo ∧
    (failFetches n s).exch.slots.length = s.exch.slots.length ∧ (failFetches n s).link.up = s.link.up ∧
    (failFetches n s).link.msiEnable = s.link.msiEnable ∧
    (failFetches n s).link.busMastering = s.link.busMastering ∧
    (failFetches n s).link.intxDisable = s.link.intxDisable ∧ (failFetches n s).link.intEnable = s.link.intEnable ∧
    (failFetches n s).lines.levels = s.lines.levels ∧ (failFetches n s).profile.active = s.profile.active := by
  induction n generalizing s with
  | zero => simp [failFetches]
  | succ n ih =>
    unfold failFetches
    dsimp only [takeOrder]
    (repeat' split) <;> simp [ih]

@[simp] theorem linkLost_fields (s : State) :
    (linkLost s).power.dockTime = s.power.dockTime ∧ (linkLost s).power.held = s.power.held ∧
    (linkLost s).scanout.frame = s.scanout.frame ∧ (linkLost s).exch.sessionNo = s.exch.sessionNo ∧
    (linkLost s).exch.slots.length = s.exch.slots.length ∧ (linkLost s).link.msiEnable = s.link.msiEnable ∧
    (linkLost s).link.busMastering = s.link.busMastering ∧ (linkLost s).link.intxDisable = s.link.intxDisable ∧
    (linkLost s).link.intEnable = s.link.intEnable ∧ (linkLost s).lines.levels = s.lines.levels ∧
    (linkLost s).profile.active = s.profile.active := by simp [linkLost]

@[simp] theorem linkDown_fields (s : State) :
    (linkDown s).power.dockTime = s.power.dockTime ∧ (linkDown s).power.held = s.power.held ∧
    (linkDown s).scanout.frame = s.scanout.frame ∧ (linkDown s).exch.sessionNo = s.exch.sessionNo ∧
    (linkDown s).exch.slots.length = s.exch.slots.length ∧ (linkDown s).link.msiEnable = s.link.msiEnable ∧
    (linkDown s).link.busMastering = s.link.busMastering ∧ (linkDown s).link.intxDisable = s.link.intxDisable ∧
    (linkDown s).link.intEnable = s.link.intEnable ∧ (linkDown s).lines.levels = s.lines.levels ∧
    (linkDown s).profile.active = s.profile.active := by
  unfold linkDown
  (repeat' split) <;> simp

@[simp] theorem linkReset_fields (s : State) :
    (linkReset s).scanout.frame = s.scanout.frame ∧ (linkReset s).exch.sessionNo = s.exch.sessionNo ∧
    (linkReset s).exch.slots.length = s.exch.slots.length ∧ (linkReset s).link.up = s.link.up ∧
    (linkReset s).link.intEnable = s.link.intEnable ∧ (linkReset s).profile.active = s.profile.active := by simp [linkReset]

@[simp] theorem linkUp_fields (s : State) :
    (linkUp s).link.msiEnable = s.link.msiEnable ∧ (linkUp s).link.busMastering = s.link.busMastering ∧
    (linkUp s).link.intxDisable = s.link.intxDisable ∧ (linkUp s).link.intEnable = s.link.intEnable := by simp [linkUp]

end Sys2Proof.Machine
end

