-- ==== Sys2Proof/Laws/Memory.lean ====
section
/-! SUPPORT. The laws of memory: every operation keeps the canonical form, a read after a write gives what was written, and
every other address reads as before. -/

namespace Sys2Proof.Machine

/-! ### The canonical form -/

theorem Memory.wfFrom_mono {lo lo' : Nat} {m : Memory} (h : lo' ≤ lo) (hm : Memory.wfFrom lo m = true) :
    Memory.wfFrom lo' m = true := by
  cases m with
  | nil => rfl
  | cons c m =>
    simp only [Memory.wfFrom, Bool.and_eq_true, decide_eq_true_eq] at hm ⊢
    exact ⟨⟨by omega, hm.1.2⟩, hm.2⟩

theorem Memory.cons_wf {lo a : Nat} {v : Byte} {m : Memory} (ha : lo ≤ a) (hm : Memory.wfFrom (a + 1) m = true) :
    Memory.wfFrom lo (Memory.cons a v m) = true := by
  unfold Memory.cons
  split
  · exact Memory.wfFrom_mono (by omega) hm
  · simp only [Memory.wfFrom, Bool.and_eq_true, decide_eq_true_eq]
    exact ⟨⟨ha, ‹_›⟩, hm⟩

theorem Memory.write_wfFrom {m : Memory} {lo a : Nat} {v : Byte} (ha : lo ≤ a) (hm : Memory.wfFrom lo m = true) :
    Memory.wfFrom lo (m.write a v) = true := by
  induction m generalizing lo with
  | nil => exact Memory.cons_wf ha rfl
  | cons c m ih =>
    obtain ⟨b, w⟩ := c
    simp only [Memory.wfFrom, Bool.and_eq_true, decide_eq_true_eq] at hm
    simp only [Memory.write]
    split
    · refine Memory.cons_wf ha ?_
      simp only [Memory.wfFrom, Bool.and_eq_true, decide_eq_true_eq]
      exact ⟨⟨by omega, hm.1.2⟩, hm.2⟩
    · split
      · next h => exact Memory.cons_wf ha (h ▸ hm.2)
      · simp only [Memory.wfFrom, Bool.and_eq_true, decide_eq_true_eq]
        exact ⟨hm.1, ih (by omega) hm.2⟩

/-- A stored byte keeps the canonical form. -/
theorem Memory.write_wf {m : Memory} {a : Nat} {v : Byte} (hm : m.wf = true) : (m.write a v).wf = true :=
  Memory.write_wfFrom (Nat.zero_le a) hm

/-- A run of stored bytes keeps the canonical form. -/
theorem Memory.writes_wf {m : Memory} {a : Nat} {vs : List Byte} (hm : m.wf = true) : (m.writes a vs).wf = true := by
  induction vs generalizing m a with
  | nil => exact hm
  | cons v vs ih => exact ih (Memory.write_wf hm)

theorem Memory.filter_wfFrom {m : Memory} {lo : Nat} {f : Host.Cell → Bool} (hm : Memory.wfFrom lo m = true) :
    Memory.wfFrom lo (m.filter f) = true := by
  induction m generalizing lo with
  | nil => rfl
  | cons c m ih =>
    obtain ⟨b, w⟩ := c
    simp only [Memory.wfFrom, Bool.and_eq_true, decide_eq_true_eq] at hm
    by_cases h : f (b, w) = true
    · simp only [List.filter_cons, h, if_true, Memory.wfFrom, Bool.and_eq_true, decide_eq_true_eq]
      exact ⟨hm.1, ih hm.2⟩
    · rw [List.filter_cons_of_neg h]
      exact ih (Memory.wfFrom_mono (by omega) hm.2)

/-- A cleared range keeps the canonical form. -/
theorem Memory.clear_wf {m : Memory} {lo hi : Nat} (hm : m.wf = true) : (m.clear lo hi).wf = true :=
  Memory.filter_wfFrom hm

/-- A stored word keeps the canonical form. -/
theorem Memory.writeWord_wf {m : Memory} {a : Nat} {be : BitVec 4} {v : Word} (hm : m.wf = true) :
    (m.writeWord a be v).wf = true := by
  unfold Memory.writeWord
  generalize List.range 4 = is
  induction is generalizing m with
  | nil => exact hm
  | cons i is ih =>
    simp only [List.foldl_cons]
    split
    · exact ih (Memory.write_wf hm)
    · exact ih hm

/-! ### Reads -/

@[simp] theorem Memory.read_nil (a : Nat) : Memory.read [] a = unlisted := rfl

/-- Below its first address a memory in canonical form reads as unlisted. -/
theorem Memory.read_below {m : Memory} {lo a : Nat} (hm : Memory.wfFrom lo m = true) (ha : a < lo) :
    m.read a = unlisted := by
  cases m with
  | nil => rfl
  | cons c m =>
    obtain ⟨b, w⟩ := c
    simp only [Memory.wfFrom, Bool.and_eq_true, decide_eq_true_eq] at hm
    rw [Memory.read, if_neg (by omega), if_pos (by omega)]

theorem Memory.read_cons {m : Memory} {a : Nat} {v : Byte} (hm : Memory.wfFrom (a + 1) m = true) (x : Nat) :
    (Memory.cons a v m).read x = if x = a then v else m.read x := by
  unfold Memory.cons
  split
  · next h =>
    split
    · next hx => rw [h, Memory.read_below hm (by omega)]
    · rfl
  · simp only [Memory.read]
    split
    · rfl
    · split
      · exact (Memory.read_below hm (by omega)).symm
      · rfl

theorem Memory.read_write_from {m : Memory} {lo a : Nat} {v : Byte} (hm : Memory.wfFrom lo m = true) (x : Nat) :
    (m.write a v).read x = if x = a then v else m.read x := by
  induction m generalizing lo with
  | nil => exact Memory.read_cons rfl x
  | cons c m ih =>
    obtain ⟨b, w⟩ := c
    have h := hm
    simp only [Memory.wfFrom, Bool.and_eq_true, decide_eq_true_eq] at h
    simp only [Memory.write]
    split
    · refine Memory.read_cons ?_ x
      simp only [Memory.wfFrom, Bool.and_eq_true, decide_eq_true_eq]
      exact ⟨⟨by omega, h.1.2⟩, h.2⟩
    · split
      · next hab =>
        subst hab
        rw [Memory.read_cons h.2, Memory.read]
        split
        · rfl
        · split
          · exact Memory.read_below h.2 (by omega)
          · rfl
      · simp only [Memory.read]
        split
        · next hxb => rw [if_neg (by omega)]
        · split
          · rw [if_neg (by omega)]
          · exact ih h.2

/-- A read after a stored byte: what was stored at its address, and elsewhere what was there. -/
theorem Memory.read_write {m : Memory} {a : Nat} {v : Byte} (hm : m.wf = true) (x : Nat) :
    (m.write a v).read x = if x = a then v else m.read x := Memory.read_write_from hm x

/-- A read after a run of stored bytes. -/
theorem Memory.read_writes {m : Memory} {a : Nat} {vs : List Byte} (hm : m.wf = true) (x : Nat) :
    (m.writes a vs).read x = if a ≤ x ∧ x < a + vs.length then vs.getD (x - a) 0 else m.read x := by
  induction vs generalizing m a with
  | nil => simp [Memory.writes]
  | cons v vs ih =>
    rw [Memory.writes, ih (Memory.write_wf hm), Memory.read_write hm]
    simp only [List.length_cons]
    by_cases h : a + 1 ≤ x ∧ x < a + 1 + vs.length
    · rw [if_pos h, if_pos (by omega), show x - a = (x - (a + 1)) + 1 by omega]
      simp
    · rw [if_neg h]
      by_cases hx : x = a
      · subst hx; simp
      · rw [if_neg hx, if_neg (by omega)]

/-- The bytes just stored read back. -/
theorem Memory.reads_writes {m : Memory} {a : Nat} {vs : List Byte} (hm : m.wf = true) :
    (m.writes a vs).reads a vs.length = vs := by
  refine List.ext_getElem (by simp [Memory.reads]) fun i h1 h2 => ?_
  simp only [Memory.reads, List.getElem_map, List.getElem_range, Memory.read_writes hm]
  rw [if_pos (by omega)]
  simp [List.getD_eq_getElem?_getD, h2]

/-- A run of stored bytes leaves every read outside it as it was. -/
theorem Memory.reads_writes_outside {m : Memory} {a b n : Nat} {vs : List Byte} (hm : m.wf = true)
    (h : b + n ≤ a ∨ a + vs.length ≤ b) : (m.writes a vs).reads b n = m.reads b n := by
  simp only [Memory.reads]
  refine List.map_congr_left fun i hi => ?_
  rw [List.mem_range] at hi
  rw [Memory.read_writes hm, if_neg (by omega)]

/-- A read of a byte that a stored word covers (R1, R2). -/
theorem Memory.read_writeWord_at {m : Memory} {a i : Nat} {be : BitVec 4} {v : Word} (hm : m.wf = true) (hi : i < 4)
    (hbe : be.getLsbD i = true) : (m.writeWord a be v).read (a + i) = byteOf v i := by
  have h0 := fun (m : Memory) (hm : m.wf = true) j (b : Bool) =>
    show (if b then m.write (a + j) (byteOf v j) else m).wf = true by split <;> simp_all [Memory.write_wf]
  have h1 := fun (m : Memory) (hm : m.wf = true) j (b : Bool) =>
    show (if b then m.write (a + j) (byteOf v j) else m).read (a + i) =
      if b = true ∧ i = j then byteOf v j else m.read (a + i) by
        cases b <;> simp [Memory.read_write hm]
  simp only [Memory.writeWord, List.range, List.range.loop, List.foldl_cons, List.foldl_nil]
  rw [h1 _ (h0 _ (h0 _ (h0 _ hm _ _) _ _) _ _), h1 _ (h0 _ (h0 _ hm _ _) _ _), h1 _ (h0 _ hm _ _), h1 _ hm]
  have : i = 0 ∨ i = 1 ∨ i = 2 ∨ i = 3 := by omega
  rcases this with rfl | rfl | rfl | rfl <;> simp [hbe]

/-- A stored word leaves every byte that its enables do not cover (R1, R2). -/
theorem Memory.read_writeWord_outside {m : Memory} {a x : Nat} {be : BitVec 4} {v : Word} (hm : m.wf = true)
    (h : ∀ i, i < 4 → be.getLsbD i = true → x ≠ a + i) : (m.writeWord a be v).read x = m.read x := by
  have h0 := fun (m : Memory) (hm : m.wf = true) j (b : Bool) =>
    show (if b then m.write (a + j) (byteOf v j) else m).wf = true by split <;> simp_all [Memory.write_wf]
  have h1 := fun (m : Memory) (hm : m.wf = true) j (hj : j < 4) =>
    show (if be.getLsbD j then m.write (a + j) (byteOf v j) else m).read x = m.read x by
      split
      · rw [Memory.read_write hm, if_neg (h j hj ‹_›)]
      · rfl
  simp only [Memory.writeWord, List.range, List.range.loop, List.foldl_cons, List.foldl_nil]
  rw [h1 _ (h0 _ (h0 _ (h0 _ hm _ _) _ _) _ _) 3 (by omega), h1 _ (h0 _ (h0 _ hm _ _) _ _) 2 (by omega),
    h1 _ (h0 _ hm _ _) 1 (by omega), h1 _ hm 0 (by omega)]

theorem Memory.read_filter_from {m : Memory} {lo : Nat} {f : Host.Cell → Bool} {p : Nat → Bool}
    (hf : ∀ c, f c = p c.1) (hm : Memory.wfFrom lo m = true) (x : Nat) :
    Memory.read (m.filter f) x = if p x then m.read x else unlisted := by
  induction m generalizing lo with
  | nil => simp
  | cons c m ih =>
    obtain ⟨b, w⟩ := c
    simp only [Memory.wfFrom, Bool.and_eq_true, decide_eq_true_eq] at hm
    by_cases h : f (b, w) = true
    · rw [List.filter_cons_of_pos h]
      simp only [Memory.read]
      rw [ih hm.2]
      by_cases hx : x = b
      · subst hx
        rw [hf] at h
        simp [h]
      · simp only [hx, if_false]
        split
        · simp
        · rfl
    · rw [List.filter_cons_of_neg h, ih hm.2]
      have hp : ¬p b = true := by rw [hf] at h; exact h
      by_cases hx : x = b
      · subst hx; simp [hp]
      · simp only [Memory.read, hx, if_false]
        split
        · split
          · exact Memory.read_below hm.2 (by omega)
          · rfl
        · rfl

/-- A read after a range was cleared. -/
theorem Memory.read_clear {m : Memory} {lo hi : Nat} (hm : m.wf = true) (x : Nat) :
    (m.clear lo hi).read x = if lo ≤ x ∧ x < hi then unlisted else m.read x := by
  unfold Memory.clear
  rw [Memory.read_filter_from (p := fun a => !(decide (lo ≤ a) && decide (a < hi))) (fun _ => rfl) hm x]
  by_cases h : lo ≤ x ∧ x < hi <;> simp [h]

end Sys2Proof.Machine
end

