-- ==== Sys2Proof/Laws/Canonical.lean ====
section
/-! SUPPORT. The canonical form of the memories under the operations that write them, and the gates of the commands. -/

namespace Sys2Proof.Machine

/-- The Exchange Memory after a cold start has the canonical form. -/
theorem reset_mem_wf : State.reset.mem.wf = true := rfl

/-! ### The journal's writes -/

theorem putRecord_wf (seq : Word) (r : Rec) {s : State} (h : s.mem.wf = true) : (putRecord seq r s).mem.wf = true := Memory.writes_wf h

theorem putRecords_wf (seq : Word) (rs : List Rec) {s : State} (h : s.mem.wf = true) : (putRecords seq rs s).mem.wf = true := by
  induction rs generalizing seq s with
  | nil => exact h
  | cons r rs ih => exact ih (seq + 1) (putRecord_wf seq r h)

theorem writeGroup_wf {s : State} (h : s.mem.wf = true) : (writeGroup s).mem.wf = true := by
  simpa [writeGroup] using putRecords_wf s.journal.head (resyncGroup s) h

theorem recoveryTest_wf {s : State} (h : s.mem.wf = true) : (recoveryTest s).mem.wf = true := by
  unfold recoveryTest
  split
  · exact writeGroup_wf h
  · exact h

theorem handRecord_wf (r : Rec) {s : State} (h : s.mem.wf = true) : (handRecord r s).mem.wf = true := by
  unfold handRecord
  (repeat' split)
  · exact h
  · exact recoveryTest_wf h
  · simpa using h
  · simpa using putRecord_wf s.journal.head r h

theorem keyRecord_wf (k : RecordKind) (p : Fin 128) (fl : Byte) (d : Half) {s : State} (h : s.mem.wf = true) :
    (keyRecord k p fl d s).mem.wf = true := handRecord_wf _ h

theorem plainRecord_wf (k : RecordKind) (d : Half) {s : State} (h : s.mem.wf = true) : (plainRecord k d s).mem.wf = true := handRecord_wf _ h

theorem wakeRecord_wf (w : WakeSource) {s : State} (h : s.mem.wf = true) : (wakeRecord w s).mem.wf = true := by
  unfold wakeRecord
  split
  · exact keyRecord_wf _ _ _ _ h
  · exact plainRecord_wf _ _ h

theorem moveTaken_wf (v : Word) {s : State} (h : s.mem.wf = true) : (moveTaken v s).mem.wf = true := by
  unfold moveTaken
  dsimp only
  split
  · exact recoveryTest_wf h
  · exact h

theorem takenWrite_wf (v : Word) {s : State} (h : s.mem.wf = true) : (takenWrite v s).mem.wf = true := by
  unfold takenWrite
  (repeat' split)
  · exact h
  · exact moveTaken_wf _ h
  · simpa using moveTaken_wf s.journal.head h
  · exact h

theorem journalOpen_wf {s : State} (h : s.mem.wf = true) : (journalOpen s).mem.wf = true := writeGroup_wf h

/-! ### Frame memory -/

theorem set_wf {f : Frames} {buf : Buffer} {m : Memory} (hf : ∀ c, (f.get c).wf = true) (hm : m.wf = true) (c : Buffer) :
    ((f.set buf m).get c).wf = true := by
  by_cases h : c = buf
  · rw [h, get_set_same]; exact hm
  · rw [get_set_other f m h]; exact hf c

/-- A row written keeps the three buffers in canonical form (R117). -/
theorem writeRow_wf (buf : Buffer) (x y : Nat) (px : List Half) {s : State} (h : ∀ c, (s.frames.get c).wf = true)
    (c : Buffer) : ((writeRow buf x y px s).frames.get c).wf = true :=
  set_wf h (Memory.writes_wf (h buf)) c

/-- A row of a carry copy keeps the three buffers in canonical form (R136). -/
theorem copyRow_wf (y : Nat) {s : State} (h : ∀ c, (s.frames.get c).wf = true) (c : Buffer) :
    ((copyRow y s).frames.get c).wf = true :=
  set_wf h (Memory.writes_wf (h _)) c

/-! ### Gates -/

@[simp] theorem whenRunning_held (f : State → State) {s : State} (h : s.power.held = true) : whenRunning f s = s := by
  simp [whenRunning, h]

@[simp] theorem whenRunning_running (f : State → State) {s : State} (h : s.power.held = false) :
    whenRunning f s = f s := by simp [whenRunning, h]

@[simp] theorem whenLinked_held (f : State → State) {s : State} (h : s.power.held = true) : whenLinked f s = s := by
  simp [whenLinked, h]

@[simp] theorem whenLinked_down (f : State → State) {s : State} (h : s.link.up = false) : whenLinked f s = s := by
  cases hh : s.power.held <;> simp [whenLinked, hh, h]

@[simp] theorem whenLinked_linked (f : State → State) {s : State} (h : s.power.held = false) (hl : s.link.up = true) :
    whenLinked f s = f s := by simp [whenLinked, h, hl]

end Sys2Proof.Machine
end

