-- ==== Sys2Proof/Laws/Cases.lean ====
section
/-! SUPPORT. What the most used operations write, in one lemma for each of their cases. -/

namespace Sys2Proof.Machine

/-! ### Attention and completions (R12, R19) -/

/-- A cause raised is in attention, beside those that were there (R19). -/
theorem raise_attention (c : Cause) (s : State) : (raise c s).exch.attention = s.exch.attention ||| c.bit := by
  unfold raise sendMessage
  dsimp only
  (repeat' split) <;> rfl

/-- Raising a cause changes attention alone in the exchange. -/
theorem raise_exch (c : Cause) (s : State) :
    (raise c s).exch = { s.exch with attention := s.exch.attention ||| c.bit } := by
  unfold raise sendMessage
  dsimp only
  (repeat' split) <;> rfl

/-- A completion writes its slot's record, and attention when notify was yes (R12). -/
theorem complete_exch (k : Fin 16) (n : Bool) (code : ResultCode) (fl : Byte) (c : Nat) (s : State) :
    (complete k n code fl c s).exch =
      { s.exch with
        slots := s.exch.slots.set k.val (resultFields code fl c s (slot s k)),
        attention := if n then s.exch.attention ||| Cause.bit .slot else s.exch.attention } := by
  unfold complete
  dsimp only
  split <;> simp [raise_exch, *]

/-! ### A record handed to the Journal Writer (R76) -/

theorem handRecord_closed (r : Rec) {s : State} (h : s.exch.sessionOpen = false) : handRecord r s = s := by
  simp [handRecord, h]

theorem handRecord_episode (r : Rec) {s : State} (h : s.exch.sessionOpen = true) (he : s.journal.episode = true) :
    handRecord r s = recoveryTest (dropRecord s) := by simp [handRecord, h, he]

theorem handRecord_full (r : Rec) {s : State} (h : s.exch.sessionOpen = true) (he : s.journal.episode = false)
    (hu : 256 ≤ untaken s) : handRecord r s = raise .loss { dropRecord s with journal.episode := true } := by
  simp [handRecord, h, he, Config.ringSize, hu]

theorem handRecord_written (r : Rec) {s : State} (h : s.exch.sessionOpen = true) (he : s.journal.episode = false)
    (hu : untaken s < 256) : handRecord r s = advanceHead 1 (putRecord s.journal.head r s) := by
  simp [handRecord, h, he, Config.ringSize, hu]

/-- Head after an advance; the mark test does not move it (R77, R81). -/
@[simp] theorem advanceHead_head (n : Nat) (s : State) :
    (advanceHead n s).journal.head = s.journal.head + BitVec.ofNat 32 n := by
  unfold advanceHead testMark
  split <;> simp

/-- The 16 bytes of a record (R73). -/
@[simp] theorem recordBytes_length (seq time : Word) (r : Rec) : (recordBytes seq time r).length = 16 := rfl

/-- A record just put reads back whole (R74). -/
theorem reads_putRecord (seq : Word) (r : Rec) {s : State} (h : s.mem.wf = true) :
    (putRecord seq r s).mem.reads (recordOffset seq) 16 = recordBytes seq (now s) r := by
  simpa using Memory.reads_writes (a := recordOffset seq) (vs := recordBytes seq (now s) r) h

/-- A record put leaves every byte outside its place (R73). -/
theorem read_putRecord (seq : Word) (r : Rec) {s : State} (h : s.mem.wf = true) {a : Nat}
    (ha : a < recordOffset seq ∨ recordOffset seq + 16 ≤ a) : (putRecord seq r s).mem.read a = s.mem.read a := by
  rw [putRecord_mem, Memory.read_writes h, if_neg (by simp; omega)]

/-! ### The target and the output (R146 to R148) -/

/-- A recomputation sets the target its inputs give (R146). -/
theorem recompute_target (s : State) : (recompute s).light.target = targetLevel s := by
  unfold recompute
  dsimp only
  split <;> rfl

/-- Nothing that the target is computed from moves in a recomputation. -/
theorem targetLevel_recompute (s : State) : targetLevel (recompute s) = targetLevel s := by
  unfold recompute
  dsimp only
  split <;> rfl

/-- The output moves in a recomputation only in the immediate cases, and then to the target (R147). -/
theorem recompute_output (s : State) :
    (recompute s).light.output = if immediate s then targetLevel s else s.light.output := by
  unfold recompute
  dsimp only
  split <;> simp [*]

/-- The settings, the average and the idle timer stay in a recomputation. -/
@[simp] theorem recompute_light (s : State) :
    (recompute s).light.settings = s.light.settings ∧ (recompute s).light.ambient = s.light.ambient ∧
    (recompute s).light.idle = s.light.idle ∧ (recompute s).light.idleEnds = s.light.idleEnds ∧
    (recompute s).light.lamps = s.light.lamps ∧ (recompute s).light.tickAt = s.light.tickAt := by
  unfold recompute
  dsimp only
  split <;> simp

/-! ### Lists read from a start index -/

theorem mapFrom_length {α β : Type} (f : Nat → α → β) (n : Nat) (l : List α) : (mapFrom f n l).length = l.length := by
  induction l generalizing n with
  | nil => rfl
  | cons a l ih => simp [mapFrom, ih]

theorem mapFrom_getElem? {α β : Type} (f : Nat → α → β) (n : Nat) (l : List α) (i : Nat) :
    (mapFrom f n l)[i]? = l[i]?.map (f (n + i)) := by
  induction l generalizing n i with
  | nil => rfl
  | cons a l ih =>
    cases i with
    | zero => rfl
    | succ i => simpa [mapFrom, Nat.add_right_comm n 1 i, Nat.add_assoc] using ih (n + 1) i

/-! ### A swap's integrators (R41) -/

/-- No integrator stands above the new T_press after a swap. -/
theorem swapInteg_le (t : Nat) (before after : KeyClass) (i : Nat) : swapInteg t before after i ≤ t := by
  unfold swapInteg
  split <;> omega

/-- A position that stays out of NONE, or goes into it, is clamped alone. -/
theorem swapInteg_clamp (t : Nat) {before after : KeyClass} (h : before ≠ .none ∨ after = .none) (i : Nat) :
    swapInteg t before after i = min i t := by
  unfold swapInteg
  split
  · next hn => exact absurd hn.1 (h.resolve_right hn.2)
  · rfl

/-! ### A lost link (R120) -/

/-- With no HOST row in its fetch, nothing fails before the session end. -/
theorem failFetches_none (n : Nat) {s : State} (h : fetchesHostRow s = false) : failFetches n s = s := by
  cases n with
  | zero => rfl
  | succ n => simp [failFetches, h]

/-- Where a HOST row is in its fetch, the free value decides whether it fails before the session end. -/
theorem failFetches_fetching (n : Nat) {s : State} (h : fetchesHostRow s = true) :
    failFetches (n + 1) s =
      if Config.eitherOrder s.freeCount then
        failFetches n (look (failPicture { s with freeCount := s.freeCount + 1 }))
      else { s with freeCount := s.freeCount + 1 } := by
  rw [failFetches, if_pos h]
  rfl

/-- After a failure the engine is FREE. -/
theorem failPicture_work (s : State) : (failPicture s).picture.work = .free := by
  unfold failPicture finishPicture
  (repeat' split) <;> rfl

end Sys2Proof.Machine
end

