-- ==== Sys2Proof/Tests/Slice0.lean ====
section
/-! SUPPORT. Tests of the model: the checks of well-formed commands, values the rules give, and for every statement with
hypotheses a state and operands that meet them. -/

namespace Sys2Proof.Tests

open Sys2Proof.Machine

/-! ### States -/

/-- Bytes stored at offsets from a base. -/
def bytesAt (base : Nat) (bs : List (Nat × Byte)) : Memory := bs.foldl (fun m b => m.write (base + b.1) b.2) []

/-- A part with its link up, past clearing. -/
def linked : State :=
  { State.reset with link := { Link.start with up := true }, frames := { Frames.start with clearing := false } }

/-- The same part, docked. -/
def docked : State := { linked with lines := { linked.lines with docked := true } }

/-- The same part with an open session. -/
def opened : State := { docked with exch := { docked.exch with sessionOpen := true } }

/-- The open part with bytes in the record of slot `k`. -/
def posting (k : Fin 16) (bs : List (Nat × Byte)) : State := { opened with mem := bytesAt (slotOffset k) bs }

def byteAt (s : State) (k : Fin 16) (o : Nat) : Nat := (s.mem.read (0x0100 + 64 * k.val + o)).toNat

/-- A key table with one key in a state, its integrator and down time given. -/
def oneKey (p : Fin 128) (st : KeyState) (integ downTime : Nat) (s : State) : State :=
  setKey p ⟨integ, false, st, downTime, false⟩ s

/-- A DOWN key in the Held Set. -/
def holding (p : Fin 128) (integ downTime : Nat) (s : State) : State :=
  let s' := oneKey p .down integ downTime s
  { s' with composer.held := [p] }

/-- The active profile with another class at every position. -/
def allClass (c : KeyClass) (s : State) : State :=
  { s with profile.active.classes := List.replicate 128 c }

def at_ (t : Word) (s : State) : State := { s with power.dockTime := t }

def job (k : Fin 16) (kind : Byte) : Job := ⟨k, kind, true, [], 0⟩

/-- A slot that a context holds. -/
def active (k : Fin 16) (s : State) : State := setSlotState k .active s

def settingsHolds (kind : Byte) : State :=
  let s := active 15 opened
  { s with exch.settingsJob := some (job 15 kind) }

/-- A FILL of one row of one pixel at the top left of the back buffer. -/
def pictureHolds (w : WorkState) : State :=
  let s := active 15 opened
  { s with picture := { Picture.start with
    job := some (job 15 kindFill), work := w, writing := w == .row, fill := true, dest := .b,
    rowPixels := [0xABCD] } }

/-- A PRESENT that waits for a vertical blank. -/
def presentWaits (carry : Bool) : State :=
  let s := active 15 opened
  { s with picture := { Picture.start with job := some (job 15 kindPresent) },
           scanout := { s.scanout with panel := .on, stage := none, waiting := some carry } }

/-- A carry copy at a row. -/
def carrying (row : Nat) (stopping abandoned : Bool) : State :=
  let s := active 15 opened
  { s with picture := { Picture.start with job := some (job 15 kindPresent) },
           scanout := { s.scanout with carry := some ⟨row, true, abandoned, stopping⟩ } }

/-- A staged profile, its wait timer ending at Dock Time 100. -/
def profileStaged : State :=
  let s := active 15 opened
  { s with profile := { s.profile with
    staged := some ⟨{ Profile.default with tag := 7, adaptation := false }, true, ms 100⟩,
    job := some (job 15 kindProfile) } }

/-- A HOST row of one pixel, one read outstanding, issued at Dock Time 0. -/
def fetching : State :=
  let s := active 15 opened
  { s with picture := { Picture.start with
    job := some (job 15 kindCopy), work := .row, dest := .b, rowBuf := [none, none],
    reads := [⟨3, ⟨0x1000, 0, 2⟩, 0⟩], nextTag := 4 } }

/-- A COPY at the boundary before its one row, x1 + 1 pixels wide from the top left corner; its source has the pixel bytes
0, 128, 255, 0 at the start of the Staging Area. -/
def rowDue (space format : Byte) (x1 : Nat) : State :=
  let s := active 15 opened
  { s with
    mem := bytesAt 0x1D00 [(1, 128), (2, 255)], link.busMastering := true,
    picture := { Picture.start with
      job := some (job 15 kindCopy), work := .row, params := [space, format], dest := .b, clip := ⟨0, x1, 0, 0⟩ } }

/-- A slot posted for the PICTURE context, which clearing holds, while a key is held. -/
def busy : State :=
  let s := setSlotState 2 .posted (holding 5 4 30 opened)
  { s with pending := [.downTimeAdvance], exch.queue := [⟨2, kindFill, true, true⟩], frames := Frames.start,
           power.dockTime := 1 }

/-! ### Well-formed commands: each check refuses an ill-formed term, and lets a well-formed one pass -/

theorem test_wellFormed_refuses_unnatural_enables : (Instr.exchangeMemoryWrite 0x41 0x6 0).wellFormed = false := by decide
theorem test_wellFormed_takes_natural_enables : (Instr.exchangeMemoryWrite 0x41 0xC 0).wellFormed = true := by decide
theorem test_wellFormed_refuses_write_of_another_row : (Instr.exchangeMemoryWrite 1 0xF 2).wellFormed = false := by decide
theorem test_wellFormed_refuses_enable_write_with_reset : (Instr.interruptEnableWrite 3).wellFormed = false := by decide
theorem test_wellFormed_refuses_reset_without_field : (Instr.functionReset 1).wellFormed = false := by decide
theorem test_wellFormed_refuses_ignored_control_write :
    (Instr.registerWriteIgnored 1 0xF 0).wellFormed = false := by decide
theorem test_wellFormed_refuses_ignored_unnatural_enables :
    (Instr.registerWriteIgnored 2 0x7 0).wellFormed = false := by decide
theorem test_wellFormed_refuses_long_completion :
    (Instr.hostReadCompletion 0 255 [1, 2] false false).wellFormed = false := by decide
theorem test_wellFormed_refuses_empty_completion :
    (Instr.hostReadCompletion 0 0 [] false false).wellFormed = false := by decide
theorem test_wellFormed_takes_error_completion :
    (Instr.hostReadCompletion 0 0 [] true false).wellFormed = true := by decide

/-! ### Writes and commands (R1, R2, section 1.8) -/

/-- The last slot's state word is 0x04C0; 8 is CANCEL. -/
theorem test_write_is_cancel : commandOfWrite 0x130 0xF 8 = .cancel 15 := by decide

/-- The writes of a burst keep their order: the session word, then Session Number. -/
theorem test_burst_is_write_by_write :
    commandsOfBurst 1 [(0xF, 1), (0xF, 5)] = [.sessionOpen, .exchangeMemoryWrite 2 0xF 5] := by decide

/-- No word spells a command. -/
theorem test_table_gives_no_bits : decodeTableWord 16 0xFFFF = none := rfl

/-- A 16-bit write to the low half of a plain word leaves the high half (R1). -/
theorem test_exchangeMemoryWrite_half :
    (exchangeWrite 0x800 0x3 0x11223344 linked).mem = [(0x2000, 0x44), (0x2001, 0x33)] := by decide

/-- Head at 0x000C is part-owned: the write is counted with its offset (R3). -/
theorem test_exchangeMemoryWrite_refused :
    readWord (exchangeWrite 3 0xF 9 linked) 0x0028 = 0x000C0001 := by decide

/-! ### Session and journal (R6, R84, R87) -/

/-- The RESYNC record of an empty Held Set: sequence 0, Dock Time 0, kind 7, no position. -/
theorem test_sessionOpen_writes_resync :
    (openSession docked).mem.reads 0x0500 16 = [0, 0, 0, 0, 0, 0, 0, 0, 7, 0xFF, 0, 0, 0, 0, 0, 0] := by decide

/-- The first session has number 1, and its group leaves Head at 1. -/
theorem test_sessionOpen_head :
    readWord (openSession docked) 0x0008 = 1 ∧ readWord (openSession docked) 0x000C = 1 := by decide

/-- A write of Taken beyond Head takes everything and is refused (R78). -/
theorem test_journalTakenWrite_beyond :
    (takenWrite 3 (openSession docked)).journal.taken = 1 ∧ (takenWrite 3 (openSession docked)).exch.refused = 1 := by
  decide

/-- A mark that Head has reached raises MARK at once (R80). -/
theorem test_notifyMarkWrite_reached : (markWrite 1 (openSession docked)).exch.attention = 1 := by decide

/-- 256 records untaken: the next is lost, with LOSS (R82). -/
theorem test_full_ring_loses :
    let s := plainRecord .latch 1 { opened with journal.head := 256 }
    s.journal.lost = 1 ∧ s.journal.episode = true ∧ s.exch.attention = 4 := by decide

/-! ### Slots (R9 to R13, R18) -/

/-- An unknown kind ends FAILED with BAD_KIND, and SLOT is raised for notify (R12, R18). -/
theorem test_post_bad_kind :
    let s := postWrite 0 (posting 0 [(4, 9), (6, 1)])
    (slot s 0).state = .failed ∧ (slot s 0).code = .badKind ∧ s.exch.attention = 2 := by decide

/-- CAPS and AUX2 on, then CAPS off by the clear mask; the lamps of bits 5 and 6 are not the tablet's (R152). -/
theorem test_post_indicators :
    (postWrite 0 (posting 0 [(4, 5), (0x1C, 0xF1), (0x1D, 1)])).light.lamps = 0b10000#5 := by decide

/-- A posted slot that is cancelled ends CANCELLED (R10). -/
theorem test_cancel_posted : (slot (cancelWrite 2 busy) 2).state = .cancelled := by decide

/-- A slot that a context holds is not given back (R11). -/
theorem test_free_active_refused : (freeWrite 15 (settingsHolds kindLight)).exch.lastRefused = 0x04C0 := by decide

/-- The following event completes a LIGHT slot (R13). -/
theorem test_settingsCompletion : (slot (settingsComplete (settingsHolds kindLight)) 15).state = .done := by decide

/-! ### Attention, link and registers (R19 to R25) -/

/-- A message goes out when attention leaves empty under MSI, and INTx stays low (R20, R21). -/
theorem test_raise_message :
    let l := { Link.start with up := true, busMastering := true, msiEnable := true, intEnable := true }
    (raise .slot { opened with link := l }).link.messages = 1 ∧ intx (raise .slot { opened with link := l }) = false := by
  decide

/-- The link goes down: the session ends (R25). -/
theorem test_linkDown : (linkDown busy).exch.sessionOpen = false ∧ (linkDown busy).link.up = false := by decide

/-- The tablet's change of the configuration is stored whole (R25), and a link reset disables it. -/
theorem test_busMasteringChange :
    exec (.busMasteringChange ⟨true, true, true⟩) linked = .next { linked with link := { linked.link with
      windowsAssigned := true, memoryDecoding := true, busMastering := true } } ∧
      (linkReset { linked with link.memoryDecoding := true, link.busMastering := true }).link = linked.link :=
  ⟨rfl, by decide⟩

/-- A read failure taken first at a loss of the link completes its slot, and the freed context takes the next slot before
the session end; the row that the FILL begins there then runs to its end as abandoned work (R12, R120). -/
theorem test_linkLost_failure_first :
    let s := { setSlotState 2 .posted fetching with exch.queue := [⟨2, kindFill, false, false⟩] }
    let s := { s with mem := bytesAt (slotOffset 2) [(0x2C, 1), (0x2E, 1)] }
    let t := giveUpReads (endSession (look (failPicture s)))
    (slot t 15).code = .readError ∧ (slot t 2).state = .free ∧ t.picture.work = .stopping ∧ t.picture.writing = true := by
  decide

/-- INTx follows the interrupt-disable control (R21). -/
theorem test_intx_disable :
    let s := raise .slot { opened with link := { Link.start with up := true, intEnable := true } }
    intx s = true ∧ intx { s with link.intxDisable := true } = false := by decide

/-- STATUS after a cold start: ACTIVE, CLOSED, NORMAL, panel STARTING, source STANDBY. -/
theorem test_status_at_reset : readRegister State.reset 2 = 0x000000A0 := by decide

/-- A CONTROL write without the reset field stores interrupt enable (R23). -/
theorem test_interruptEnableWrite : readRegister (controlWrite 1 linked) 1 = 1 := by decide

/-- A read of STATUS narrower than 32 bits returns zero (R22). -/
theorem test_registerRead_narrow :
    registerRead State.reset 2 0xF = 0x000000A0 ∧ registerRead State.reset 2 0x3 = 0 := by decide

/-- A function reset clears interrupt enable and shows itself in the start record (R23, R176). -/
theorem test_functionReset :
    readRegister (controlWrite 3 linked) 1 = 0 ∧ readWord (controlWrite 3 linked) 0x002C = 0x00000103 := by decide

/-! ### Keys (R30 to R62) -/

/-- Positions 0, 1 and 16 closed make 17 a ghost; without 16 it is none (R30). -/
theorem test_ghost : ghosted 0x30003#128 17 = true ∧ ghosted 0x20003#128 17 = false := by decide

/-- A drive line shorted low closes its sixteen positions, 16 to 31 for line 1; a sense line broken open, here line 3,
opens its eight (R180). -/
theorem test_shorted_and_broken_lines :
    (∀ p < 128, (rawOfLevels (~~~(0xFFFF#128 <<< 16))).getLsbD p = decide (16 ≤ p ∧ p < 32)) ∧
      (∀ d < 8, (rawOfLevels 0x00080008000800080008000800080008#128).getLsbD (16 * d + 3) = false) := by decide

/-- The matrix drive lines are undriven at a start until the first FAST pass, and the power-up hold is safe (R178). -/
theorem test_matrix_driven :
    (pins State.reset).matrixDriven = false ∧ (pins (fastPassDecide 0 (at_ 1 linked))).matrixDriven = true ∧
      pins (poweringUp openInputs) = Pins.safe := by decide

/-- A press is due at T_press and not before (R33); a release at Rb and not above (R34). -/
theorem test_decisions :
    pressDue 4 ⟨4, false, .up, 0, false⟩ = true ∧ pressDue 4 ⟨3, false, .up, 0, false⟩ = false ∧
      releaseDue 1 ⟨1, false, .down, 0, false⟩ = true ∧ releaseDue 1 ⟨2, false, .down, 0, false⟩ = false := by decide

/-- V jumps up to the raw value and falls by one (R38). -/
theorem test_windowEnd_vib : nextVib true 2 20 = 5 ∧ nextVib true 5 4 = 4 ∧ nextVib true 0 255 = 8 ∧ nextVib false 5 20 = 0 := by
  decide

/-- The fourth closed sample in a row presses a key under the default profile (R31 to R33, R55). -/
theorem test_fastPass_presses :
    let s := fastPassDecide 0x20#128 (oneKey 5 .up 3 0 opened)
    (key s 5).state = .down ∧ s.composer.held = [5] := by decide

/-- A due linger timer meets the KEY activity of a press only in ACTIVE and where KEY is selected (R175). -/
theorem test_expiryMeetsPress :
    let s := { opened with power.lingerEnds := some 0 }
    expiryMeetsPress s = true ∧ expiryMeetsPress { s with power.standby := true } = false ∧
      expiryMeetsPress { s with power.lingerSources := 0b100#3 } = false ∧ expiryMeetsPress opened = false := by decide

/-- In drive mode a key that is not permitted is MUTED, with its record (R53). -/
theorem test_press_drive :
    let s := press 5 { opened with lines.drive := true }
    (key s 5).state = .muted ∧ s.mem.read 0x0508 = 6 := by decide

/-- The eleventh key is MUTED (R50, R54). -/
theorem test_press_rollover :
    (key (press 60 { opened with composer.held := [1, 2, 3, 4, 5, 6, 7, 8, 9, 10] }) 60).state = .muted := by decide

/-- A release record carries the snapshot without the released key (R57, R67). -/
theorem test_release_record :
    (release 5 (holding 5 1 30 (allClass (.modifier 1) opened))).mem.reads 0x0508 6 = [2, 5, 5, 0, 0, 0] := by decide

/-- 30 s under the default stuck limit (R62). -/
theorem test_stuck :
    (key (stuckTest 5 (holding 5 4 30000 opened)) 5).state = .stuck ∧
      (key (stuckTest 5 (holding 5 4 29999 opened)) 5).state = .down := by decide

/-- An advance that reaches both limits builds the HOLD record, then the RELEASE record flagged STUCK (R60 to R62). -/
theorem test_hold_then_stuck :
    let s := advanceKey 5 (holding 5 4 29999 (allClass .hold opened))
    s.mem.read 0x0508 = 4 ∧ s.mem.reads 0x0518 6 = [2, 5, 5, 0, 0, 1] := by decide

/-- The hold time reports once (R61). -/
theorem test_hold :
    let s := holdTest 5 (holding 5 4 800 (allClass .hold opened))
    s.journal.head = 1 ∧ (holdTest 5 s).journal.head = 1 := by decide

/-- A REPEAT record carries the new count (R66). -/
theorem test_repeatExpiry :
    let s := repeatFires { holding 5 4 500 opened with composer.subject := some 5, composer.repeatCount := 3 }
    s.mem.reads 0x0508 8 = [3, 5, 5, 0, 0, 0, 4, 0] := by decide

/-- A closed sample of an UP key at a SLOW pass starts FAST scan, with no press yet (R43). -/
theorem test_slowPass :
    let s := slowPass 0x20#128 { at_ 32 opened with scanner.mode := .slow, power.standby := true }
    s.scanner.mode = .fast ∧ (key s 5).state = .up ∧ s.power.standby = true := by decide

/-- SLOW scan begins at 2000 idle passes in STANDBY (R45). -/
theorem test_slowScanEntry :
    slowDue { opened with scanner.idlePasses := 2000, power.standby := true } = true ∧
      slowDue { opened with scanner.idlePasses := 1999, power.standby := true } = false ∧
        slowDue { opened with scanner.idlePasses := 2000 } = false := by decide

/-- A wake in the millisecond of a due SLOW pass lets the FAST pass be made in it, one before it does not (R46). -/
theorem test_wake_in_slow_scan :
    let s := fun t => { at_ t opened with scanner.mode := .slow, power.standby := true }
    fastDue (wakeSource .host (s 32)) = true ∧ fastDue (wakeSource .host (s 31)) = false ∧
      fastDue (at_ 32 (wakeSource .host (s 31))) = true := by decide

/-- One millisecond more of a held key (R60). -/
theorem test_downTimeAdvance : (key (advanceDownTimes busy) 5).downTime = 31 := by decide

/-! ### Profiles (R93 to R100) -/

/-- P 20 becomes 12 and Rb 12 becomes 11 (R95). -/
theorem test_profile_clamped :
    let p := imageProfile [0, 0, 20, 12] []
    p.pressBase = 12 ∧ p.releaseBase = 11 := by decide

/-- Class bytes 4 and 0x18 name no class (R94). -/
theorem test_profile_classes :
    classOfByte 4 = none ∧ classOfByte 0x18 = none ∧ classOfByte 0x17 = some (.modifier 7) := by decide

/-- A position that a swap takes out of NONE starts from I = 0; any other integrator is clamped to the new T_press, here
P = 4 with V = 0 (R41). -/
theorem test_swap_integrators :
    (key (quietTest (allClass .none (oneKey 5 .up 3 0 profileStaged))) 5).integ = 0 ∧
      (key (quietTest (oneKey 5 .stuck 6 0 profileStaged)) 5).integ = 4 := by decide +kernel

/-- The wait timer runs out and the profile is discarded (R100). -/
theorem test_profileWaitExpiry : (slot (profileExpiry (at_ 100 profileStaged)) 15).code = .keysHeld := by decide

/-! ### Pictures (R108 to R136) -/

/-- The pixel conversion at its corners (R116): white, black, and (v x top + 127) div 255 of 128, 4 and 3. -/
theorem test_convertPixel :
    convertPixel 0xFF 0xFF 0xFF = 0xFFFF ∧ convertPixel 0 0 0 = 0 ∧
      channel 128 31 = 16 ∧ channel 4 31 = 0 ∧ channel 5 31 = 1 := by decide

/-- A rectangle over the top left corner keeps what lies on the panel (R110). -/
theorem test_clip : clipRect (-2) (-3) 5 4 = some ⟨0, 2, 0, 0⟩ ∧ clipRect 1280 0 5 4 = none := by decide

/-- A read of 256 bytes from 0x0F80 is divided at 0x1000 (R113). -/
theorem test_planReads :
    planReads 300 0x0F80 0 300 = [⟨0x0F80, 0, 128⟩, ⟨0x1000, 128, 128⟩, ⟨0x1080, 256, 44⟩] := by decide

/-- Zero height comes before the bad destination (R108, R109). -/
theorem test_checkFill_order :
    checkFill ((List.replicate 16 0) ++ [1, 0, 0, 0]) = .ends .ok ∧
      checkFill ([0, 0, 2] ++ List.replicate 13 0 ++ [1, 0, 1, 0]) = .ends .badParam := by decide

/-- The row of a STAGING COPY of one XRGB8888 pixel, its bytes blue first: red 255, green 128, blue 0 (R115, R116). -/
theorem test_staging_row :
    (pictureBoundary (rowDue 1 1 0)).picture.rowPixels = [0xFC00] ∧
      (pictureBoundary (rowDue 1 1 0)).picture.writing = true := by decide

/-- Of the 10 reads of a HOST row of 2500 bytes, 8 go out at its beginning (R113). -/
theorem test_host_row :
    (pictureBoundary (rowDue 0 0 1249)).picture.reads.length = 8 ∧
      (pictureBoundary (rowDue 0 0 1249)).picture.toIssue.length = 2 := by decide

/-- The one row of a FILL lands, and the slot ends DONE with one pixel (R112, R117). -/
theorem test_rowWriteComplete :
    let s := rowWritten (pictureHolds .row)
    s.frames.b = [(0, 0xCD), (1, 0xAB)] ∧ (slot s 15).state = .done ∧ (slot s 15).count = 1 := by decide

/-- The last bytes of a HOST row start its write, an error ends it (R113, R114). -/
theorem test_hostReadCompletion :
    (hostCompletion 3 0 [0x34, 0x12] false false fetching).picture.rowPixels = [0x1234] ∧
      (slot (hostCompletion 3 0 [] true false fetching) 15).code = .readError := by decide

/-- A read fails 50 ms after its issue, not before (R114). -/
theorem test_hostReadTimeout :
    (slot (hostTimeout 3 (at_ 50 fetching)) 15).code = .readError ∧
      (slot (hostTimeout 3 (at_ 49 fetching)) 15).state = .active := by decide

/-- Clearing does not end at Dock Time 0 (R106). -/
theorem test_clearingEnd :
    (endClearing State.reset).frames.clearing = true ∧ (endClearing (at_ 1 State.reset)).frames.clearing = false := by
  decide

/-- A waiting PRESENT is swapped at the vertical blank and shown (R131, R132, R135). -/
theorem test_verticalBlankStart :
    let s := verticalBlank (presentWaits false)
    s.scanout.front = .b ∧ s.scanout.source = .front ∧ (slot s 15).state = .done ∧ (slot s 15).frame = 1 := by decide

/-- A PRESENT taken while the panel is not ON is swapped in the take, with the frame number as it stands (R134, R135). -/
theorem test_present_taken :
    let s := postWrite 0 (posting 0 [(4, 3)])
    s.scanout.front = .b ∧ s.scanout.presented = true ∧ (slot s 0).state = .done ∧ (slot s 0).frame = 0 := by decide

/-- A PRESENT that waits at entry into STANDBY is swapped; its carry copy stands paused at the first row (R135, R136). -/
theorem test_present_at_standby :
    (slot (enterStandby (presentWaits false)) 15).state = .done ∧
      (enterStandby (presentWaits true)).scanout.carry = some ⟨0, false, false, false⟩ ∧
      (enterStandby (presentWaits true)).scanout.front = .b := by decide

/-- After its last row a carry copy completes the PRESENT with count 800 (R136). -/
theorem test_carryCopyRowComplete :
    let s := carryBoundary ⟨800, false, false, false⟩ (carrying 799 false false)
    (slot s 15).count = 800 ∧ s.scanout.presented = true ∧ s.scanout.carry = none := by decide

/-- The interface sends black in the signals stage; in the rails stage it is stopped (R124). -/
theorem test_black_frames :
    shownPixel (at_ 20 linked) 0 3 4 = none ∧ shownPixel (stageExpiry (at_ 20 linked)) 0 3 4 = some 0 := by decide

/-- A FILL row in writing, in the buffer that is being scanned: its one pixel shows the colour or the black from before;
the pixel beside it shows black (R107). -/
theorem test_row_in_writing (moment : Nat) :
    let s := { pictureHolds .row with scanout.panel := .on, picture.dest := .standby }
    (shownPixel s moment 0 0 = some 0xABCD ∨ shownPixel s moment 0 0 = some 0) ∧ shownPixel s moment 1 0 = some 0 := by
  refine ⟨?_, rfl⟩
  cases h : Config.landed moment 0
  · exact .inr (by simp only [shownPixel, scannedPixel, h, Bool.and_false]; rfl)
  · exact .inl (by simp only [shownPixel, scannedPixel, h, Bool.and_true]; rfl)

/-- The rails stage lasts 20 ms, the signals stage after it 50 (R124). -/
theorem test_panelStageExpiry :
    (stageExpiry (at_ 19 linked)).scanout.stage = some .rails ∧
      (stageExpiry (at_ 20 linked)).scanout.stage = some .signals ∧
        (stageExpiry (at_ 20 linked)).scanout.stageEnds = 70 := by decide

/-! ### Light and measurement (R139 to R149) -/

/-- The default curve at its points and between them (R143, R145). -/
theorem test_curve :
    curve LightSettings.default 0 = 16 ∧ curve LightSettings.default 50 = 40 ∧ curve LightSettings.default 100 = 64 ∧
      curve LightSettings.default 1023 = 255 := by decide

/-- A falling segment truncates toward zero (R145). -/
theorem test_curve_falling : segment ⟨0, 100⟩ ⟨3, 0⟩ 1 = 67 := by decide

/-- A tick moves the output by the slew and not past the target (R147). -/
theorem test_lightTick : slewed 10 20 4 = 14 ∧ slewed 18 20 4 = 20 ∧ slewed 20 10 4 = 16 ∧ slewed 12 10 4 = 10 := by
  decide

/-- The key light is the floor of output x ratio / 16 (R148). -/
theorem test_keyLight : keyLightLevel 255 8 = 127 := by decide

/-- The floor of the mean of four codes (R141). -/
theorem test_ambientConversionComplete : averageOf (nextHistory [9, 1, 2, 3] 4) = 2 := by decide

/-- The idle timer runs out at 120 s (R149, R153). -/
theorem test_idleExpiry :
    (idleExpiry (at_ 120000 linked)).light.idle = .dimmed ∧ (idleExpiry (at_ 119999 linked)).light.idle = .running := by
  decide

/-- Conversions fall on multiples of 8 ms, ambient ones on multiples of 64 (R139). -/
theorem test_conversionDue :
    conversionIsDue (at_ 8 linked) = true ∧ conversionIsDue (at_ 9 linked) = false ∧
      (startConversion (at_ 64 linked)).measure.ambientPending = true := by decide

/-- The bands at their thresholds (R167). -/
theorem test_supplyConversionComplete :
    classify .normal 0 10500 = (.normal, 0) ∧ classify .normal 0 10499 = (.low, 0) ∧
      classify .normal 0 8999 = (.crank, 0) ∧ classify .low 0 11000 = (.normal, 0) ∧
        classify .crank 3 9500 = (.low, 0) := by decide

/-! ### Lines and power (R155 to R177) -/

/-- PARK is ENGAGED while its input is low (R179): a rising edge starts its timer with 500 ms. -/
theorem test_lineEdge :
    let s := lineEdge .ign true (at_ 7 linked)
    s.lines.ignEnds = some 207 ∧ lineLevel s.lines.levels .ign = true ∧ lineLevel s.lines.levels .park = false := by
  decide

/-- Qualified IGN ON with PARK RELEASED is drive mode (R157). -/
theorem test_qualificationExpiry_drive :
    (lineExpiry .ign (at_ 200 { linked with lines.parkEngaged := false, lines.levels.ign := true })).lines.drive = true := by
  decide

/-- A departure ends the session (R162). -/
theorem test_qualificationExpiry_departure :
    (lineExpiry .presence (at_ 50 opened)).exch.sessionOpen = false := by decide

/-- The linger timer runs out at 30 minutes (R170, R172). -/
theorem test_lingerExpiry :
    (lingerExpiry (at_ 1800000 linked)).power.standby = true ∧ (lingerExpiry (at_ 1799999 linked)).power.standby = false := by
  decide

/-- Latch wake is off by default, dock wake on (R173). -/
theorem test_wake_switches :
    (wakeSource .latch { linked with power.standby := true }).power.standby = true ∧
      (wakeSource .dockArrival { linked with power.standby := true }).power.standby = false := by decide

/-- A wake reloads the idle timer whatever its sources, 120 s by default, and leaves one that is OFF (R149). -/
theorem test_wake_idle :
    let s := fun i => { at_ 7 linked with power.standby := true, light.idle := i, light.settings.idleSources := 0 }
    (wakeSource .host (s .dimmed)).light.idle = .running ∧ (wakeSource .host (s .running)).light.idleEnds = 120007 ∧
      (wakeSource .host (s .off)).light.idle = .off := by decide

/-- A trip in ACTIVE shows in the start record: cause 2, prior 1, one dip (R169, R176). -/
theorem test_supplyDipStart : readWord (dipStart (trip opened)) 0x002C = 0x00010102 := by decide

/-- A cold start: cause 1, no prior power state, the identification word (R176, section 1.8.1). -/
theorem test_coldStart :
    readWord (coldStart openInputs busy) 0x002C = 1 ∧ readWord (coldStart openInputs busy) 0x0000 = 0x00010640 := by decide

/-- Dock Time wraps (R166). -/
theorem test_reached_wraps : reached 5 0xFFFFFFF0 = true ∧ reached 0xFFFFFFF0 5 = false := by decide

/-! ### Witnesses: states and operands that meet the hypotheses of each statement

Each theorem is named after its statement; a statement with several clauses has its states in one conjunction, at the
boundary values of the clauses. -/

theorem inv_exch_opened : ExchangeInv opened := by constructor <;> decide

/-- Bytes in the memory do not touch the slots and the queue. -/
theorem inv_exch_posting (k : Fin 16) (bs : List (Nat × Byte)) : ExchangeInv (posting k bs) :=
  ⟨inv_exch_opened.1, inv_exch_opened.2, inv_exch_opened.3, inv_exch_opened.4, inv_exch_opened.5, inv_exch_opened.6,
    inv_exch_opened.7, inv_exch_opened.8, inv_exch_opened.9, inv_exch_opened.10, inv_exch_opened.11, inv_exch_opened.12,
    inv_exch_opened.13, inv_exch_opened.14⟩

theorem key_opened : ∀ p : Fin 128, key opened p = KeyRec.start := by decide

theorem inv_held_holding (integ downTime : Nat) : HeldInv (holding 5 integ downTime opened) := by
  have hk : ∀ p : Fin 128, p ≠ 5 → key (holding 5 integ downTime opened) p = KeyRec.start :=
    fun p hp => (key_setKey_other _ opened hp).trans (key_opened p)
  have h5 : key (holding 5 integ downTime opened) 5 = ⟨integ, false, .down, downTime, false⟩ := rfl
  refine ⟨rfl, List.nodup_singleton 5, Nat.le_add_left 1 9, fun p => ?_, fun p h => ?_, fun p h => by cases h⟩
  · by_cases hp : p = 5
    · subst hp; simp [h5]; exact List.mem_singleton_self 5
    · rw [hk p hp]; simp [KeyRec.start, holding, hp]
  · by_cases hp : p = 5
    · subst hp; simp [h5] at h
    · rw [hk p hp]; rfl

theorem witness_invariants_of_a_busy_state :
    MemoryInv busy ∧ HeldInv busy ∧ JournalInv busy ∧ LightInv busy ∧ ScannerInv busy ∧ ExchangeInv busy ∧
      oneTake busy = none ∧ PowerInv busy ∧ ReadsInv busy ∧ ∃ t, step busy = .next t := by
  have hh := inv_held_holding 4 30
  refine ⟨by unfold MemoryInv; decide, ⟨hh.1, hh.2, hh.3, hh.4, hh.5, hh.6⟩, by constructor <;> decide,
    by constructor <;> decide, ?_, by constructor <;> decide, by decide, by constructor <;> decide,
    ⟨by decide, (fun r h => by cases h), fun r h => by cases h⟩, _, rfl⟩
  exact ⟨by constructor <;> decide +kernel, (fun st h => by cases h), by decide +kernel, by decide +kernel,
    by decide +kernel, by decide +kernel, by decide +kernel, by decide, by decide, by decide⟩

theorem witness_StepRunsTheFrontCommand : busy.pending = .downTimeAdvance :: [] ∧ opened.pending = [] := by decide

theorem witness_OnlyRowEndsWriteFrameMemory :
    exec .linkUp (pictureHolds .row) = .next (linkUp (pictureHolds .row)) ∧
      Instr.linkUp ≠ .rowWriteComplete ∧ Instr.linkUp ≠ .carryCopyRowComplete ∧ Instr.linkUp ≠ .supplyDipStart ∧
      ∀ l, Instr.linkUp ≠ .coldStart l := ⟨rfl, by decide, by decide, by decide, fun _ h => by cases h⟩

theorem witness_OnlyTabletWritesChangePlainBytes :
    (posting 0 [(4, 9)]).mem.wf = true ∧
      (∃ t, exec (.exchangeMemoryWrite 0x41 0xF 5) (posting 0 [(4, 9)]) = .next t) ∧
      mayStart (.exchangeMemoryWrite 0x41 0xF 5) = false ∧ (0x0108 < 0x0500 ∧ 0x0103 < 4 * (0x41#14).toNat) ∧
      4 * (0x41#14).toNat + 4 ≤ 0x0108 ∧ 0x1500 ≤ 0x1500 := ⟨by decide, ⟨_, rfl⟩, by decide, by decide, by decide, by decide⟩

theorem witness_OnlyTheirEventsMoveTheClocks :
    exec .dockTimeAdvance opened = .next { opened with power.dockTime := opened.power.dockTime + 1 } ∧
      Instr.dockTimeAdvance ≠ .supplyDipStart ∧ ∀ l, Instr.dockTimeAdvance ≠ .coldStart l :=
  ⟨rfl, by decide, fun _ h => by cases h⟩

theorem witness_OnlyStartsAndSwapsChangeTheProfile :
    let s := { linked with profile.active := { Profile.default with tag := 9 } }
    exec (.coldStart openInputs) s = .next (coldStart openInputs s) ∧
      (coldStart openInputs s).profile.active ≠ s.profile.active := ⟨rfl, by decide⟩

theorem witness_ExchangeWritesFollowTheirWord :
    Linked opened ∧ opened.mem.wf = true ∧
      (plainOffset 0x0104 ∧ plainOffset 0x011C ∧ plainOffset 0x04FC ∧ plainOffset 0x1500 ∧ plainOffset 0xFFFC) ∧
      (partOwnedOffset 0 ∧ partOwnedOffset 0x0040 ∧ partOwnedOffset 0x0108 ∧ partOwnedOffset 0x04D8 ∧
        partOwnedOffset 0x0500 ∧ partOwnedOffset 0x14FC) ∧
      (guardedOffset 0x0004 ∧ guardedOffset 0x0024 ∧ guardedOffset 0x0100 ∧ guardedOffset 0x04C0) ∧ (0x3#4 ≠ 0xF#4) ∧
      (0#32 ≠ 1 ∧ 3#32 ≠ 1 ∧ 3#32 ≠ 2) ∧ (inSlot 0x04C0 = 0 ∧ 2#32 ≠ 0 ∧ 2#32 ≠ 1 ∧ 2#32 ≠ 8) ∧
      (0x0044 ≤ 4 * (0x11#14).toNat ∧ 4 * (0x3F#14).toNat < 0x0100) ∧ (0x0044 ≤ 4 * 17 ∧ 4 * 63 < 0x0100) ∧
      0x0500 ≤ 4 * 320 ∧ (0x1C ≤ 60 ∧ 60 < 64 ∧ 60 % 4 = 0) := by
  unfold Linked plainOffset partOwnedOffset guardedOffset
  and_intros <;> decide

theorem witness_SessionOpenWritesResyncGroup :
    let s := { docked with composer.held := [1, 2, 3, 4, 5, 6, 7, 8, 9, 10] }
    Linked s ∧ s.exch.sessionOpen = false ∧ s.lines.docked = true ∧ s.mem.wf = true ∧ s.composer.held.length ≤ 10 := by
  unfold Linked
  decide

theorem witness_SessionCloseFreesEverySlot :
    (Linked busy ∧ busy.exch.sessionOpen = true) ∧
      (Linked linked ∧ linked.exch.sessionOpen = false ∧ linked.lines.docked = false) := by
  unfold Linked
  decide

theorem witness_PostQueuesTheSlot :
    (Linked opened ∧ opened.exch.sessionOpen = true ∧ (slot opened 15).state = .free) ∧
      (Linked linked ∧ linked.exch.sessionOpen = false) ∧ (Linked busy ∧ (slot busy 2).state ≠ .free) := by
  unfold Linked
  decide

theorem witness_ContextsTakeByTheRules :
    (look busy = busy ∧ busy.exch.settingsJob = none ∧ busy.profile.job = none ∧ busy.exch.queue ≠ []) ∧
      (let s := settingsHolds kindPanel
       let t := setSlotState 0 .posted { s with exch.queue := [⟨0, kindLight, false, false⟩] }
       look t = t ∧ t.picture.job = none ∧ t.picture.work = .free ∧ t.scanout.carry = none ∧
         t.power.standby = false ∧ t.frames.clearing = false ∧ t.exch.queue ≠ []) ∧
      (let q : List Entry := [⟨0, kindCopy, false, false⟩, ⟨1, kindFill, true, false⟩, ⟨2, kindPresent, true, false⟩]
       let s := fun q => { opened with exch.queue := q }
       (pictureTake (s q)).isSome = true ∧ nextPicture (s q) = some ⟨1, kindFill, true, false⟩ ∧
         nextPicture (s (q.drop 2)) = some ⟨2, kindPresent, true, false⟩ ∧ (pictureTake (s (q.take 1))).isSome = true ∧
         nextPicture (s (q.take 1)) = some ⟨0, kindCopy, false, false⟩) ∧
      (let s := fun (urgent : Bool) => { opened with exch.queue :=
         [⟨0, 0, false, false⟩, ⟨1, kindProfile, false, false⟩, ⟨2, 9, urgent, false⟩, ⟨3, kindProfile, urgent, false⟩] }
       (settingsTake (s true)).isSome = true ∧ (settingsTake (s false)).isSome = true ∧
         nextSettings (s true) = some ⟨2, 9, true, false⟩ ∧ nextSettings (s false) = some ⟨0, 0, false, false⟩ ∧
         (profileTake (s true)).isSome = true ∧ (profileTake (s false)).isSome = true ∧
         nextProfile (s true) = some ⟨3, kindProfile, true, false⟩) := by decide

theorem witness_CancelAndFreeOutsideWork :
    (Linked busy ∧ busy.exch.sessionOpen = true ∧ (slot busy 2).state = .posted ∧
      busy.exch.queue.find? (fun x => x.slot == 2) = some ⟨2, kindFill, true, true⟩) ∧
      (Linked opened ∧ (slot (setSlotState 15 .done opened) 15).state = .done ∧
        (slot (setSlotState 15 .failed opened) 15).state = .failed ∧
        (slot (setSlotState 15 .cancelled opened) 15).state = .cancelled ∧
        (slot (setSlotState 15 .cancelling opened) 15).state = .cancelling) ∧
      (slot opened 0).state = .free ∧ (Linked linked ∧ linked.exch.sessionOpen = false) := by
  unfold Linked
  decide

theorem inv_exch_settings (kind : Byte) : ExchangeInv (settingsHolds kind) := by
  have h : ExchangeInv (settingsHolds kindLight) := by constructor <;> decide
  exact ⟨h.1, h.2, h.3, h.4, h.5, h.6, h.7, h.8, h.9, h.10, h.11, h.12, h.13, h.14⟩

theorem witness_CancelOfActiveSlot :
    (ExchangeInv (settingsHolds kindLight) ∧ Linked (settingsHolds kindLight) ∧
      (settingsHolds kindLight).exch.settingsJob = some (job 15 kindLight) ∧ completesLater kindLight = true ∧
      (slot (settingsHolds kindLight) 15).state = .active) ∧
      (ExchangeInv (pictureHolds .row) ∧ Linked (pictureHolds .row) ∧
        (pictureHolds .row).picture.job = some (job 15 kindFill) ∧ (pictureHolds .row).scanout.waiting = none ∧
        (pictureHolds .row).picture.work ≠ .paused ∧ (slot (pictureHolds .row) 15).state = .active) ∧
      (ExchangeInv (settingsHolds kindPanel) ∧ Linked (settingsHolds kindPanel) ∧
        (settingsHolds kindPanel).exch.settingsJob = some (job 15 kindPanel)) ∧
      (ExchangeInv profileStaged ∧ Linked profileStaged ∧ profileStaged.profile.job = some (job 15 kindProfile) ∧
        profileStaged.profile.staged.isSome = true ∧ (slot profileStaged 15).state = .active) ∧
      (ExchangeInv (presentWaits true) ∧ Linked (presentWaits true) ∧
        (presentWaits true).picture.job = some (job 15 kindPresent) ∧
        (presentWaits true).scanout.waiting.isSome = true ∧ (slot (presentWaits true) 15).state = .active) ∧
      (ExchangeInv (pictureHolds .paused) ∧ Linked (pictureHolds .paused) ∧
        (pictureHolds .paused).picture.job = some (job 15 kindFill) ∧
        (pictureHolds .paused).scanout.waiting = none ∧ (pictureHolds .paused).picture.work = .paused) := by
  unfold Linked
  exact ⟨⟨inv_exch_settings _, by decide⟩, ⟨by constructor <;> decide, by decide⟩, ⟨inv_exch_settings _, by decide⟩,
    ⟨by constructor <;> decide, by decide⟩, ⟨by constructor <;> decide, by decide⟩, by constructor <;> decide, by decide⟩

theorem witness_AttentionAndItsMessages :
    (Linked opened ∧ opened.exch.sessionOpen = true) ∧ (Linked linked ∧ linked.exch.sessionOpen = false) := by
  unfold Linked
  decide

theorem witness_RegisterWindowActs :
    Linked opened ∧ (1#32).getLsbD 1 = false ∧ (3#32).getLsbD 1 = true ∧ (1#10 = 1 ∧ 0x3#4 ≠ 0xF) ∧ (0x3FF#10 ≠ 1) ∧
      2 < (3#10).toNat := by
  unfold Linked
  decide

theorem witness_LinkEventsAct :
    Linked opened ∧ Running State.reset ∧ (Running fetching ∧ fetching.exch.sessionOpen = true ∧ fetching.link.up = true ∧
      fetching.picture.writing = false ∧ fetching.picture.work ≠ .free) ∧
      (Linked (pictureHolds .row) ∧ (pictureHolds .row).exch.sessionOpen = true ∧ (pictureHolds .row).picture.work = .row ∧
        (pictureHolds .row).picture.writing = true) ∧
      (Running opened ∧ ({ opened with link.up := false }).link.up = false) ∧
      (let s := { linked with picture := { Picture.start with work := .stopping, abandon := true } }
       Running s ∧ s.exch.sessionOpen = false ∧ s.link.up = true ∧ s.picture.work = .stopping ∧
         s.picture.writing = false) := by
  unfold Linked Running
  decide

theorem witness_FastPassJudgesEveryKey :
    let s := at_ 1 (holding 5 4 30 opened)
    let t := { s with scanner.windowPasses := 62 }
    (HeldInv t ∧ PowerInv t ∧ Running t ∧ t.scanner.mode = .fast ∧ t.scanner.passAt ≠ t.power.dockTime ∧
      t.power.standby = false ∧ t.profile.staged = none ∧ t.scanner.windowPasses < 63 ∧ (key t 5).state ≠ .up ∧
      (key t 6).state = .up ∧ due t t.power.lingerEnds = false) ∧
      (t.power.standby = false ∨ t.power.keyWake = false) ∧
      (let e := { t with power.lingerEnds := some 1 }
       PowerInv e ∧ due e e.power.lingerEnds = true ∧ e.power.lingerSources.getLsbD 0 = true ∧
         ({ e with power.lingerSources := 0b110#3 }).power.lingerSources.getLsbD 0 = false) ∧
      ((∀ d < 8, (BitVec.allOnes 128).getLsbD (16 * d + (127 : Fin 128).val % 16) = true) ∧
        classOf t 31 ≠ .none ∧ (∀ c < 16, (~~~(0xFFFF#128 <<< 16)).getLsbD (16 * ((31 : Fin 128).val / 16) + c) = false) ∧
        ∀ q : Fin 128, q.val / 16 ≠ (31 : Fin 128).val / 16 → (~~~(0xFFFF#128 <<< 16)).getLsbD q.val = true) := by
  have h := inv_held_holding 4 30
  exact ⟨⟨⟨h.1, h.2, h.3, h.4, h.5, h.6⟩, by constructor <;> decide, by unfold Running; decide⟩, by decide,
    ⟨by constructor <;> decide, by decide⟩, by decide⟩

theorem witness_KeyDecisionsTakeTheirCase :
    let s := { opened with power.standby := true }
    let full := { opened with composer.held := [1, 2, 3, 4, 5, 6, 7, 8, 9, 10] }
    let nine := allClass (.modifier 7) { opened with composer.held := [1, 2, 3, 4, 5, 6, 7, 8, 9] }
    let drives := { opened with lines.drive := true }
    let meeting := { opened with power.lingerEnds := some 0 }
    ((key s 127).state = .up ∧ s.power.keyWake = true ∧ s.power.swallow = true ∧ s.mem.wf = true ∧ Writable 2 s) ∧
      ({ s with power.swallow := false }).power.swallow = false ∧
      ((key opened 0).state = .up ∧ opened.power.standby = false ∧ driveForbids opened 0 = false) ∧
      (driveForbids drives 0 = true ∧ (key drives 0).state = .up) ∧
      (driveForbids full 60 = false ∧ 10 ≤ full.composer.held.length ∧ (key full 60).state = .up) ∧
      (nine.composer.held.length < 10 ∧ classOf nine 60 = .modifier 7 ∧
        classOf (allClass .repeating opened) 60 = .repeating) ∧
      ((key meeting 0).state = .up ∧ meeting.power.standby = false ∧ meeting.power.lingerSources.getLsbD 0 = true ∧
        due meeting meeting.power.lingerEnds = true ∧ meeting.mem.wf = true ∧ Writable 2 meeting ∧
        meeting.light.settings.idleSources.getLsbD 0 = true ∧ meeting.light.idle ≠ .off) ∧
      ((key (oneKey 5 .muted 0 0 opened) 5).state = .muted ∧ (key (oneKey 5 .stuck 0 0 opened) 5).state = .stuck ∧
        (key (holding 5 0 30 opened) 5).state = .down) := by
  unfold Writable
  decide

theorem witness_WindowEndAndSlowEntry :
    let w := fun n v c : Nat => { opened with scanner.windowPasses := n, scanner.vib := v, scanner.chatter := c }
    let i := fun n : Nat => { opened with scanner.idlePasses := n, power.standby := true }
    (Running (w 64 4 20) ∧ (w 64 4 20).scanner.mode = .fast ∧ 64 ≤ (w 64 4 20).scanner.windowPasses ∧
      (w 64 4 20).profile.active.adaptation = true ∧ 4 < min 8 (20 / 4)) ∧
      (min 8 (15 / 4) < (w 64 4 15).scanner.vib ∧ (w 64 8 255).scanner.vib = min 8 (255 / 4)) ∧
      ({ Profile.default with adaptation := false }).adaptation = false ∧
      ((w 63 0 0).scanner.windowPasses = 63 ∧ (w 62 0 0).scanner.windowPasses < 63) ∧
      (Running (i 2000) ∧ (i 2000).power.standby = true ∧ 2000 ≤ (i 2000).scanner.idlePasses) ∧
      ((i 1998).scanner.idlePasses < 1999 ∧ (i 1999).scanner.idlePasses = 1999 ∧ ∀ k ∈ (i 1999).composer.keys, k.state = .up ∨ k.state = .stuck) ∧
      (opened.power.standby = false) ∧
      (∃ k ∈ (holding 5 4 30 (i 7)).composer.keys, k.state = .down ∨ k.state = .muted) := by
  unfold Running
  decide +kernel

theorem witness_SlowPassSwitchesAndReleases :
    let s := { oneKey 6 .stuck 0 0 (at_ 32 opened) with scanner.mode := .slow, power.standby := true }
    (Running s ∧ s.composer.keys.length = 128 ∧ s.scanner.mode = .slow ∧ s.power.dockTime ≠ s.scanner.passAt ∧
      (s.power.dockTime - s.scanner.passAt).toNat % 32 = 0 ∧ s.profile.staged = none ∧
      (∀ p, (key s p).state = .up ∨ (key s p).state = .stuck)) ∧
      ((∃ p, (key s p).state = .up ∧ closedSample (~~~(~~~0x20#128)) s p) ∧
        ¬∃ p, (key s p).state = .up ∧ closedSample (~~~(~~~0x40#128)) s p) ∧
      ({ s with profile := profileStaged.profile }).profile.staged.isSome = true ∧
      ((at_ 0 s).power.dockTime = (at_ 0 s).scanner.passAt ∧
        ((at_ 31 s).power.dockTime - (at_ 31 s).scanner.passAt).toNat % 32 ≠ 0) := by
  simp only [BitVec.not_not]
  refine ⟨by unfold Running; decide +kernel,
    ⟨⟨5, by decide +kernel, by decide +kernel, by decide +kernel, fun _ h => ?_⟩, ?_⟩, by decide +kernel, by decide +kernel⟩
  · obtain ⟨d', c', hd, hc, hne, -, -, hraw, -⟩ := h
    have : ∀ d' < 8, d' ≠ (5 : Fin 128).val / 16 →
      (0x20#128).getLsbD (d' * 16 + (5 : Fin 128).val % 16) = false := by decide
    rw [this d' hd hne] at hraw
    cases hraw
  · rintro ⟨p, hu, hraw, -⟩
    revert p
    decide

theorem witness_DownTimeAdvances :
    let s := fun n => at_ 1 (holding 5 4 n opened)
    (HeldInv (s 29998) ∧ Running (s 29998) ∧ (s 29998).composer.downAt ≠ (s 29998).power.dockTime ∧
      (key (s 29998) 5).state = .down ∧ ¬1000 * 30 ≤ min (1000 * 30) (29998 + 1)) ∧
      (HeldInv (s 29999) ∧ (key (s 29999) 5).state = .down ∧ 1000 * 30 ≤ min (1000 * 30) (29999 + 1)) ∧
      (let t := allClass .hold (s 29999)
       HeldInv t ∧ (advanceRecords t t.composer.held t.composer.held).length = 2 ∧ t.mem.wf = true ∧ Writable 2 t) ∧
      (holding 5 4 7 opened).composer.downAt = (holding 5 4 7 opened).power.dockTime := by
  have h := inv_held_holding 4 29998
  have h' := inv_held_holding 4 29999
  exact ⟨⟨⟨h.1, h.2, h.3, h.4, h.5, h.6⟩, by unfold Running; decide⟩,
    ⟨⟨h'.1, h'.2, h'.3, h'.4, h'.5, h'.6⟩, by decide⟩,
    ⟨⟨h'.1, h'.2, h'.3, h'.4, h'.5, h'.6⟩, by unfold Writable; decide⟩, by decide⟩

theorem witness_HoldAndStuckAct :
    let h := fun n => holding 5 4 n (allClass .hold opened)
    (Running (h 800) ∧ (key (h 800) 5).state = .down ∧ classOf (h 800) 5 = .hold ∧ (key (h 800) 5).holdSeen = false ∧
      (h 800).profile.active.holdTime ≤ (key (h 800) 5).downTime ∧ (h 800).mem.wf = true ∧ Writable 1 (h 800)) ∧
      ¬(h 799).profile.active.holdTime ≤ (key (h 799) 5).downTime ∧
      ((h 30000).profile.active.stuckLimit ≠ 0 ∧
        1000 * (h 30000).profile.active.stuckLimit ≤ (key (h 30000) 5).downTime) ∧
      ¬1000 * (h 29999).profile.active.stuckLimit ≤ (key (h 29999) 5).downTime := by
  unfold Running Writable
  decide

theorem witness_RepeatExpiryRepeats :
    let s := { opened with composer.subject := some 5, composer.repeatEnds := 500 }
    (Running opened ∧ opened.composer.subject = none) ∧
      (Running s ∧ s.composer.subject = some 5 ∧ reached (at_ 500 s).power.dockTime s.composer.repeatEnds = true ∧
        reached (at_ 499 s).power.dockTime s.composer.repeatEnds = false ∧ s.mem.wf = true ∧ Writable 1 s) := by
  unfold Running Writable
  decide

theorem witness_HandedRecordTakesItsCase :
    let e := fun h : Word => { opened with journal.head := h, journal.episode := true }
    (opened.mem.wf = true ∧ JournalInv opened ∧ opened.exch.sessionOpen = true ∧ opened.journal.episode = false ∧
      untaken opened < 256 ∧ untaken { opened with journal.head := 255 } < 256) ∧
      linked.exch.sessionOpen = false ∧
      (JournalInv (e 256) ∧ 256 - untaken (e 256) < 1 + (e 256).composer.held.length) ∧
      (JournalInv (e 255) ∧ 1 + (e 255).composer.held.length ≤ 256 - untaken (e 255)) ∧
      (JournalInv { opened with journal.head := 256 } ∧ untaken { opened with journal.head := 256 } = 256) :=
  ⟨⟨by decide, by constructor <;> decide, by decide⟩, by decide, ⟨by constructor <;> decide, by decide⟩,
    ⟨by constructor <;> decide, by decide⟩, by constructor <;> decide, by decide⟩

theorem witness_JournalWritesTakeTheirCase :
    let s := { opened with journal.head := 10, journal.taken := 5 }
    (Linked s ∧ s.exch.sessionOpen = true) ∧
      ((10#32 - s.journal.taken).toNat ≤ (s.journal.head - s.journal.taken).toNat) ∧
      ((s.journal.head - s.journal.taken).toNat < (11#32 - s.journal.taken).toNat ∧
        (11#32 - s.journal.head).toNat < 2 ^ 31) ∧
      ((s.journal.head - s.journal.taken).toNat < (4#32 - s.journal.taken).toNat ∧
        2 ^ 31 ≤ (4#32 - s.journal.head).toNat) ∧
      (Linked linked ∧ linked.exch.sessionOpen = false) ∧ 0x1#4 ≠ 0xF ∧
      ((s.journal.head - 10#32).toNat < 2 ^ 31 ∧ 2 ^ 31 ≤ (s.journal.head - 11#32).toNat) := by
  unfold Linked
  decide

theorem witness_SettingsEndsAndIndicators :
    (Running (settingsHolds kindVehicle) ∧ (settingsHolds kindVehicle).exch.settingsJob = some (job 15 kindVehicle) ∧
      completesLater kindVehicle = true) ∧
      (Running opened ∧ ∀ j, opened.exch.settingsJob = some j → j.kind = kindPanel) ∧
      (let s := posting 15 [(4, 5), (0x1C, 0xFF)]
       let b := posting 15 [(4, 9)]
       ExchangeInv s ∧ Linked s ∧ s.exch.sessionOpen = true ∧ (slot s 15).state = .free ∧ s.exch.queue = [] ∧
         s.exch.settingsJob = none ∧ s.mem.read (0x0104 + 64 * 15) = kindIndicators ∧ ExchangeInv b ∧
         8 < b.mem.read (0x0104 + 64 * 15) ∧ (posting 15 []).mem.read (0x0104 + 64 * 15) = 0) ∧
      (opened.power.standby = false ∧ ({ opened with power.standby := true }).power.standby = true) := by
  unfold Running Linked
  exact ⟨by decide, ⟨by decide, fun j h => by cases h⟩, ⟨inv_exch_posting _ _, by decide, by decide, by decide, by decide,
    by decide, by decide, inv_exch_posting _ _, by decide, by decide⟩, by decide⟩

/-- A LIGHT request with every curve point at an end of its range and a timeout of `t` seconds. -/
def lightBytes (mode t : Byte) : List (Nat × Byte) :=
  [(4, 6), (0x1C, mode), (0x22, t), (0x2A, 1), (0x2C, 2), (0x2E, 0xFF), (0x2F, 3), (0x33, 255)]

theorem witness_LightRequestIsChecked :
    let s := posting 15 (lightBytes 1 5)
    let z := posting 15 (lightBytes 0 0)
    let a := fun i => byteAt s 15 (0x28 + 2 * i) + 256 * byteAt s 15 (0x29 + 2 * i)
    ExchangeInv s ∧ Linked s ∧ s.exch.sessionOpen = true ∧ (slot s 15).state = .free ∧ s.exch.queue = [] ∧
      s.exch.settingsJob = none ∧ s.mem.read (0x0104 + 64 * 15) = kindLight ∧
      (byteAt s 15 0x1C ≤ 1 ∧ a 0 < a 1 ∧ a 1 < a 2 ∧ a 2 < a 3 ∧ a 3 ≤ 1023) ∧
      (byteAt s 15 0x22 ≠ 0 ∧ s.light.idle ≠ .dimmed) ∧
      (ExchangeInv z ∧ byteAt z 15 0x22 + 256 * byteAt z 15 0x23 = 0) ∧
      (ExchangeInv (posting 15 (lightBytes 2 5)) ∧ ¬byteAt (posting 15 (lightBytes 2 5)) 15 0x1C ≤ 1) := by
  unfold Linked
  exact ⟨inv_exch_posting _ _, by decide, by decide, by decide, by decide, by decide, by decide, by decide, by decide,
    ⟨inv_exch_posting _ _, by decide⟩, inv_exch_posting _ _, by decide⟩

theorem witness_VehicleRequestIsApplied :
    let s := fun linger : Byte => posting 15 [(4, 7), (0x1C, 99), (0x1E, linger), (0x20, 0x1F)]
    let ign := { s 0 with power.lingerEnds := none }
    (ExchangeInv (s 241) ∧ Linked (s 241) ∧ (slot (s 241) 15).state = .free ∧ (s 241).exch.queue = [] ∧
      (s 241).mem.read (0x0104 + 64 * 15) = kindVehicle ∧ (s 241).power.lingerEnds ≠ none ∧
      byteAt (s 241) 15 0x1E ≠ 0) ∧
      (ExchangeInv (s 0) ∧ (s 0).power.lingerEnds ≠ none ∧ byteAt (s 0) 15 0x1E = 0 ∧ (s 0).mem.wf = true ∧
        Writable 1 (s 0)) ∧
      (ign.power.lingerEnds = none ∧ ign.mem.read (0x0104 + 64 * 15) = kindVehicle) := by
  unfold Linked Writable
  exact ⟨⟨inv_exch_posting _ _, by decide⟩, ⟨inv_exch_posting _ _, by decide⟩, by decide⟩

theorem witness_PanelRequestSetsTheWish :
    let s := fun (p : PanelState) (st : Option Stage) (on : Byte) =>
      { posting 15 [(4, 8), (0x1C, on)] with scanout.panel := p, scanout.stage := st }
    (∀ p st on, ExchangeInv (s p st on)) ∧
      (Linked (s .off none 0) ∧ (s .off none 0).mem.read (0x0104 + 64 * 15) = kindPanel ∧
        (slot (s .off none 0) 15).state = .free ∧ (s .off none 0).exch.queue = [] ∧
        (s .off none 0).exch.settingsJob = none) ∧
      ((s .off none 0).mem.read (0x011C + 64 * 15) = 0 ∧ (s .off none 0).scanout.panel = .off) ∧
      ((s .on none 1).mem.read (0x011C + 64 * 15) ≠ 0 ∧ (s .on none 1).scanout.panel = .on ∧
        (s .on none 1).power.standby = false) ∧
      ((s .off none 1).scanout.panel = .off ∧ (s .on none 0).scanout.panel = .on ∧
        (s .on none 0).scanout.waiting = none) ∧
      (let w := { presentWaits true with mem := bytesAt (slotOffset 0) [(4, 8)] }
       ExchangeInv w ∧ Linked w ∧ w.exch.sessionOpen = true ∧ (slot w 0).state = .free ∧ w.exch.queue = [] ∧
         w.exch.settingsJob = none ∧ w.mem.read 0x0104 = kindPanel ∧ w.mem.read 0x011C = 0 ∧ w.scanout.panel = .on ∧
         w.scanout.waiting = some true ∧ w.picture.job = some (job 15 kindPresent)) ∧
      ((s .starting (some .rails) 0).scanout.panel = .starting ∧
        (s .starting (some .rails) 0).scanout.stage = some .rails ∧
        (s .starting (some .signals) 0).scanout.stage = some .signals ∧
        (s .starting (some .enable) 0).scanout.stage = some .enable) ∧
      (s .stopping (some .disable) 1).scanout.panel = .stopping := by
  have h := fun bs => inv_exch_posting 15 bs
  have hp : ∀ (p : PanelState) (st : Option Stage) (bs : List (Nat × Byte)),
      ExchangeInv { posting 15 bs with scanout.panel := p, scanout.stage := st } := fun p st bs =>
    ⟨(h bs).1, (h bs).2, (h bs).3, (h bs).4, (h bs).5, (h bs).6, (h bs).7, (h bs).8, (h bs).9, (h bs).10, (h bs).11,
      (h bs).12, (h bs).13, (h bs).14⟩
  unfold Linked
  exact ⟨fun _ _ _ => hp _ _ _, by decide, by decide, by decide, by decide, ⟨by constructor <;> decide, by decide⟩,
    by decide⟩

theorem witness_ProfileRequestIsStaged :
    let s := posting 15 [(4, 4), (0x1D, 6)]
    let classed := { s with mem := s.mem.write (0x1500 + 1536 + 0x20 + 127) 0x17 }
    (ExchangeInv s ∧ Linked s ∧ s.exch.sessionOpen = true ∧ (slot s 15).state = .free ∧ s.exch.queue = [] ∧
      s.profile.job = none ∧ s.profile.staged = none ∧ s.mem.read (0x0104 + 64 * 15) = kindProfile) ∧
      ((classed.mem.half (0x011C + 64 * 15)).toNat = 1536 ∧
        ∀ p, p < 128 → classed.mem.read (0x1500 + 1536 + (0x20 + p)) ≤ 3 ∨
          (0x10 ≤ classed.mem.read (0x1500 + 1536 + (0x20 + p)) ∧
            classed.mem.read (0x1500 + 1536 + (0x20 + p)) ≤ 0x17)) ∧
      (let b := posting 15 [(4, 4), (0x1C, 1)]
       ExchangeInv b ∧ (b.mem.half (0x011C + 64 * 15)).toNat = 1) ∧
      (let b := { s with mem := s.mem.write (0x1500 + 1536 + 0x20) 4 }
       ¬(b.mem.read (0x1500 + 1536 + 0x20) ≤ 3 ∨ 0x10 ≤ b.mem.read (0x1500 + 1536 + 0x20))) := by
  unfold Linked
  exact ⟨⟨inv_exch_posting _ _, by decide⟩, by decide, ⟨inv_exch_posting _ _, by decide⟩, by decide⟩

theorem witness_StagedProfileEnds :
    let h := holding 5 4 30 profileStaged
    (profileStaged.profile.staged.isSome = true ∧ profileStaged.profile.job = some (job 15 kindProfile) ∧
      profileStaged.exch.slots.length = 16 ∧ profileStaged.mem.wf = true ∧ Writable 1 profileStaged ∧
      ∀ k ∈ profileStaged.composer.keys, k.state = .up ∨ k.state = .stuck) ∧
      (∃ k ∈ h.composer.keys, k.state = .down ∨ k.state = .muted) ∧
      (Running profileStaged ∧ reached (at_ 100 profileStaged).power.dockTime (ms 100) = true ∧
        reached (at_ 99 profileStaged).power.dockTime (ms 100) = false) := by
  unfold Writable Running
  decide +kernel

/-- A COPY request from the Staging Area: XRGB8888 by `format`, with its source, stride, width, height and x. -/
def copyBytes (space format source stride width height x : Byte) : List (Nat × Byte) :=
  [(4, 1), (0x1C, space), (0x1D, format), (0x20, source), (0x28, stride), (0x2C, width), (0x2E, height), (0x31, x)]

theorem witness_CopyChecksRunInOrder :
    let p := fun sp f so st w h x => posting 15 (copyBytes sp f so st w h x)
    let s := p 1 1 4 8 2 2 0
    (ExchangeInv s ∧ Linked s ∧ s.exch.sessionOpen = true ∧ (slot s 15).state = .free ∧ s.exch.queue = [] ∧
      pictureFree s = true ∧ pictureHeld s = false ∧ s.mem.read (0x0104 + 64 * 15) = kindCopy) ∧
      checkCopy (slotParams (p 2 1 4 8 0 2 0) 15) = .ends .ok ∧
      checkCopy (slotParams (p 2 1 4 8 2 2 0) 15) = .ends .badParam ∧
      checkCopy (slotParams (p 1 1 2 7 2 2 0) 15) = .ends .badParam ∧
      checkCopy (slotParams (p 1 1 2 8 2 2 0) 15) = .ends .badAlign ∧
      checkCopy (slotParams (posting 15 (copyBytes 1 0 0 8 2 2 0 ++ [(0x21, 0xE3)])) 15) = .ends .badParam ∧
      checkCopy (slotParams (posting 15 (copyBytes 1 0 0xF4 8 2 2 0 ++ [(0x21, 0xE2)])) 15) = .goesOn ∧
      (checkCopy (slotParams (p 1 1 4 8 2 2 5) 15) = .goesOn ∧
        1279 < ((p 1 1 4 8 2 2 5).mem.half (0x0130 + 64 * 15)).toInt) ∧
      (checkCopy (slotParams s 15) = .goesOn ∧ checkCopy (slotParams (p 0 0 4 8 2 2 4) 15) = .goesOn ∧
        ((p 0 0 4 8 2 2 4).mem.half (0x0130 + 64 * 15)).toInt = 1024) := by
  unfold Linked
  exact ⟨⟨inv_exch_posting _ _, by decide⟩, by decide⟩

theorem witness_FillBeginsItsFirstRow :
    let s := fun (buffer width xHigh : Byte) => posting 15 [(4, 2), (0x1E, buffer), (0x2C, width), (0x2E, 1),
      (0x30, 0xFF), (0x31, xHigh), (0x32, 0x1F), (0x33, 3)]
    (∀ b w x, ExchangeInv (s b w x)) ∧
      (let f := s 1 2 4
       Linked f ∧ f.exch.sessionOpen = true ∧ (slot f 15).state = .free ∧ f.exch.queue = [] ∧ pictureFree f = true ∧
         pictureHeld f = false ∧ f.power.band ≠ .crank ∧ ({ f with power.band := .crank }).power.band = .crank ∧
         f.mem.read (0x0104 + 64 * 15) = kindFill ∧ f.mem.read (0x011E + 64 * 15) = 1 ∧
         (f.mem.half (0x012C + 64 * 15)).toNat = 2 ∧ (f.mem.half (0x0130 + 64 * 15)).toInt = 1279 ∧
         (f.mem.half (0x0132 + 64 * 15)).toInt = 799) ∧
      ((s 1 0 4).mem.half (0x012C + 64 * 15)).toNat = 0 ∧ 1 < (s 2 2 4).mem.read (0x011E + 64 * 15) ∧
      1279 < ((s 0 2 5).mem.half (0x0130 + 64 * 15)).toInt := by
  unfold Linked
  exact ⟨fun _ _ _ => inv_exch_posting _ _, by decide⟩

theorem witness_RowReadsCoverTheRow : (planReads 257 0x0FFF 0 257).length = 3 ∧ 256 < 257 := by decide

theorem witness_HostReadsEnd :
    let r : Read := ⟨3, ⟨0x1000, 0, 2⟩, 0⟩
    let more := fun (others : List Read) (plans : List ReadPlan) (on : Bool) => { fetching with
      picture.reads := r :: others, picture.toIssue := plans, link.busMastering := on }
    let other : Read := ⟨4, ⟨0x1002, 2, 2⟩, 0⟩
    (Linked fetching ∧ fetching.picture.reads.find? (fun q => q.tag == 3) = some r ∧
      fetching.picture.reads.find? (fun q => q.tag == 4) = none ∧ fetching.picture.rowBuf.length = 2 ∧
      fetching.picture.toIssue = [] ∧ fetching.picture.reads.filter (fun q => q.tag != 3) = [] ∧
      fetching.picture.writing = false ∧ fetching.picture.work = .row ∧ fetching.picture.abandon = false ∧
      fetching.picture.job = some (job 15 kindCopy)) ∧
      (((at_ 50 fetching).power.dockTime - 0).toNat ≤ 50 ∧ 50 < ((at_ 51 fetching).power.dockTime - 0).toNat) ∧
      (∀ i, 0 ≤ i → i < 2 → i < 2 → (([some 1, some 2] : List (Option Byte)).getD i none).isSome = true) ∧
      (¬∀ i, 0 ≤ i → i < 2 → i < 2 → (([some 1, none] : List (Option Byte)).getD i none).isSome = true) ∧
      ((more [] [⟨0, 2, 2⟩] true).picture.toIssue ≠ [] ∧ (more [] [⟨0, 2, 2⟩] true).link.busMastering = true ∧
        (more [] [⟨0, 2, 2⟩] false).link.busMastering = false ∧
        ((more [] [⟨0, 2, 2⟩] false).picture.reads.filter (fun q => q.tag != 3)).length < 8) ∧
      ((more [other] [] true).picture.toIssue = [] ∧
        (more [other] [] true).picture.reads.filter (fun q => q.tag != 3) ≠ []) ∧
      (Running (at_ 50 fetching) ∧ 50 ≤ ((at_ 50 fetching).power.dockTime - 0).toNat ∧
        ((at_ 49 fetching).power.dockTime - 0).toNat < 50) := by
  unfold Linked Running
  refine ⟨by decide, by decide, fun i _ h _ => ?_, fun h => absurd (h 1 (by decide) (by decide) (by decide)) (by decide),
    by decide, by decide, by decide⟩
  rcases (by omega : i = 0 ∨ i = 1) with rfl | rfl <;> rfl

theorem witness_RowWriteAndClearingEnd :
    (Running (pictureHolds .row) ∧ (pictureHolds .row).picture.writing = true ∧
      ((pictureHolds .row).frames.get (pictureHolds .row).picture.dest).wf = true ∧
      0 < (pictureHolds .row).picture.rowPixels.length) ∧
      ((at_ 1 State.reset).frames.clearing = true ∧ (at_ 1 State.reset).power.dockTime ≠ 0) ∧
      (linked.frames.clearing = false ∧ State.reset.power.dockTime = 0) := by
  unfold Running
  decide

theorem witness_RowBoundaryCases :
    let s := pictureHolds .row
    let c := setSlotState 15 .cancelling s
    let stopping := { opened with picture := { Picture.start with work := .stopping, abandon := true } }
    (stopping.exch.slots.length = 16 ∧ stopping.picture.abandon = true ∧ stopping.picture.job = none) ∧
      (s.picture.job = some (job 15 kindFill) ∧ s.exch.slots.length = 16) ∧
      ((slot c 15).state = .cancelling ∧ c.picture.job = some (job 15 kindFill)) ∧
      (s.picture.abandon = false ∧ (slot s 15).state = .active ∧
        s.picture.clip.y1 < ({ s with picture.nextRow := 1 }).picture.nextRow) ∧
      (s.picture.nextRow ≤ s.picture.clip.y1 ∧ ({ s with power.band := .crank }).power.band = .crank) ∧
      (s.power.band ≠ .crank ∧ s.power.standby = false ∧ s.picture.fill = true) ∧
      (let r := rowDue 1 1 0
       (slot r 15).state = .active ∧ r.picture.nextRow ≤ r.picture.clip.y1 ∧ r.picture.fill = false ∧
         r.picture.params.getD (0x1C - 0x1C) 0 ≠ 0 ∧ r.picture.job = some (job 15 kindCopy)) ∧
      (let r := rowDue 0 0 1249
       (slot r 15).state = .active ∧ r.picture.params.getD (0x1C - 0x1C) 0 = 0 ∧ r.link.busMastering = true ∧
         ({ r with link.busMastering := false }).link.busMastering = false ∧
         0 < r.picture.clip.x1 + 1 - r.picture.clip.x0) := by
  decide

theorem witness_CarryCopyRowLands :
    let s := carrying 799 false false
    (ExchangeInv s ∧ Running s ∧ s.scanout.carry = some ⟨799, true, false, false⟩ ∧
      (s.frames.get (backBuffer s)).wf = true ∧ s.picture.job = some (job 15 kindPresent)) ∧
      (ExchangeInv (carrying 798 false false) ∧ ExchangeInv (carrying 0 true false)) ∧
      (let e := { carrying 799 false true with picture := Picture.start, exch := linked.exch }
       ExchangeInv e ∧ Running e ∧ e.scanout.carry = some ⟨799, true, true, false⟩) := by
  unfold Running
  exact ⟨⟨by constructor <;> decide, by decide⟩, ⟨by constructor <;> decide, by constructor <;> decide⟩,
    by constructor <;> decide, by decide⟩

theorem witness_VerticalBlankSwapsAndDecides :
    (ExchangeInv opened ∧ Running opened ∧ opened.scanout.panel ≠ .on) ∧
      (let s := { opened with scanout.panel := .on, scanout.stage := none }
       ExchangeInv s ∧ s.scanout.waiting = none) ∧
      (ExchangeInv (presentWaits false) ∧ Running (presentWaits false) ∧ (presentWaits false).scanout.panel = .on ∧
        (presentWaits false).scanout.waiting = some false ∧
        (presentWaits false).picture.job = some (job 15 kindPresent)) ∧
      (ExchangeInv (presentWaits true) ∧ (presentWaits true).scanout.waiting = some true) ∧
      (let s := fun carry : Byte => posting 15 [(4, 3), (6, 1), (0x1C, carry)]
       (∀ carry, ExchangeInv (s carry)) ∧ Linked (s 2) ∧ (s 2).exch.sessionOpen = true ∧ (slot (s 2) 15).state = .free ∧
         (s 2).exch.queue = [] ∧ pictureFree (s 2) = true ∧ pictureHeld (s 2) = false ∧
         (s 2).mem.read (0x0104 + 64 * 15) = kindPresent ∧ (s 2).mem.read (0x011C + 64 * 15) ≠ 0 ∧
         (s 0).mem.read (0x0104 + 64 * 15) = kindPresent ∧ (s 0).mem.read (0x011C + 64 * 15) = 0 ∧
         (s 2).scanout.panel ≠ .on ∧ ({ s 2 with scanout.panel := .on }).scanout.panel = .on) := by
  unfold Running Linked
  exact ⟨⟨inv_exch_opened, by decide⟩, ⟨by constructor <;> decide, by decide⟩, ⟨by constructor <;> decide, by decide⟩,
    ⟨by constructor <;> decide, by decide⟩, fun _ => inv_exch_posting _ _, by decide⟩

theorem witness_PanelStagesFollowTheirSequence :
    let s := fun st => { opened with scanout.stage := some st }
    (Running (s .rails) ∧ (s .rails).scanout.stage = some .rails ∧ (s .railsOff).scanout.stage = some .railsOff ∧
      (s .railsOff).power.standby = false ∧ (s .railsOff).scanout.wish = true ∧
      ({ s .railsOff with scanout.wish := false }).scanout.wish = false) ∧
      (stageFits (s .signals).scanout.panel (some .signals) = true ∧
        stageFits (s .rails).scanout.panel (some .rails) = true ∧
        ({ opened with scanout.panel := .on }).scanout.panel = .on ∧
        ({ opened with scanout.panel := .off }).scanout.panel = .off) ∧
      ((settingsHolds kindPanel).exch.settingsJob = some (job 15 kindPanel) ∧ (job 15 kindPanel).kind = kindPanel ∧
        decide ((job 15 kindPanel).params.getD 0 0 ≠ 0) = false ∧
        decide (({ job 15 kindPanel with params := [1] }).params.getD 0 0 ≠ 0) = true ∧
        opened.exch.settingsJob = none) ∧
      (reached (at_ 20 (s .rails)).power.dockTime (s .rails).scanout.stageEnds = true ∧
        reached (at_ 19 (s .rails)).power.dockTime (s .rails).scanout.stageEnds = false) ∧
      (let w := { pictureHolds .row with scanout.panel := .on, picture.dest := .standby }
       Running w ∧ w.scanout.panel = .on ∧ w.scanout.source = .standby ∧ w.picture.writing = true ∧
         w.picture.dest = .standby ∧ w.picture.nextRow = 0 ∧ w.picture.clip.x0 = 0 ∧ w.picture.rowPixels.length = 1) := by
  unfold Running
  decide

theorem witness_ConversionsFollowDockTime :
    Running (at_ 8 opened) ∧ (at_ 8 opened).power.dockTime.toNat % 8 = 0 ∧
      (at_ 8 opened).measure.dueAt ≠ some (at_ 8 opened).power.dockTime ∧ (at_ 8 opened).measure.converting = .none ∧
      (at_ 7 opened).power.dockTime.toNat % 8 ≠ 0 := by
  unfold Running
  decide

theorem witness_SupplySampleSetsTheBand :
    let s := fun (b : Band) (r : Nat) => { opened with measure.converting := .supply, power.band := b, power.recovery := r }
    (Running (s .normal 0) ∧ (s .normal 0).measure.converting = .supply ∧ (s .normal 0).power.band = .normal ∧
      (s .low 0).power.band = .low ∧ (s .crank 2).power.band = .crank ∧ (s .crank 2).power.recovery ≤ 2 ∧
      (s .crank 3).power.recovery = 3 ∧ (s .crank 3).mem.wf = true ∧ Writable 1 (s .crank 3)) ∧
      ((s .crank 3).power.standby = false ∧ (s .crank 3).scanout.carry = none ∧
        (pictureHolds .paused).picture.work = .paused ∧ (carrying 799 false false).scanout.carry = some ⟨799, true, false, false⟩ ∧
        ({ s .crank 3 with power.standby := true }).power.standby = true) ∧
      ((449#10).toNat * 20 < 9000 ∧ ¬(450#10).toNat * 20 < 9000 ∧ (474#10).toNat * 20 < 9500 ∧
        9500 ≤ (475#10).toNat * 20) := by
  unfold Running Writable
  decide

theorem witness_AmbientAverageIsHandedOn :
    let s := fun h => { opened with measure.converting := .ambient, measure.history := h }
    (Running (s []) ∧ (s []).measure.converting = .ambient ∧ (s []).measure.history = [] ∧
      (s [9, 1, 2, 3]).measure.history = [9, 1, 2, 3] ∧ immediate (s []) = true ∧
      immediate { s [] with scanout.panel := .on } = false) ∧
      (let l := LightSettings.default
       l.mode = .auto ∧ l.p0.a < l.p1.a ∧ l.p1.a < l.p2.a ∧ l.p2.a < l.p3.a ∧ 0 ≤ l.p0.a ∧ l.p3.a ≤ 1000 ∧
         l.p1.a ≤ 100 ∧ 100 < l.p2.a) ∧ ({ LightSettings.default with mode := .manual }).mode = .manual := by
  unfold Running
  decide

theorem witness_LightTickAndIdleTimer :
    let on := { at_ 16 opened with scanout.panel := .on }
    (Running on ∧ on.power.dockTime.toNat % 16 = 0 ∧ on.light.tickAt ≠ some on.power.dockTime ∧ immediate on = false ∧
      immediate opened = true ∧ on.light.output ≤ on.light.target ∧
      ({ on with light.output := 9 }).light.target < ({ on with light.output := 9 }).light.output) ∧
      (at_ 15 opened).power.dockTime.toNat % 16 ≠ 0 ∧
      (opened.light.idle = .running ∧ reached (at_ 120000 opened).power.dockTime opened.light.idleEnds = true ∧
        reached (at_ 119999 opened).power.dockTime opened.light.idleEnds = false) ∧
      (opened.light.settings.idleSources.getLsbD Activity.picture.bit = false ∧
        opened.power.lingerSources.getLsbD Activity.picture.bit = false) ∧
      (opened.light.settings.idleSources.getLsbD Activity.key.bit = true ∧ opened.light.idle ≠ .off ∧
        opened.power.lingerSources.getLsbD Activity.key.bit = true ∧ opened.power.lingerEnds ≠ none) := by
  unfold Running
  decide

theorem witness_LineTimersQualify :
    (levelAt opened.lines.levels .ign = false ∧ levelAt opened.lines.levels .ign ≠ true ∧ Running opened) ∧
      (levelAt (trip opened).lines.levels .park ≠ false ∧ (trip opened).power.held = true) ∧
      (due (at_ 199 opened) (lineTimer opened.lines .ign) = false ∧
        due (at_ 200 opened) (lineTimer opened.lines .ign) = true ∧
        lineLevel opened.lines.levels .ign = qualified opened.lines .ign) := by
  unfold Running
  decide

theorem witness_QualifiedChangesAct :
    let t := fun l : LineLevels => { at_ 500 opened with lines.levels := l }
    let on := { t ⟨false, true, true, false⟩ with lines.ignOn := true, lines.parkEngaged := true }
    let off := { t ⟨true, true, false, true⟩ with lines.docked := false }
    let asleep := fun s : State => { s with power.standby := true, power.lingerEnds := none, power.latchWake := true }
    (ExchangeInv off ∧ Running off ∧ off.lines.drive = (off.lines.ignOn && !off.lines.parkEngaged) ∧
      due off off.lines.ignEnds = true ∧ off.lines.levels.ign = true ∧ off.lines.ignOn = false ∧
      due off off.lines.parkEnds = true ∧ off.lines.levels.park = off.lines.parkEngaged ∧
      due off off.lines.presenceEnds = true ∧ off.lines.levels.presence = false ∧ off.lines.docked = false ∧
      due off off.lines.latchEnds = true ∧ off.lines.levels.latch ≠ off.lines.latchOpen ∧ off.mem.wf = true ∧
      Writable 3 off ∧ off.light.settings.idleSources.getLsbD 2 = true ∧ off.light.idle ≠ .off ∧
      ({ off with light.settings.idleSources := 0b011#3 }).light.settings.idleSources.getLsbD 2 = false) ∧
      (ExchangeInv (asleep off) ∧ Writable 3 (asleep off) ∧ (asleep off).power.dockWake = true ∧
        (asleep off).power.latchWake = true ∧ (asleep off).lines.levels.latch = true) ∧
      (ExchangeInv on ∧ Running on ∧ on.lines.drive = (on.lines.ignOn && !on.lines.parkEngaged) ∧
        due on on.lines.ignEnds = true ∧ on.lines.levels.ign = false ∧ on.lines.ignOn = true ∧
        on.power.standby = false ∧ on.power.lingerMin ≠ 0 ∧ ({ on with power.lingerMin := 0 }).power.lingerMin = 0 ∧
        due on on.lines.presenceEnds = true ∧ on.lines.levels.presence = true ∧ on.lines.docked = true) ∧
      (ExchangeInv (asleep on) ∧ (asleep on).power.standby = true ∧ (asleep on).power.lingerEnds = none ∧
        (asleep on).lines.ignOn = true) := by
  unfold Running Writable
  exact ⟨⟨by constructor <;> decide, by decide⟩, ⟨by constructor <;> decide, by decide⟩,
    ⟨by constructor <;> decide, by decide⟩, by constructor <;> decide, by decide⟩

theorem witness_StandbyIsEnteredAndLeft :
    let on := { opened with scanout.panel := .on, scanout.stage := none }
    let z := { opened with
      power.standby := true, power.lingerEnds := none, scanout.panel := .off, scanout.stage := none }
    let slow := fun t => { at_ t z with scanner.mode := .slow }
    (ExchangeInv (at_ 1800000 on) ∧ Running on ∧ due (at_ 1800000 on) on.power.lingerEnds = true ∧
      due (at_ 1799999 on) on.power.lingerEnds = false ∧ on.scanout.panel = .on ∧ on.scanout.waiting = none ∧
      on.mem.wf = true ∧ Writable 1 on) ∧
      (ExchangeInv (presentWaits false) ∧ ExchangeInv (presentWaits true) ∧
        (presentWaits false).scanout.waiting = some false ∧
        (presentWaits false).picture.job = some (job 15 kindPresent) ∧
        due (at_ 1800000 (presentWaits false)) (presentWaits false).power.lingerEnds = true) ∧
      (let p := { settingsHolds kindPanel with exch.settingsJob := some { job 15 kindPanel with params := [1] } }
       ExchangeInv p ∧ p.scanout.panel = .starting ∧ p.scanout.stage = some .rails ∧
         ({ p with scanout.stage := some .signals }).scanout.stage = some .signals ∧
         ({ p with scanout.stage := some .enable }).scanout.stage = some .enable ∧
         ({ job 15 kindPanel with params := [1] } : Job).params.getD 0 0 ≠ 0 ∧
         ExchangeInv (settingsHolds kindPanel) ∧ (job 15 kindPanel).params.getD 0 0 = 0) ∧
      (on.power.standby = false ∧ ({ z with power.dockWake := false }).power.dockWake = false ∧
        z.power.latchWake = false) ∧
      (z.power.standby = true ∧ z.power.dockWake = true ∧ ({ z with power.latchWake := true }).power.latchWake = true ∧
        z.lines.ignOn = false ∧ z.scanout.panel = .off ∧ z.scanout.wish = true ∧ z.mem.wf = true ∧ Writable 1 z ∧
        z.scanner.mode = .fast ∧ z.light.idle ≠ .off ∧ ({ z with light.idle := .off }).light.idle = .off ∧
        ({ z with scanout.wish := false }).scanout.wish = false ∧ ({ z with lines.ignOn := true }).lines.ignOn = true) ∧
      (z.scanout.waiting = none ∧ z.power.band ≠ .crank ∧ z.scanout.carry = none ∧ z.picture.work ≠ .paused ∧
        ({ z with power.band := .crank }).power.band = .crank) ∧
      ((slow 32).scanner.mode = .slow ∧ (slow 32).power.dockTime ≠ (slow 32).scanner.passAt ∧
        ((slow 32).power.dockTime - (slow 32).scanner.passAt).toNat % 32 = 0 ∧
        ((slow 33).power.dockTime - (slow 33).scanner.passAt).toNat % 32 ≠ 0 ∧
        (slow 0).power.dockTime = (slow 0).scanner.passAt) := by
  unfold Running Writable
  exact ⟨⟨by constructor <;> decide, by decide⟩, ⟨by constructor <;> decide, by constructor <;> decide, by decide⟩,
    ⟨by constructor <;> decide, by decide, by decide, by decide, by decide, by decide, inv_exch_settings _, by decide⟩,
    by decide⟩

theorem witness_TripHoldsUntilTheDipStart :
    Running busy ∧ ((trip busy).power.held = true ∧ (trip busy).power.poweringUp = false ∧ (trip busy).mem.wf = true) ∧
      busy.power.held = false ∧ (poweringUp openInputs).power.poweringUp = true ∧ Instr.linkUp ≠ .supplyDipStart ∧
      (∀ l, Instr.linkUp ≠ .coldStart l) ∧ ∀ line high, Instr.linkUp ≠ .lineEdge line high :=
  ⟨by unfold Running; decide, by decide, by decide, by decide, by decide, (fun _ h => by cases h), fun _ _ h => by cases h⟩

theorem witness_FunctionResetStartsTheBlocks :
    (ExchangeInv (pictureHolds .row) ∧ Linked (pictureHolds .row) ∧ (pictureHolds .row).mem.wf = true ∧
      (pictureHolds .row).exch.sessionOpen = true ∧ (pictureHolds .row).picture.work = .row) ∧
      (let s := { opened with scanout.panel := .on, scanout.stage := none }
       ExchangeInv s ∧ Linked s ∧ s.scanout.panel = .on ∧ s.power.band ≠ .crank) := by
  unfold Linked
  exact ⟨⟨by constructor <;> decide, by decide⟩, by constructor <;> decide, by decide⟩

end Sys2Proof.Tests
end

section
/-! PROOFS. What the commands write in the Exchange Memory's plain bytes: the journal ring, the word that an
EXCHANGE_MEMORY_WRITE names, and nothing else but at a part start (R2, R24, R73). -/

namespace Sys2Proof.Machine

/-! ### Writes that stay inside the journal ring -/

/-- From the memory `m` on, a canonical form is kept and no byte outside the journal ring has changed (R2, R73). -/
def RingOnly (m m' : Memory) : Prop :=
  m.wf = true → m'.wf = true ∧ ∀ a, a < 0x0500 ∨ 0x1500 ≤ a → m'.read a = m.read a

@[simp] theorem RingOnly.refl (m : Memory) : RingOnly m m := fun h => ⟨h, fun _ _ => rfl⟩

theorem RingOnly.trans {m m' m'' : Memory} (h : RingOnly m m') (h' : RingOnly m' m'') : RingOnly m m'' := fun hm => by
  obtain ⟨hm', hread⟩ := h hm
  obtain ⟨hm'', hread'⟩ := h' hm'
  exact ⟨hm'', fun a ha => (hread' a ha).trans (hread a ha)⟩

section
variable {m : Memory} {s : State}

theorem foldl_ring {α : Type} {f : State → α → State} (hf : ∀ s a, RingOnly m s.mem → RingOnly m (f s a).mem)
    (l : List α) (h : RingOnly m s.mem) : RingOnly m (l.foldl f s).mem := by
  induction l generalizing s with
  | nil => exact h
  | cons a l ih => exact ih (hf s a h)

/-! ### The journal -/

/-- The place of every sequence number lies in the Key Journal region (R1, R73). -/
theorem recordOffset_range (seq : Word) : 0x0500 ≤ recordOffset seq ∧ recordOffset seq + 16 ≤ 0x1500 := by
  have : seq.toNat % 256 < 256 := Nat.mod_lt _ (by omega)
  simp only [recordOffset, Config.journalBase, Config.ringSize]
  omega

theorem putRecord_ring (seq : Word) (r : Rec) (h : RingOnly m s.mem) : RingOnly m (putRecord seq r s).mem :=
  h.trans fun hs => ⟨putRecord_wf seq r hs, fun _ ha => read_putRecord seq r hs (by have := recordOffset_range seq; omega)⟩

theorem putRecords_ring (seq : Word) (rs : List Rec) (h : RingOnly m s.mem) : RingOnly m (putRecords seq rs s).mem := by
  induction rs generalizing seq s with
  | nil => exact h
  | cons r rs ih => exact ih _ (putRecord_ring seq r h)

theorem writeGroup_ring (h : RingOnly m s.mem) : RingOnly m (writeGroup s).mem := by
  simpa [writeGroup] using putRecords_ring s.journal.head (resyncGroup s) h

theorem recoveryTest_ring (h : RingOnly m s.mem) : RingOnly m (recoveryTest s).mem := by
  unfold recoveryTest
  split
  · exact writeGroup_ring h
  · exact h

theorem handRecord_ring (r : Rec) (h : RingOnly m s.mem) : RingOnly m (handRecord r s).mem := by
  unfold handRecord
  (repeat' split)
  · exact h
  · exact recoveryTest_ring h
  · simpa using h
  · simpa using putRecord_ring s.journal.head r h

theorem keyRecord_ring (k : RecordKind) (p : Fin 128) (fl : Byte) (d : Half) (h : RingOnly m s.mem) :
    RingOnly m (keyRecord k p fl d s).mem := handRecord_ring _ h

theorem plainRecord_ring (k : RecordKind) (d : Half) (h : RingOnly m s.mem) : RingOnly m (plainRecord k d s).mem :=
  handRecord_ring _ h

theorem wakeRecord_ring (w : WakeSource) (h : RingOnly m s.mem) : RingOnly m (wakeRecord w s).mem := by
  unfold wakeRecord
  split
  · exact keyRecord_ring _ _ _ _ h
  · exact plainRecord_ring _ _ h

theorem moveTaken_ring (v : Word) (h : RingOnly m s.mem) : RingOnly m (moveTaken v s).mem := by
  unfold moveTaken
  dsimp only
  split
  · exact recoveryTest_ring h
  · exact h

theorem takenWrite_ring (v : Word) (h : RingOnly m s.mem) : RingOnly m (takenWrite v s).mem := by
  unfold takenWrite
  (repeat' split)
  · exact h
  · exact moveTaken_ring v h
  · exact moveTaken_ring s.journal.head h
  · exact h

/-! ### The Power Manager -/

theorem enterStandby_ring (h : RingOnly m s.mem) : RingOnly m (enterStandby s).mem := by
  simpa [enterStandby] using plainRecord_ring .power 0 h

theorem wake_ring (w : WakeSource) (h : RingOnly m s.mem) : RingOnly m (wake w s).mem := by
  have hrec : RingOnly m (wakeRecord w { s with power.standby := false }).mem := wakeRecord_ring w h
  unfold wake
  dsimp only
  split <;> simpa using hrec

theorem wakeSource_ring (w : WakeSource) (h : RingOnly m s.mem) : RingOnly m (wakeSource w s).mem := by
  unfold wakeSource
  split
  · exact wake_ring w h
  · exact h

theorem ignitionOff_ring (h : RingOnly m s.mem) : RingOnly m (ignitionOff s).mem := by
  unfold ignitionOff
  (repeat' split)
  · exact h
  · exact enterStandby_ring h
  · exact h

theorem lingerRetime_ring (h : RingOnly m s.mem) : RingOnly m (lingerRetime s).mem := by
  unfold lingerRetime
  (repeat' split)
  · exact h
  · exact enterStandby_ring h
  · exact h

theorem lingerExpiry_ring (h : RingOnly m s.mem) : RingOnly m (lingerExpiry s).mem := by
  unfold lingerExpiry
  split
  · exact enterStandby_ring h
  · exact h

theorem bandRecord_ring (o n : Band) (h : RingOnly m s.mem) : RingOnly m (bandRecord o n s).mem := by
  unfold bandRecord
  (repeat' split)
  · exact plainRecord_ring .supply 1 h
  · exact plainRecord_ring .supply 2 h
  · exact h

theorem sample_ring (mv : Nat) (h : RingOnly m s.mem) : RingOnly m (sample mv s).mem := by
  unfold sample
  dsimp only
  split
  · exact h
  · simp only [changeBand, resumePictures_keeps, recompute_keeps]
    exact bandRecord_ring _ _ h

/-! ### The key path -/

theorem pressAwake_ring (p : Fin 128) (h : RingOnly m s.mem) : RingOnly m (pressAwake p s).mem := by
  unfold pressAwake
  (repeat' split)
  · exact keyRecord_ring .suppressed p 0 0 h
  · exact keyRecord_ring .rollover p 0 0 h
  · exact keyRecord_ring .press p 0 0 (by simpa using h)

theorem pressCases_ring (p : Fin 128) (h : RingOnly m s.mem) : RingOnly m (pressCases p s).mem := by
  have hwake := wakeSource_ring (.key p) h
  unfold pressCases
  dsimp only
  (repeat' split)
  · exact hwake
  · exact pressAwake_ring p hwake
  · exact pressAwake_ring p h

theorem pressActivity_ring (found : State) (h : RingOnly m s.mem) : RingOnly m (pressActivity found s).mem := by
  unfold pressActivity
  dsimp only
  (repeat' split)
  · simp only [activity_keeps]
    exact lingerExpiry_ring h
  · simpa using h
  · simpa using h

theorem press_ring (p : Fin 128) (h : RingOnly m s.mem) : RingOnly m (press p s).mem := by
  unfold press
  split
  · exact pressActivity_ring s (pressCases_ring p h)
  · exact h

theorem release_ring (p : Fin 128) (h : RingOnly m s.mem) : RingOnly m (release p s).mem := by
  unfold release
  split
  · exact h
  · exact keyRecord_ring .release p 0 0 (by simpa using h)
  · exact h
  · exact h

theorem holdTest_ring (p : Fin 128) (h : RingOnly m s.mem) : RingOnly m (holdTest p s).mem := by
  unfold holdTest
  dsimp only
  split
  · exact keyRecord_ring .hold p 0 0 h
  · exact h

theorem stuckTest_ring (p : Fin 128) (h : RingOnly m s.mem) : RingOnly m (stuckTest p s).mem := by
  unfold stuckTest
  dsimp only
  split
  · exact keyRecord_ring .release p 1 0 (by simpa using h)
  · exact h

theorem advanceKey_ring (p : Fin 128) (h : RingOnly m s.mem) : RingOnly m (advanceKey p s).mem :=
  stuckTest_ring p (holdTest_ring p h)

theorem advanceDownTimes_ring (h : RingOnly m s.mem) : RingOnly m (advanceDownTimes s).mem :=
  foldl_ring (fun _ p h => advanceKey_ring p h) _ h

theorem repeatFires_ring (h : RingOnly m s.mem) : RingOnly m (repeatFires s).mem := by
  unfold repeatFires
  (repeat' split)
  · exact h
  · exact keyRecord_ring .repeating _ 0 _ h
  · exact h

theorem swapProfile_ring (st : Staged) (h : RingOnly m s.mem) : RingOnly m (swapProfile st s).mem := by
  simp only [swapProfile, finishProfile_keeps]
  exact plainRecord_ring .profile _ h

theorem quietTest_ring (h : RingOnly m s.mem) : RingOnly m (quietTest s).mem := by
  unfold quietTest
  (repeat' split)
  · exact h
  · exact swapProfile_ring _ h
  · exact h

theorem fastPass_ring (raw : BitVec 128) (h : RingOnly m s.mem) : RingOnly m (fastPass raw s).mem := by
  refine quietTest_ring ?_
  simp only [countIdle_keeps, countWindow_keeps, fastPassDecide, storeSamples_mem]
  exact foldl_ring (fun _ p h => press_ring p h) _ (foldl_ring (fun _ p h => release_ring p h) _ h)

theorem slowBoundary_ring (sw : Bool) (h : RingOnly m s.mem) : RingOnly m (slowBoundary sw s).mem := by
  have hq : ∀ {u : State}, u.mem = s.mem → RingOnly m (quietTest u).mem := fun hu => quietTest_ring (hu ▸ h)
  unfold slowBoundary
  dsimp only
  (repeat' split)
  all_goals exact hq rfl

theorem slowPass_ring (raw : BitVec 128) (h : RingOnly m s.mem) : RingOnly m (slowPass raw s).mem :=
  slowBoundary_ring _ (foldl_ring (fun _ p h => release_ring p h) _ h)

/-! ### The contexts -/

theorem applyWish_ring (w : Bool) (h : RingOnly m s.mem) : RingOnly m (applyWish w s).mem := by
  unfold applyWish
  dsimp only
  split
  · exact wakeSource_ring .host h
  · simpa using h

theorem takePanel_ring (j : Job) (h : RingOnly m s.mem) : RingOnly m (takePanel j s).mem := by
  have hwish := applyWish_ring (panelWish j.params) h
  unfold takePanel
  dsimp only
  split <;> simpa using hwish

theorem takeSettings_ring (j : Job) (h : RingOnly m s.mem) : RingOnly m (takeSettings j s).mem := by
  unfold takeSettings
  (repeat' split)
  · simpa using h
  · simpa using h
  · exact lingerRetime_ring h
  · exact takePanel_ring j h
  · simpa using h

/-- A take is made by one of the three contexts, free and with an eligible slot in the queue (R15, R17). -/
theorem oneTake_cases {t : State} (h : oneTake s = some t) :
    (settingsFree s = true ∧ ∃ e, nextSettings s = some e ∧ t = takeBySettings e s) ∨
    (pictureFree s = true ∧ pictureHeld s = false ∧ ∃ e, nextPicture s = some e ∧ t = takeByPicture e s) ∨
    (profileFree s = true ∧ ∃ e, nextProfile s = some e ∧ t = takeByProfile e s) := by
  unfold oneTake settingsTake pictureTake profileTake at h
  simp only [Option.or_eq_some_iff] at h
  rcases h with (h | ⟨-, h⟩) | ⟨-, h⟩ <;> split at h
  · obtain ⟨e, he, rfl⟩ := Option.map_eq_some_iff.mp h
    exact .inl ⟨‹_›, e, he, rfl⟩
  · cases h
  · next hc =>
    obtain ⟨e, he, rfl⟩ := Option.map_eq_some_iff.mp h
    simp only [Bool.and_eq_true, Bool.not_eq_true'] at hc
    exact .inr (.inl ⟨hc.1, hc.2, e, he, rfl⟩)
  · cases h
  · obtain ⟨e, he, rfl⟩ := Option.map_eq_some_iff.mp h
    exact .inr (.inr ⟨‹_›, e, he, rfl⟩)
  · cases h

theorem oneTake_ring {t : State} (ht : oneTake s = some t) (h : RingOnly m s.mem) : RingOnly m t.mem := by
  obtain ⟨-, e, -, rfl⟩ | ⟨-, -, e, -, rfl⟩ | ⟨-, e, -, rfl⟩ := oneTake_cases ht
  · exact takeSettings_ring _ (by simpa using h)
  · simpa using h
  · simpa using h

theorem lookFor_ring (n : Nat) (h : RingOnly m s.mem) : RingOnly m (lookFor n s).mem := by
  induction n generalizing s with
  | zero => exact h
  | succ n ih =>
    unfold lookFor
    split
    · exact h
    · next t ht => exact ih (oneTake_ring ht h)

theorem look_ring (h : RingOnly m s.mem) : RingOnly m (look s).mem := lookFor_ring _ h

/-! ### The tablet's writes -/

theorem postWrite_ring (k : Fin 16) (h : RingOnly m s.mem) : RingOnly m (postWrite k s).mem := by
  unfold postWrite
  split
  · exact look_ring h
  · exact h

theorem cancelWrite_ring (k : Fin 16) (h : RingOnly m s.mem) : RingOnly m (cancelWrite k s).mem := by
  unfold cancelWrite
  (repeat' split)
  · exact h
  · exact h
  · exact look_ring (by simpa using h)
  · exact look_ring (by simpa using h)
  all_goals exact h

theorem sessionWrite_ring (v : Word) (h : RingOnly m s.mem) : RingOnly m (sessionWrite v s).mem := by
  unfold sessionWrite
  (repeat' split)
  · exact h
  · exact writeGroup_ring h
  · exact h
  · simpa using h
  · exact h

theorem slotStateWrite_ring (k : Fin 16) (v : Word) (h : RingOnly m s.mem) : RingOnly m (slotStateWrite k v s).mem := by
  unfold slotStateWrite
  (repeat' split)
  · simpa using h
  · exact postWrite_ring k h
  · exact cancelWrite_ring k h
  · exact h

theorem guardedWrite_ring (g : Guarded) (v : Word) (h : RingOnly m s.mem) : RingOnly m (guardedWrite g v s).mem := by
  cases g with
  | session => exact sessionWrite_ring v h
  | taken => exact takenWrite_ring v h
  | mark => simpa [guardedWrite] using h
  | acknowledge => simpa [guardedWrite] using h
  | slotState k => exact slotStateWrite_ring k v h

/-! ### Lines, supply and link -/

theorem deriveDrive_ring (h : RingOnly m s.mem) : RingOnly m (deriveDrive s).mem := by
  unfold deriveDrive
  dsimp only
  split
  · exact h
  · simp only [recompute_keeps]
    exact plainRecord_ring .vehicle _ h

theorem ignChange_ring (on : Bool) (h : RingOnly m s.mem) : RingOnly m (ignChange on s).mem := by
  simp only [ignChange, activity_keeps]
  have hdrive := deriveDrive_ring (plainRecord_ring (s := { s with lines.ignOn := on }) .vehicle (if on then 1 else 2) h)
  cases on with
  | true => exact wakeSource_ring .ignitionOn hdrive
  | false => exact ignitionOff_ring hdrive

theorem lineChange_ring (line : Line) (b : Bool) (h : RingOnly m s.mem) : RingOnly m (lineChange line b s).mem := by
  cases line with
  | ign => exact ignChange_ring b h
  | park =>
    simp only [lineChange, parkChange, activity_keeps]
    exact deriveDrive_ring h
  | presence =>
    simp only [lineChange, presenceChange]
    split
    · exact wakeSource_ring .dockArrival h
    · simpa using h
  | latch =>
    simp only [lineChange, latchChange]
    split
    · exact wakeSource_ring .latch (plainRecord_ring .latch _ h)
    · exact plainRecord_ring .latch _ h

theorem lineExpiry_ring (line : Line) (h : RingOnly m s.mem) : RingOnly m (lineExpiry line s).mem := by
  unfold lineExpiry
  dsimp only
  (repeat' split)
  · simpa using h
  · exact lineChange_ring line _ (by simpa using h)
  · exact h

theorem failFetches_ring (n : Nat) (h : RingOnly m s.mem) : RingOnly m (failFetches n s).mem := by
  induction n generalizing s with
  | zero => exact h
  | succ n ih =>
    unfold failFetches
    dsimp only
    (repeat' split)
    · exact ih (look_ring (by simpa using h))
    · exact h
    · exact h

theorem linkDown_ring (h : RingOnly m s.mem) : RingOnly m (linkDown s).mem := by
  unfold linkDown
  split
  · simp only [linkLost, giveUpReads_keeps, endSession_keeps]
    exact failFetches_ring _ h
  · exact h

end

end Sys2Proof.Machine
end

section
/-! PROOFS. What a command's answer is behind the gates, and what holds of every command: it completes (R3), and the
memories stay canonical and change only where they may. -/

namespace Sys2Proof.Machine

/-! ### The answer of a command -/

/-- What a command does to a part that runs, with the link up where the command is an access of the tablet. -/
def effect : Instr → State → State
  | .exchangeMemoryWrite word be value => exchangeWrite word be value
  | .sessionOpen => sessionWrite 1
  | .sessionClose => sessionWrite 2
  | .post k => postWrite k
  | .cancel k => cancelWrite k
  | .free k => freeWrite k
  | .settingsCompletion => fun s => look (settingsComplete s)
  | .attentionAcknowledge value => ackWrite value
  | .journalTakenWrite value => takenWrite value
  | .notifyMarkWrite value => markWrite value
  | .interruptEnableWrite value => controlWrite value
  | .functionReset value => controlWrite (value ||| 2)
  | .registerWriteIgnored word be value => registerWrite word be value
  | .linkDown => linkDown
  | .linkReset => linkReset
  | .msiEnableChange on => fun s => { s with link.msiEnable := on }
  | .interruptDisableChange on => fun s => { s with link.intxDisable := on }
  | .fastPass levels => fun s => look (fastPass (rawOfLevels levels) s)
  | .windowEnd => endWindow
  | .slowScanEntry => enterSlow
  | .slowPass levels => fun s => look (slowPass (rawOfLevels levels) s)
  | .downTimeAdvance => advanceDownTimes
  | .hold p => holdTest p
  | .stuck p => stuckTest p
  | .repeatExpiry => repeatFires
  | .profileWaitExpiry => fun s => look (profileExpiry s)
  | .hostReadCompletion tag place data error poisoned => fun s => look (hostCompletion tag place data error poisoned s)
  | .hostReadTimeout tag => fun s => look (hostTimeout tag s)
  | .rowWriteComplete => fun s => look (rowWritten s)
  | .clearingEnd => fun s => look (endClearing s)
  | .carryCopyRowComplete => fun s => look (carryRowDone s)
  | .verticalBlankStart => fun s => look (verticalBlank s)
  | .panelStageExpiry => fun s => look (stageExpiry s)
  | .conversionDue => startConversion
  | .supplyConversionComplete code => fun s => look (supplyDone code s)
  | .ambientConversionComplete code => ambientDone code
  | .lightTick => lightTick
  | .idleExpiry => idleExpiry
  | .lineEdge line high => lineEdge line high
  | .qualificationExpiry line => fun s => look (lineExpiry line s)
  | .dockTimeAdvance => fun s => { s with power.dockTime := s.power.dockTime + 1 }
  | .lingerExpiry => fun s => look (lingerExpiry s)
  | .survivalComparatorTrip => trip
  | .supplyDipStart => dipStart
  | .coldStart levels => coldStart levels
  | .linkUp => linkUp
  | .busMasteringChange config => fun s =>
    { s with
      link.windowsAssigned := config.windows, link.memoryDecoding := config.decoding,
      link.busMastering := config.busMastering }

/-- A gated event is answered with the state it found, or with that state and its effect. -/
theorem whenRunning_answer (f : State → State) (s : State) :
    ∃ t, (.next (whenRunning f s) : Result) = .next t ∧ (t = s ∨ t = f s) := by
  refine ⟨_, rfl, ?_⟩
  unfold whenRunning
  split <;> simp

/-- So is an access of the tablet. -/
theorem whenLinked_answer (f : State → State) (s : State) :
    ∃ t, (.next (whenLinked f s) : Result) = .next t ∧ (t = s ∨ t = f s) := by
  refine ⟨_, rfl, ?_⟩
  unfold whenLinked whenRunning
  split
  · exact .inl rfl
  · dsimp only
    split <;> simp

/-- So is an event that has a moment at which it is due. -/
theorem ifDue_answer (c : State → Bool) (f : State → State) (s : State) :
    ∃ t, (.next (whenRunning (ifDue c f) s) : Result) = .next t ∧ (t = s ∨ t = f s) := by
  obtain ⟨t, ht, h | h⟩ := whenRunning_answer (ifDue c f) s
  · exact ⟨t, ht, .inl h⟩
  · refine ⟨t, ht, ?_⟩
    rw [h, ifDue]
    split <;> simp

/-- Every command answers a next state: the state it found, or that state with its effect. -/
theorem exec_effect (c : Instr) (s : State) : ∃ t, exec c s = .next t ∧ (t = s ∨ t = effect c s) := by
  cases c
  case exchangeMemoryWrite | sessionOpen | sessionClose | post | cancel | free | attentionAcknowledge
      | journalTakenWrite | notifyMarkWrite | interruptEnableWrite | functionReset | registerWriteIgnored
      | msiEnableChange | interruptDisableChange | busMasteringChange | hostReadCompletion =>
    exact whenLinked_answer _ s
  case fastPass | windowEnd | slowScanEntry | slowPass | downTimeAdvance | conversionDue | supplyConversionComplete
      | ambientConversionComplete =>
    exact ifDue_answer _ _ s
  case lineEdge | coldStart => exact ⟨_, rfl, .inr rfl⟩
  case supplyDipStart =>
    refine ⟨_, rfl, ?_⟩
    split <;> simp [effect]
  all_goals exact whenRunning_answer _ s

/-- The same, of an answer at hand. -/
theorem exec_next {c : Instr} {s t : State} (h : exec c s = .next t) : t = s ∨ t = effect c s := by
  obtain ⟨u, hu, hcases⟩ := exec_effect c s
  rw [hu] at h
  cases h
  exact hcases

/-- A step answers the state it found on an empty queue, and else runs the command in front. -/
theorem step_next {s t : State} (h : step s = .next t) :
    t = s ∨ ∃ c rest, s.pending = c :: rest ∧ (t = { s with pending := rest } ∨ t = effect c { s with pending := rest }) := by
  unfold step at h
  split at h
  · cases h
    exact .inl rfl
  · next c rest hp => exact .inr ⟨c, rest, hp, exec_next h⟩

/-- What holds in a state whatever commands wait, and is kept by the effect of every command, is kept by every step. -/
theorem step_preserves {P : State → Prop} (hpending : ∀ s rest, P s → P { s with pending := rest })
    (heffect : ∀ c s, P s → P (effect c s)) {s t : State} (h : P s) (ht : step s = .next t) : P t := by
  obtain rfl | ⟨c, rest, -, rfl | rfl⟩ := step_next ht
  · exact h
  · exact hpending s rest h
  · exact heffect c _ (hpending s rest h)

/-- No effect touches the queue of commands. -/
theorem effect_pending (c : Instr) (s : State) : (effect c s).pending = s.pending := by
  have hgrid : ∀ s : State, (endClearing s).pending = s.pending := fun s => by
    unfold endClearing
    split <;> rfl
  cases c <;> simp [effect, hgrid, coldStart, freshStart, dipStart, startConversion]

/-- Settles O2: a command's answer is the state it found or its effect, and neither touches the queue. -/
theorem everyCommandCompletes : Obligations.EveryCommandCompletes := by
  intro c s
  obtain ⟨t, ht, rfl | rfl⟩ := exec_effect c s
  · exact ⟨_, ht, rfl⟩
  · exact ⟨_, ht, effect_pending c s⟩

/-! ### The Exchange Memory -/

/-- Of the commands that are no part start, only EXCHANGE_MEMORY_WRITE writes outside the journal ring (R2, R24). -/
theorem effect_ring {c : Instr} (s : State) (hstart : mayStart c = false)
    (hwrite : ∀ w be v, c ≠ .exchangeMemoryWrite w be v) : RingOnly s.mem (effect c s).mem := by
  have hs := RingOnly.refl s.mem
  cases c with
  | exchangeMemoryWrite w be v => exact absurd rfl (hwrite w be v)
  | sessionOpen => exact sessionWrite_ring 1 hs
  | sessionClose => exact sessionWrite_ring 2 hs
  | post k => exact postWrite_ring k hs
  | cancel k => exact cancelWrite_ring k hs
  | journalTakenWrite v => exact takenWrite_ring v hs
  | linkDown => exact linkDown_ring hs
  | fastPass levels => exact look_ring (fastPass_ring _ hs)
  | slowPass levels => exact look_ring (slowPass_ring _ hs)
  | downTimeAdvance => exact advanceDownTimes_ring hs
  | hold p => exact holdTest_ring p hs
  | stuck p => exact stuckTest_ring p hs
  | repeatExpiry => exact repeatFires_ring hs
  | clearingEnd =>
    refine look_ring ?_
    unfold endClearing
    split <;> exact hs
  | supplyConversionComplete code => exact look_ring (sample_ring (s := { s with measure.millivolts := _ }) _ hs)
  | qualificationExpiry line => exact look_ring (lineExpiry_ring line hs)
  | lingerExpiry => exact look_ring (lingerExpiry_ring hs)
  | functionReset _ | interruptEnableWrite _ | registerWriteIgnored _ _ _ | supplyDipStart | coldStart _ => cases hstart
  | settingsCompletion | profileWaitExpiry | hostReadCompletion _ _ _ _ _ | hostReadTimeout _ | rowWriteComplete
  | carryCopyRowComplete | verticalBlankStart | panelStageExpiry => exact look_ring (by simp)
  | _ => simp [effect, startConversion]

/-- An EXCHANGE_MEMORY_WRITE keeps the canonical form, and writes outside the ring only in its word (R2). -/
theorem exchangeWrite_mem (w : BitVec 14) (be : BitVec 4) (v : Word) {s : State} (hs : s.mem.wf = true) :
    (exchangeWrite w be v s).mem.wf = true ∧
      ∀ a, a < 0x0500 ∨ 0x1500 ≤ a → a < 4 * w.toNat ∨ 4 * w.toNat + 4 ≤ a →
        (exchangeWrite w be v s).mem.read a = s.mem.read a := by
  unfold exchangeWrite
  split
  · exact ⟨Memory.writeWord_wf hs, fun a _ ha => Memory.read_writeWord_outside hs fun i hi _ => by
      simp only [offsetOf]
      omega⟩
  · exact ⟨hs, fun _ _ _ => rfl⟩
  · exact ⟨hs, fun _ _ _ => rfl⟩
  · next g _ =>
    split
    · obtain ⟨hwf, hread⟩ := guardedWrite_ring g v (.refl s.mem) hs
      exact ⟨hwf, fun a ha _ => hread a ha⟩
    · exact ⟨hs, fun _ _ _ => rfl⟩

/-- Settles O14: the effects that are no EXCHANGE_MEMORY_WRITE stay in the ring, and that one in its word. -/
theorem onlyTabletWritesChangePlainBytes : Obligations.OnlyTabletWritesChangePlainBytes := by
  intro c s t hs ht hstart a ha hword
  obtain rfl | rfl := exec_next ht
  · rfl
  · by_cases hc : ∃ w be v, c = .exchangeMemoryWrite w be v
    · obtain ⟨w, be, v, rfl⟩ := hc
      exact (exchangeWrite_mem w be v hs).2 a ha (hword w be v rfl)
    · simp only [not_exists] at hc
      exact (effect_ring s hstart hc hs).2 a ha

/-! ### The canonical form of the memories -/

theorem resetFunction_mem (s : State) : (resetFunction s).mem = s.mem.clear 0 Config.journalBase := by
  simp [resetFunction, powerReset, settingsReset, keyPathReset, exchangeReset, keptMemory]

/-- A write to CONTROL leaves the Exchange Memory, or clears it below the Key Journal (R23, R24). -/
theorem controlWrite_mem (v : Word) (s : State) :
    (controlWrite v s).mem = s.mem ∨ (controlWrite v s).mem = s.mem.clear 0 Config.journalBase := by
  unfold controlWrite
  dsimp only
  split
  · exact .inr (by simp [resetFunction_mem])
  · exact .inl (by simp)

theorem controlWrite_wf (v : Word) {s : State} (h : s.mem.wf = true) : (controlWrite v s).mem.wf = true := by
  obtain hv | hv := controlWrite_mem v s <;> rw [hv]
  · exact h
  · exact Memory.clear_wf h

/-- Every effect keeps the Exchange Memory in canonical form. -/
theorem effect_mem_wf (c : Instr) {s : State} (h : s.mem.wf = true) : (effect c s).mem.wf = true := by
  by_cases hstart : mayStart c = true
  · cases c with
    | interruptEnableWrite v => exact controlWrite_wf v h
    | functionReset v => exact controlWrite_wf _ h
    | registerWriteIgnored w be v =>
      simp only [effect, registerWrite]
      split
      · exact controlWrite_wf v h
      · exact h
    | supplyDipStart => exact Memory.clear_wf h
    | coldStart l => rfl
    | _ => cases hstart
  · by_cases hc : ∃ w be v, c = .exchangeMemoryWrite w be v
    · obtain ⟨w, be, v, rfl⟩ := hc
      exact (exchangeWrite_mem w be v h).1
    · simp only [not_exists] at hc
      exact (effect_ring s (by simpa using hstart) hc h).1

/-- The three frame buffers are in canonical form. -/
def FramesCanonical (f : Frames) : Prop := ∀ buf, (f.get buf).wf = true

theorem rowWritten_frames {s : State} (h : FramesCanonical s.frames) : FramesCanonical (rowWritten s).frames := by
  unfold rowWritten
  split
  · simp only [pictureBoundary_keeps]
    exact writeRow_wf _ _ _ _ h
  · exact h

theorem carryRowDone_frames {s : State} (h : FramesCanonical s.frames) : FramesCanonical (carryRowDone s).frames := by
  unfold carryRowDone
  (repeat' split)
  · exact h
  · simp only [carryBoundary_keeps]
    exact copyRow_wf _ h
  · exact h

/-- Every effect keeps the frame buffers in canonical form: two land a row, two clear, and the others leave them. -/
theorem effect_frames_canonical (c : Instr) {s : State} (h : FramesCanonical s.frames) :
    FramesCanonical (effect c s).frames := by
  have hblack : FramesCanonical Frames.start := fun buf => by cases buf <;> rfl
  cases c with
  | rowWriteComplete =>
    simp only [effect, look_keeps]
    exact rowWritten_frames h
  | carryCopyRowComplete =>
    simp only [effect, look_keeps]
    exact carryRowDone_frames h
  | clearingEnd =>
    simp only [effect, look_keeps, endClearing]
    split
    · exact fun buf => by cases buf <;> [exact h .a; exact h .b; exact h .standby]
    · exact h
  | supplyDipStart => exact hblack
  | coldStart l => exact hblack
  | _ => simpa [effect, startConversion] using h

theorem memoryInv_iff (s : State) : MemoryInv s ↔ s.mem.wf = true ∧ FramesCanonical s.frames := by
  refine and_congr_right fun _ => ⟨fun ⟨ha, hb, hs⟩ buf => ?_, fun h => ⟨h .a, h .b, h .standby⟩⟩
  cases buf
  · exact ha
  · exact hb
  · exact hs

/-- Settles O3: the effect of every command keeps each of the four memories canonical. -/
theorem stepKeepsMemoriesCanonical : Obligations.StepKeepsMemoriesCanonical := by
  intro s t h ht
  refine step_preserves (fun _ _ h => h) (fun c s h => ?_) h ht
  rw [memoryInv_iff] at h ⊢
  exact ⟨effect_mem_wf c h.1, effect_frames_canonical c h.2⟩

end Sys2Proof.Machine
end

section
/-! PROOFS. The Post Queue and the SETTINGS context's slot: what leaves them alone, and the looks of the contexts at the
queue (R14 to R18, R104). -/

namespace Sys2Proof.Machine

/-! ### Attention and completions -/

@[simp] theorem raise_queue (c : Cause) (s : State) :
    (raise c s).exch.queue = s.exch.queue ∧
    (raise c s).exch.settingsJob = s.exch.settingsJob := by
  simp [raise_exch]

@[simp] theorem complete_queue (k : Fin 16) (n : Bool) (code : ResultCode) (fl : Byte) (c : Nat) (s : State) :
    (complete k n code fl c s).exch.queue = s.exch.queue ∧
    (complete k n code fl c s).exch.settingsJob = s.exch.settingsJob := by
  simp [complete_exch]

@[simp] theorem completeJob_queue (j : Job) (code : ResultCode) (fl : Byte) (c : Nat) (s : State) :
    (completeJob j code fl c s).exch.queue = s.exch.queue ∧
    (completeJob j code fl c s).exch.settingsJob = s.exch.settingsJob := by
  simp [completeJob]

/-! ### The journal -/

@[simp] theorem testMark_queue (s : State) :
    (testMark s).exch.queue = s.exch.queue ∧
    (testMark s).exch.settingsJob = s.exch.settingsJob := by
  unfold testMark
  (repeat' split) <;> simp

@[simp] theorem advanceHead_queue (n : Nat) (s : State) :
    (advanceHead n s).exch.queue = s.exch.queue ∧
    (advanceHead n s).exch.settingsJob = s.exch.settingsJob := by
  simp [advanceHead]

@[simp] theorem writeGroup_queue (s : State) :
    (writeGroup s).exch.queue = s.exch.queue ∧
    (writeGroup s).exch.settingsJob = s.exch.settingsJob := by
  simp [writeGroup]

@[simp] theorem recoveryTest_queue (s : State) :
    (recoveryTest s).exch.queue = s.exch.queue ∧
    (recoveryTest s).exch.settingsJob = s.exch.settingsJob := by
  unfold recoveryTest
  (repeat' split) <;> simp

@[simp] theorem handRecord_queue (r : Rec) (s : State) :
    (handRecord r s).exch.queue = s.exch.queue ∧
    (handRecord r s).exch.settingsJob = s.exch.settingsJob := by
  unfold handRecord
  (repeat' split) <;> simp

@[simp] theorem keyRecord_queue (k : RecordKind) (p : Fin 128) (fl : Byte) (d : Half) (s : State) :
    (keyRecord k p fl d s).exch.queue = s.exch.queue ∧
    (keyRecord k p fl d s).exch.settingsJob = s.exch.settingsJob := by
  simp [keyRecord]

@[simp] theorem plainRecord_queue (k : RecordKind) (d : Half) (s : State) :
    (plainRecord k d s).exch.queue = s.exch.queue ∧
    (plainRecord k d s).exch.settingsJob = s.exch.settingsJob := by
  simp [plainRecord]

@[simp] theorem wakeRecord_queue (w : WakeSource) (s : State) :
    (wakeRecord w s).exch.queue = s.exch.queue ∧
    (wakeRecord w s).exch.settingsJob = s.exch.settingsJob := by
  unfold wakeRecord
  (repeat' split) <;> simp

@[simp] theorem moveTaken_queue (v : Word) (s : State) :
    (moveTaken v s).exch.queue = s.exch.queue ∧
    (moveTaken v s).exch.settingsJob = s.exch.settingsJob := by
  unfold moveTaken
  dsimp only
  (repeat' split) <;> simp

@[simp] theorem takenWrite_queue (v : Word) (s : State) :
    (takenWrite v s).exch.queue = s.exch.queue ∧
    (takenWrite v s).exch.settingsJob = s.exch.settingsJob := by
  unfold takenWrite
  (repeat' split) <;> simp

@[simp] theorem markWrite_queue (v : Word) (s : State) :
    (markWrite v s).exch.queue = s.exch.queue ∧
    (markWrite v s).exch.settingsJob = s.exch.settingsJob := by
  unfold markWrite
  (repeat' split) <;> simp

/-! ### The picture path -/

@[simp] theorem finishPicture_queue (code : ResultCode) (s : State) :
    (finishPicture code s).exch.queue = s.exch.queue ∧
    (finishPicture code s).exch.settingsJob = s.exch.settingsJob := by
  unfold finishPicture
  (repeat' split) <;> simp

@[simp] theorem failPicture_queue (s : State) :
    (failPicture s).exch.queue = s.exch.queue ∧
    (failPicture s).exch.settingsJob = s.exch.settingsJob := by
  unfold failPicture
  (repeat' split) <;> simp

@[simp] theorem issueReads_queue (rs : List ReadPlan) (s : State) :
    (issueReads rs s).exch.queue = s.exch.queue ∧
    (issueReads rs s).exch.settingsJob = s.exch.settingsJob := by
  induction rs generalizing s with
  | nil => simp [issueReads]
  | cons r rs ih => unfold issueReads; (repeat' split) <;> simp [ih]

@[simp] theorem startHostFetch_queue (s : State) :
    (startHostFetch s).exch.queue = s.exch.queue ∧
    (startHostFetch s).exch.settingsJob = s.exch.settingsJob := by
  simp [startHostFetch]

@[simp] theorem beginRow_queue (s : State) :
    (beginRow s).exch.queue = s.exch.queue ∧
    (beginRow s).exch.settingsJob = s.exch.settingsJob := by
  unfold beginRow
  dsimp only
  (repeat' split) <;> simp

@[simp] theorem pictureBoundary_queue (s : State) :
    (pictureBoundary s).exch.queue = s.exch.queue ∧
    (pictureBoundary s).exch.settingsJob = s.exch.settingsJob := by
  unfold pictureBoundary
  (repeat' split) <;> simp

@[simp] theorem resumePicture_queue (s : State) :
    (resumePicture s).exch.queue = s.exch.queue ∧
    (resumePicture s).exch.settingsJob = s.exch.settingsJob := by
  unfold resumePicture
  (repeat' split) <;> simp

@[simp] theorem takeCompletion_queue (r : Read) (place : Nat) (d : List Byte) (s : State) :
    (takeCompletion r place d s).exch.queue = s.exch.queue ∧
    (takeCompletion r place d s).exch.settingsJob = s.exch.settingsJob := by
  unfold takeCompletion
  dsimp only
  (repeat' split) <;> simp

@[simp] theorem hostCompletion_queue (tag place : Nat) (d : List Byte) (er po : Bool) (s : State) :
    (hostCompletion tag place d er po s).exch.queue = s.exch.queue ∧
    (hostCompletion tag place d er po s).exch.settingsJob = s.exch.settingsJob := by
  unfold hostCompletion
  (repeat' split) <;> simp

@[simp] theorem hostTimeout_queue (tag : Nat) (s : State) :
    (hostTimeout tag s).exch.queue = s.exch.queue ∧
    (hostTimeout tag s).exch.settingsJob = s.exch.settingsJob := by
  unfold hostTimeout
  (repeat' split) <;> simp

@[simp] theorem rowWritten_queue (s : State) :
    (rowWritten s).exch.queue = s.exch.queue ∧
    (rowWritten s).exch.settingsJob = s.exch.settingsJob := by
  unfold rowWritten
  dsimp only
  (repeat' split) <;> simp

@[simp] theorem startPicture_queue (j : Job) (fill : Bool) (s : State) :
    (startPicture j fill s).exch.queue = s.exch.queue ∧
    (startPicture j fill s).exch.settingsJob = s.exch.settingsJob := by
  unfold startPicture
  dsimp only
  (repeat' split) <;> simp

@[simp] theorem takePicture_queue (j : Job) (fill : Bool) (s : State) :
    (takePicture j fill s).exch.queue = s.exch.queue ∧
    (takePicture j fill s).exch.settingsJob = s.exch.settingsJob := by
  unfold takePicture
  (repeat' split) <;> simp

@[simp] theorem finishPresent_queue (code : ResultCode) (n : Nat) (s : State) :
    (finishPresent code n s).exch.queue = s.exch.queue ∧
    (finishPresent code n s).exch.settingsJob = s.exch.settingsJob := by
  unfold finishPresent
  dsimp only
  (repeat' split) <;> simp

@[simp] theorem carryBoundary_queue (c : Carry) (s : State) :
    (carryBoundary c s).exch.queue = s.exch.queue ∧
    (carryBoundary c s).exch.settingsJob = s.exch.settingsJob := by
  unfold carryBoundary
  dsimp only
  (repeat' split) <;> simp

@[simp] theorem resumeCarry_queue (s : State) :
    (resumeCarry s).exch.queue = s.exch.queue ∧
    (resumeCarry s).exch.settingsJob = s.exch.settingsJob := by
  unfold resumeCarry
  (repeat' split) <;> simp

@[simp] theorem swap_queue (carry : Bool) (s : State) :
    (swap carry s).exch.queue = s.exch.queue ∧
    (swap carry s).exch.settingsJob = s.exch.settingsJob := by
  unfold swap
  dsimp only
  (repeat' split) <;> simp

@[simp] theorem swapWaiting_queue (s : State) :
    (swapWaiting s).exch.queue = s.exch.queue ∧
    (swapWaiting s).exch.settingsJob = s.exch.settingsJob := by
  unfold swapWaiting
  (repeat' split) <;> simp

@[simp] theorem takePresent_queue (j : Job) (s : State) :
    (takePresent j s).exch.queue = s.exch.queue ∧
    (takePresent j s).exch.settingsJob = s.exch.settingsJob := by
  unfold takePresent
  dsimp only
  (repeat' split) <;> simp

@[simp] theorem stopPanel_queue (st : Stage) (s : State) :
    (stopPanel st s).exch.queue = s.exch.queue ∧
    (stopPanel st s).exch.settingsJob = s.exch.settingsJob := by
  simp [stopPanel]

@[simp] theorem panelTest_queue (s : State) :
    (panelTest s).exch.queue = s.exch.queue ∧
    (panelTest s).exch.settingsJob = s.exch.settingsJob := by
  unfold panelTest
  (repeat' split) <;> simp

@[simp] theorem resumePictures_queue (s : State) :
    (resumePictures s).exch.queue = s.exch.queue ∧
    (resumePictures s).exch.settingsJob = s.exch.settingsJob := by
  simp [resumePictures]

@[simp] theorem finishPanel_queue (wish : Bool) (s : State) :
    (finishPanel wish s).exch.queue = s.exch.queue := by
  unfold finishPanel
  (repeat' split) <;> simp

/-! ### The takes -/

@[simp] theorem wake_queue (w : WakeSource) (s : State) :
    (wake w s).exch.queue = s.exch.queue ∧
    (wake w s).exch.settingsJob = s.exch.settingsJob := by
  unfold wake
  dsimp only
  (repeat' split) <;> simp

@[simp] theorem wakeSource_queue (w : WakeSource) (s : State) :
    (wakeSource w s).exch.queue = s.exch.queue ∧
    (wakeSource w s).exch.settingsJob = s.exch.settingsJob := by
  unfold wakeSource
  (repeat' split) <;> simp

@[simp] theorem enterStandby_queue (s : State) :
    (enterStandby s).exch.queue = s.exch.queue := by
  simp [enterStandby]

@[simp] theorem lingerRetime_queue (s : State) :
    (lingerRetime s).exch.queue = s.exch.queue := by
  unfold lingerRetime
  (repeat' split) <;> simp

@[simp] theorem applyWish_queue (wish : Bool) (s : State) :
    (applyWish wish s).exch.queue = s.exch.queue ∧
    (applyWish wish s).exch.settingsJob = s.exch.settingsJob := by
  unfold applyWish
  dsimp only
  (repeat' split) <;> simp

@[simp] theorem takeSettings_queue (j : Job) (s : State) :
    (takeSettings j s).exch.queue = s.exch.queue := by
  unfold takeSettings takeIndicators takeLight takeVehicle takePanel applyIndicators applyVehicle
  dsimp only
  (repeat' split) <;> simp

@[simp] theorem profileFails_queue (j : Job) (s : State) :
    (profileFails j s).exch.queue = s.exch.queue ∧
    (profileFails j s).exch.settingsJob = s.exch.settingsJob := by
  simp [profileFails]

@[simp] theorem takeProfile_queue (j : Job) (s : State) :
    (takeProfile j s).exch.queue = s.exch.queue ∧
    (takeProfile j s).exch.settingsJob = s.exch.settingsJob := by
  unfold takeProfile
  dsimp only
  (repeat' split) <;> simp

/-! ### The choice of a context (R15, R16) -/

theorem firstChoice_eq_none {q : List Entry} : firstChoice q = none ↔ q = [] := by
  cases q with
  | nil => simp [firstChoice]
  | cons e q => simp [firstChoice]

/-- The choice among the entries of a kind: the first URGENT one, or with none the first. -/
theorem firstChoice_filter {p : Entry → Bool} {q : List Entry} {e : Entry} (h : firstChoice (q.filter p) = some e) :
    ∃ before behind, q = before ++ e :: behind ∧ p e = true ∧
      (e.urgent = true → ∀ x ∈ before, p x = true → x.urgent = false) ∧
      (e.urgent = false → (∀ x ∈ before, p x = false) ∧ ∀ x ∈ behind, p x = true → x.urgent = false) := by
  unfold firstChoice at h
  rw [Option.or_eq_some_iff, List.find?_filter, List.head?_filter] at h
  rcases h with hurgent | ⟨hnone, hfirst⟩
  · obtain ⟨hp, before, behind, rfl, hbefore⟩ := List.find?_eq_some_iff_append.mp hurgent
    simp only [Bool.not_eq_true', decide_eq_true_eq] at hp hbefore
    refine ⟨before, behind, rfl, hp.1, fun _ x hx hpx => ?_, fun hu => absurd hp.2 (by simp [hu])⟩
    simpa [hpx] using hbefore x hx
  · obtain ⟨hp, before, behind, rfl, hbefore⟩ := List.find?_eq_some_iff_append.mp hfirst
    simp only [Bool.not_eq_true'] at hbefore
    have hplain : ∀ x ∈ before ++ e :: behind, p x = true → x.urgent = false := by
      simpa [or_imp, forall_and] using hnone
    refine ⟨before, behind, rfl, hp, fun _ x hx => ?_, fun _ => ⟨hbefore, fun x hx => hplain x (by simp [hx])⟩⟩
    simp [hbefore x hx]

/-- A picture slot stands behind the barrier of a PRESENT, or before it (R16). -/
theorem pictureEligible_append {l r : List Entry} (h : ∀ x ∈ l, x.kind ≠ kindPresent) :
    pictureEligible (l ++ r) = l.filter (fun e => isPictureKind e.kind) ++ pictureEligible r := by
  induction l with
  | nil => rfl
  | cons e l ih =>
    have he : e.kind ≠ kindPresent := h e (by simp)
    simp only [List.cons_append, pictureEligible, he, if_false, ih fun x hx => h x (by simp [hx]), List.filter_cons]
    split <;> simp

/-- The eligible picture slots are the picture slots of the queue's part up to and including its first PRESENT (R16). -/
theorem pictureEligible_eq_filter (q : List Entry) : ∃ l r, q = l ++ r ∧
    pictureEligible q = l.filter (fun e => isPictureKind e.kind) ∧
    (∀ before e behind, l = before ++ e :: behind → ∀ x ∈ before, x.kind ≠ kindPresent) ∧
    (r ≠ [] → ∃ x ∈ l, x.kind = kindPresent) := by
  by_cases h : ∀ x ∈ q, x.kind ≠ kindPresent
  · refine ⟨q, [], by simp, ?_, ?_, by simp⟩
    · simpa [pictureEligible] using pictureEligible_append (r := []) h
    · rintro before e behind rfl x hx
      exact h x (by simp [hx])
  · simp only [not_forall, not_not] at h
    obtain ⟨y, hy, hkind⟩ := h
    have hfind : (q.find? fun e => decide (e.kind = kindPresent)).isSome = true :=
      List.find?_isSome.mpr ⟨y, hy, by simpa using hkind⟩
    obtain ⟨b, hb⟩ := Option.isSome_iff_exists.mp hfind
    obtain ⟨hpresent, l, r, rfl, hl⟩ := List.find?_eq_some_iff_append.mp hb
    simp only [decide_eq_true_eq, Bool.not_eq_true', decide_eq_false_iff_not] at hpresent hl
    refine ⟨l ++ [b], r, by simp, ?_, fun before e behind he x hx => ?_, fun _ => ⟨b, by simp, hpresent⟩⟩
    · rw [pictureEligible_append hl]
      simp [pictureEligible, hpresent, isPictureKind]
    · obtain ⟨behind, rfl⟩ : ∃ z, l = before ++ z := by
        obtain ⟨a, h1, h2⟩ | ⟨c, h1, h2⟩ := List.append_eq_append_iff.mp he
        · cases a with
          | nil => exact ⟨[], by simpa using h1.symm⟩
          | cons y a =>
            have := congrArg List.length h2
            simp at this
        · exact ⟨c, h1⟩
      exact hl x (List.mem_append_left _ hx)

theorem pictureEligible_eq_nil {q : List Entry} : pictureEligible q = [] ↔ ∀ e ∈ q, isPictureKind e.kind = false := by
  induction q with
  | nil => simp [pictureEligible]
  | cons e q ih =>
    cases hk : isPictureKind e.kind
    · simp [pictureEligible, hk, ih]
    · simp only [pictureEligible, hk, if_true, List.mem_cons, forall_eq_or_imp]
      split <;> simp

/-! ### Open takes (R15, R17) -/

theorem settingsTake_eq_none {s : State} : settingsTake s = none ↔
    (settingsFree s = true → ∀ e ∈ s.exch.queue, isSettingsKind e.kind = false) := by
  unfold settingsTake nextSettings
  split <;> simp_all [firstChoice_eq_none]

theorem pictureTake_eq_none {s : State} : pictureTake s = none ↔
    (pictureFree s = true → pictureHeld s = false → ∀ e ∈ s.exch.queue, isPictureKind e.kind = false) := by
  unfold pictureTake nextPicture
  split
  · next h =>
    simp only [Bool.and_eq_true, Bool.not_eq_true'] at h
    simp [firstChoice_eq_none, pictureEligible_eq_nil, h]
  · next h =>
    simp only [Bool.and_eq_true, Bool.not_eq_true', not_and] at h
    simpa using fun hf hh => absurd hh (h hf)

theorem profileTake_eq_none {s : State} : profileTake s = none ↔
    (profileFree s = true → ∀ e ∈ s.exch.queue, isProfileKind e.kind = false) := by
  unfold profileTake nextProfile
  split <;> simp_all [firstChoice_eq_none]

theorem oneTake_eq_none {s : State} :
    oneTake s = none ↔ settingsTake s = none ∧ pictureTake s = none ∧ profileTake s = none := by
  simp [oneTake, Option.or_eq_none_iff, and_assoc]

/-- With an empty queue no take is open. -/
theorem oneTake_of_queue_nil {s : State} (h : s.exch.queue = []) : oneTake s = none := by
  simp [oneTake_eq_none, settingsTake_eq_none, pictureTake_eq_none, profileTake_eq_none, h]

/-- A take is open or not by the queue, the contexts and PICTURE's holds alone. -/
theorem oneTake_none_congr {s t : State} (hq : t.exch.queue = s.exch.queue) (hj : t.exch.settingsJob = s.exch.settingsJob)
    (hpic : t.picture = s.picture) (hcarry : t.scanout.carry = s.scanout.carry) (hprof : t.profile.job = s.profile.job)
    (hheld : pictureHeld t = pictureHeld s) : oneTake t = none ↔ oneTake s = none := by
  simp only [oneTake_eq_none, settingsTake_eq_none, pictureTake_eq_none, profileTake_eq_none, settingsFree, pictureFree,
    profileFree, hq, hj, hpic, hcarry, hprof, hheld]

/-! ### The looks -/

theorem nextSettings_mem {s : State} {e : Entry} (h : nextSettings s = some e) :
    e ∈ s.exch.queue ∧ isSettingsKind e.kind = true := by
  obtain ⟨before, behind, hq, hk, -⟩ := firstChoice_filter h
  exact ⟨by simp [hq], hk⟩

theorem nextProfile_mem {s : State} {e : Entry} (h : nextProfile s = some e) :
    e ∈ s.exch.queue ∧ isProfileKind e.kind = true := by
  obtain ⟨before, behind, hq, hk, -⟩ := firstChoice_filter h
  exact ⟨by simp [hq], hk⟩

theorem nextPicture_mem {s : State} {e : Entry} (h : nextPicture s = some e) :
    e ∈ s.exch.queue ∧ isPictureKind e.kind = true := by
  obtain ⟨l, r, hq, hl, -⟩ := pictureEligible_eq_filter s.exch.queue
  rw [nextPicture, hl] at h
  obtain ⟨before, behind, rfl, hk, -⟩ := firstChoice_filter h
  exact ⟨by simp [hq], hk⟩

/-- A take takes an entry of the queue away, and no other. -/
theorem oneTake_queue {s t : State} (h : oneTake s = some t) :
    ∃ e ∈ s.exch.queue, t.exch.queue = s.exch.queue.filter fun x => x.slot != e.slot := by
  obtain ⟨-, e, he, rfl⟩ | ⟨-, -, e, he, rfl⟩ | ⟨-, e, he, rfl⟩ := oneTake_cases h
  · exact ⟨e, (nextSettings_mem he).1, by simp [takeBySettings, activate]⟩
  · refine ⟨e, (nextPicture_mem he).1, ?_⟩
    unfold takeByPicture
    dsimp only
    split <;> simp [activate]
  · exact ⟨e, (nextProfile_mem he).1, by simp [takeByProfile, activate]⟩

theorem oneTake_queue_length {s t : State} (h : oneTake s = some t) : t.exch.queue.length < s.exch.queue.length := by
  obtain ⟨e, he, hq⟩ := oneTake_queue h
  rw [hq]
  exact List.length_filter_lt_length_iff_exists.mpr ⟨e, he, by simp⟩

theorem oneTake_lookFor {n : Nat} {s : State} (h : s.exch.queue.length ≤ n) : oneTake (lookFor n s) = none := by
  induction n generalizing s with
  | zero => exact oneTake_of_queue_nil (s := s) (List.eq_nil_of_length_eq_zero (by omega))
  | succ n ih =>
    unfold lookFor
    split
    · next hnone => exact hnone
    · next t ht => exact ih (by have := oneTake_queue_length ht; omega)

/-- After a look no context is left with a take open to it (R15). -/
theorem oneTake_look (s : State) : oneTake (look s) = none := oneTake_lookFor (Nat.le_refl s.exch.queue.length)

/-- A look with no take open changes nothing. -/
theorem look_of_oneTake_none {s : State} (h : oneTake s = none) : look s = s := by
  unfold look
  cases s.exch.queue.length with
  | zero => rfl
  | succ n => simp [lookFor, h]

theorem settingsTake_eq_some {s t : State} (h : settingsTake s = some t) :
    s.exch.settingsJob = none ∧ ∃ e, nextSettings s = some e ∧ t = takeBySettings e s := by
  unfold settingsTake at h
  split at h
  · next hf =>
    obtain ⟨e, he, rfl⟩ := Option.map_eq_some_iff.mp h
    exact ⟨by simpa [settingsFree] using hf, e, he, rfl⟩
  · cases h

theorem profileTake_eq_some {s t : State} (h : profileTake s = some t) :
    s.profile.job = none ∧ ∃ e, nextProfile s = some e ∧ t = takeByProfile e s := by
  unfold profileTake at h
  split at h
  · next hf =>
    obtain ⟨e, he, rfl⟩ := Option.map_eq_some_iff.mp h
    exact ⟨by simpa [profileFree] using hf, e, he, rfl⟩
  · cases h

theorem pictureFree_iff {s : State} :
    pictureFree s = true ↔ s.picture.job = none ∧ s.picture.work = .free ∧ s.scanout.carry = none := by
  simp [pictureFree, and_assoc]

theorem pictureHeld_eq_false {s : State} :
    pictureHeld s = false ↔ s.power.standby = false ∧ s.frames.clearing = false := by simp [pictureHeld]

theorem pictureTake_eq_some {s t : State} (h : pictureTake s = some t) :
    pictureFree s = true ∧ pictureHeld s = false ∧ ∃ e, nextPicture s = some e ∧ t = takeByPicture e s := by
  unfold pictureTake at h
  split at h
  · next hf =>
    obtain ⟨e, he, rfl⟩ := Option.map_eq_some_iff.mp h
    simp only [Bool.and_eq_true, Bool.not_eq_true'] at hf
    exact ⟨hf.1, hf.2, e, he, rfl⟩
  · cases h

/-- The PICTURE context's choice in the queue as it stands: behind no PRESENT, URGENT first (R15, R16). -/
theorem nextPicture_choice {s : State} {e : Entry} (h : nextPicture s = some e) : ∃ before behind,
    s.exch.queue = before ++ e :: behind ∧ isPictureKind e.kind = true ∧ (∀ x ∈ before, x.kind ≠ kindPresent) ∧
    (e.urgent = true → ∀ x ∈ before, isPictureKind x.kind = true → x.urgent = false) ∧
    (e.urgent = false →
      (∀ x ∈ before, isPictureKind x.kind = false) ∧
      (∀ mid x rest, behind = mid ++ x :: rest → e.kind ≠ kindPresent → (∀ y ∈ mid, y.kind ≠ kindPresent) →
        isPictureKind x.kind = true → x.urgent = false)) := by
  obtain ⟨l, r, hq, hl, hbarrier, hlast⟩ := pictureEligible_eq_filter s.exch.queue
  rw [nextPicture, hl] at h
  obtain ⟨before, behind, rfl, hk, hurgent, hplain⟩ := firstChoice_filter h
  refine ⟨before, behind ++ r, by simp [hq], hk, hbarrier before e behind rfl, hurgent, fun hu => ?_⟩
  refine ⟨(hplain hu).1, fun mid x rest hsplit he hmid hx => ?_⟩
  have hinside : r ≠ [] → ¬∀ y ∈ behind, y ∈ mid := fun hr hsub => by
    obtain ⟨y, hy, hpresent⟩ := hlast hr
    simp only [List.mem_append, List.mem_cons] at hy
    rcases hy with hy | rfl | hy
    · exact hbarrier before e behind rfl y hy hpresent
    · exact he hpresent
    · exact hmid y (hsub y hy) hpresent
  obtain ⟨a, rfl, hr⟩ | ⟨c, hbehind, hc⟩ := List.append_eq_append_iff.mp hsplit
  · exact absurd (fun y hy => List.mem_append_left a hy) (hinside (by simp [hr]))
  · cases c with
    | nil => exact absurd (fun y hy => by simpa [hbehind] using hy) (hinside (by rintro rfl; simp at hc))
    | cons y c =>
      obtain ⟨rfl, -⟩ := List.cons_eq_cons.mp hc
      exact (hplain hu).2 x (by simp [hbehind]) hx

/-- Settles O21: a look ends with no open take, and each context takes its first choice. -/
theorem contextsTakeByTheRules : Obligations.ContextsTakeByTheRules := by
  refine ⟨?_, ?_, fun s t => ⟨fun h => ?_, fun h => ?_⟩⟩
  · rintro s t rfl
    obtain ⟨hsettings, hpicture, hprofile⟩ := oneTake_eq_none.mp (oneTake_look s)
    refine ⟨fun hj => ?_, fun hj e he => ?_, fun hj hw hc hs hf => ?_⟩
    · exact settingsTake_eq_none.mp hsettings (by simp [settingsFree, hj])
    · simpa [isProfileKind] using profileTake_eq_none.mp hprofile (by simp [profileFree, hj]) e he
    · exact pictureTake_eq_none.mp hpicture (pictureFree_iff.mpr ⟨hj, hw, hc⟩) (pictureHeld_eq_false.mpr ⟨hs, hf⟩)
  · intro s t h
    obtain ⟨hfree, hheld, e, he, rfl⟩ := pictureTake_eq_some h
    obtain ⟨hj, hw, hc⟩ := pictureFree_iff.mp hfree
    obtain ⟨hs, hf⟩ := pictureHeld_eq_false.mp hheld
    obtain ⟨before, behind, hchoice⟩ := nextPicture_choice he
    exact ⟨hj, hw, hc, hs, hf, e, before, behind, rfl, hchoice⟩
  · obtain ⟨hj, e, he, rfl⟩ := settingsTake_eq_some h
    exact ⟨hj, e, rfl, firstChoice_filter (p := fun e => isSettingsKind e.kind) he⟩
  · obtain ⟨hj, e, he, rfl⟩ := profileTake_eq_some h
    exact ⟨hj, e, rfl, firstChoice_filter (p := fun e => isProfileKind e.kind) he⟩

end Sys2Proof.Machine
end

section
/-! PROOFS. The Post Queue, the contexts and the slot states agree (R8, R14, R15, R19): the invariant in a form that an
event keeps in the middle of its work, and the operations that keep it. -/

namespace Sys2Proof.Machine

/-! ### Slots, queue and the slots in work -/

/-- The record of a slot in an exchange. -/
def slotIn (e : Exchange) (k : Fin 16) : SlotRec := e.slots.getD k.val SlotRec.zero

theorem slot_eq_slotIn (s : State) (k : Fin 16) : slot s k = slotIn s.exch k := rfl

/-- The exchange's part of `ExchangeInv`, with the slots in work given apart from the contexts that hold them. -/
structure SlotsInv (held : Multiset (Fin 16)) (e : Exchange) : Prop where
  slots : e.slots.length = 16
  queueOnce : (e.queue.map Entry.slot).Nodup
  queued : ∀ k : Fin 16, k ∈ e.queue.map Entry.slot ↔ (slotIn e k).state = .posted
  heldOnce : held.Nodup
  inWork : ∀ k : Fin 16, k ∈ held ↔ (slotIn e k).state.inWork = true
  closedSlots : e.sessionOpen = false → ∀ k : Fin 16, (slotIn e k).state = .free
  closedAttention : e.sessionOpen = false → e.attention = 0
  refused : e.refused ≤ 65535

/-- The slot of a context, if it holds one. -/
def jobSlot (j : Option Job) : Multiset (Fin 16) := ((j.map Job.slot).toList : Multiset (Fin 16))

@[simp] theorem jobSlot_none : jobSlot none = 0 := rfl
@[simp] theorem jobSlot_some (j : Job) : jobSlot (some j) = {j.slot} := rfl

/-- The slots that the three contexts hold, in no order. -/
def workSlots (s : State) : Multiset (Fin 16) :=
  jobSlot s.picture.job + jobSlot s.profile.job + jobSlot s.exch.settingsJob

theorem workSlots_eq (s : State) : workSlots s = (jobSlots s : Multiset (Fin 16)) := by
  simp [workSlots, jobSlot, jobSlots, Multiset.coe_add]

/-- `ExchangeInv`, with further slots `extra` in work that no context holds: those whose take or completion an event has
begun and not ended. -/
structure WorkInv (extra : Multiset (Fin 16)) (s : State) : Prop where
  slots : SlotsInv (extra + workSlots s) s.exch
  staged : s.profile.staged.isSome = s.profile.job.isSome
  abandoned : s.picture.abandon = true → s.picture.job = none
  waiting : s.scanout.waiting.isSome = true → s.picture.job.isSome = true
  notBoth : s.scanout.waiting.isSome = true → s.scanout.carry = none
  presentAlone : s.scanout.waiting.isSome = true ∨ s.scanout.carry.isSome = true →
    s.picture.work = .free ∧ s.picture.writing = false ∧ s.picture.reads = []
  closedPresented : s.exch.sessionOpen = false → s.scanout.presented = false

theorem exchangeInv_iff (s : State) : ExchangeInv s ↔ WorkInv 0 s := by
  constructor
  · intro h
    refine ⟨⟨h.slots, h.queueOnce, h.queued, ?_, fun k => ?_, h.closedSlots, h.closedAttention, h.refused⟩, h.staged,
      h.abandoned, h.waiting, h.notBoth, h.presentAlone, h.closedPresented⟩
    · simpa [workSlots_eq] using h.jobsOnce
    · simpa [workSlots_eq, slot_eq_slotIn] using h.inWork k
  · intro h
    obtain ⟨hslots, hqueueOnce, hqueued, honce, hwork, hclosed, hattention, hrefused⟩ := h.slots
    refine ⟨hslots, hqueueOnce, hqueued, ?_, fun k => ?_, h.staged, h.abandoned, h.waiting, h.notBoth, h.presentAlone,
      hclosed, hattention, h.closedPresented, hrefused⟩
    · simpa [workSlots_eq] using honce
    · simpa [workSlots_eq, slot_eq_slotIn] using hwork k

/-! ### Updates of the exchange -/

section
variable {held : Multiset (Fin 16)} {e e' : Exchange} {k : Fin 16} {r : SlotRec}

theorem SlotsInv.congr (h : SlotsInv held e) (hslots : e'.slots = e.slots) (hqueue : e'.queue = e.queue)
    (hopen : e'.sessionOpen = e.sessionOpen) (hattention : e.sessionOpen = true ∨ e'.attention = e.attention)
    (hrefused : e'.refused ≤ 65535) : SlotsInv held e' := by
  have hslot : ∀ k, slotIn e' k = slotIn e k := fun k => by rw [slotIn, hslots, slotIn]
  refine ⟨hslots ▸ h.slots, hqueue ▸ h.queueOnce, ?_, h.heldOnce, ?_, ?_, fun hc => ?_, hrefused⟩
  · simpa only [hqueue, hslot] using h.queued
  · simpa only [hslot] using h.inWork
  · simpa only [hopen, hslot] using h.closedSlots
  · rw [hopen] at hc
    rw [hattention.resolve_left (by simp [hc])]
    exact h.closedAttention hc

/-- A slot that is not FREE stands only in an OPEN session (R8). -/
theorem SlotsInv.isOpen (h : SlotsInv held e) (hk : (slotIn e k).state ≠ .free) : e.sessionOpen = true := by
  by_contra hc
  exact hk (h.closedSlots (by simpa using hc) k)

/-- One slot is written, with its place in the queue and among the slots in work. -/
theorem SlotsInv.set (h : SlotsInv held e) {held' : Multiset (Fin 16)} (hslots : e'.slots = e.slots.set k.val r)
    (hopen : e'.sessionOpen = true) (hrefused : e'.refused ≤ 65535) (hqueueOnce : (e'.queue.map Entry.slot).Nodup)
    (hqueued : ∀ l, l ∈ e'.queue.map Entry.slot ↔ if l = k then r.state = .posted else l ∈ e.queue.map Entry.slot)
    (honce : held'.Nodup) (hwork : ∀ l, l ∈ held' ↔ if l = k then r.state.inWork = true else l ∈ held) :
    SlotsInv held' e' := by
  have hslot : ∀ l, slotIn e' l = if l = k then r else slotIn e l := fun l => by
    have hk : k.val < e.slots.length := by rw [h.slots]; exact k.isLt
    rw [slotIn, hslots, List.getD_eq_getElem?_getD, List.getElem?_set]
    by_cases hl : l = k
    · subst hl
      simp [hk]
    · have : ¬k.val = l.val := fun hv => hl (Fin.ext hv.symm)
      simp [hl, this, slotIn]
  refine ⟨by rw [hslots, List.length_set, h.slots], hqueueOnce, fun l => ?_, honce, fun l => ?_,
    fun hc => absurd hopen (by simp [hc]), fun hc => absurd hopen (by simp [hc]), hrefused⟩
  · rw [hqueued, hslot]
    split
    · rfl
    · exact h.queued l
  · rw [hwork, hslot]
    split
    · rfl
    · exact h.inWork l

/-- Every result code ends the slot's work (R12). -/
theorem endState_finished (code : ResultCode) : code.endState ≠ .posted ∧ code.endState.inWork = false := by
  cases code <;> decide

/-- A slot in work ends (R12). -/
theorem SlotsInv.finish (h : SlotsInv ({k} + held) e) (hr : r.state ≠ .posted ∧ r.state.inWork = false)
    (hslots : e'.slots = e.slots.set k.val r) (hqueue : e'.queue = e.queue) (hopen : e'.sessionOpen = e.sessionOpen)
    (hrefused : e'.refused = e.refused) : SlotsInv held e' := by
  have hk : (slotIn e k).state.inWork = true := (h.inWork k).mp (by simp)
  have hheld : k ∉ held ∧ held.Nodup := by simpa using h.heldOnce
  have hnotposted : (slotIn e k).state ≠ .posted := fun hp => by simp [hp, SlotState.inWork] at hk
  refine h.set (k := k) (r := r) hslots ?_ (hrefused ▸ h.refused) (hqueue ▸ h.queueOnce) (fun l => ?_) hheld.2 fun l => ?_
  · rw [hopen]
    exact h.isOpen (k := k) fun hp => by simp [hp, SlotState.inWork] at hk
  · rw [hqueue]
    split
    · next hl => subst hl; simp only [h.queued, hnotposted, hr.1]
    · rfl
  · split
    · next hl => subst hl; simp [hheld.1, hr.2]
    · next hl => simp [hl]

/-- A POSTED slot leaves the queue, to go into work or to end (R10, R15). -/
theorem SlotsInv.unqueue (h : SlotsInv held e) (hk : (slotIn e k).state = .posted) (hr : r.state ≠ .posted)
    (hslots : e'.slots = e.slots.set k.val r) (hqueue : e'.queue = e.queue.filter fun x => x.slot != k)
    (hopen : e'.sessionOpen = e.sessionOpen) (hrefused : e'.refused = e.refused) :
    SlotsInv (if r.state.inWork = true then {k} + held else held) e' := by
  have hheld : k ∉ held := fun hm => by simpa [hk, SlotState.inWork] using (h.inWork k).mp hm
  refine h.set (k := k) (r := r) hslots ?_ (hrefused ▸ h.refused) ?_ (fun l => ?_) ?_ fun l => ?_
  · rw [hopen]
    exact h.isOpen (k := k) (by simp [hk])
  · rw [hqueue]
    exact (h.queueOnce.sublist (List.filter_sublist.map _))
  · rw [hqueue]
    simp only [List.mem_map, List.mem_filter]
    split
    · next hl => subst hl; simp [hr]
    · next hl =>
      constructor
      · rintro ⟨x, ⟨hx, -⟩, rfl⟩
        exact ⟨x, hx, rfl⟩
      · rintro ⟨x, hx, rfl⟩
        exact ⟨x, ⟨hx, by simpa using hl⟩, rfl⟩
  · split
    · simpa [hheld] using h.heldOnce
    · exact h.heldOnce
  · by_cases hl : l = k
    · subst hl
      split <;> simp_all
    · split <;> simp [hl]

/-- A FREE slot is posted (R9). -/
theorem SlotsInv.post (h : SlotsInv held e) (hk : (slotIn e k).state = .free) (hr : r.state = .posted) {x : Entry}
    (hx : x.slot = k) (hslots : e'.slots = e.slots.set k.val r) (hqueue : e'.queue = e.queue ++ [x])
    (hopen : e'.sessionOpen = true) (hrefused : e'.refused = e.refused) : SlotsInv held e' := by
  have hnotqueued : k ∉ e.queue.map Entry.slot := fun hm => by simpa [hk] using (h.queued k).mp hm
  have hheld : k ∉ held := fun hm => by simpa [hk, SlotState.inWork] using (h.inWork k).mp hm
  refine h.set (k := k) (r := r) hslots hopen (hrefused ▸ h.refused) ?_ (fun l => ?_) h.heldOnce fun l => ?_
  · rw [hqueue, List.map_append, List.map_singleton, List.nodup_append]
    refine ⟨h.queueOnce, by simp, ?_⟩
    rintro a ha b hb rfl
    rw [List.mem_singleton.mp hb, hx] at ha
    exact hnotqueued ha
  · rw [hqueue, List.map_append, List.mem_append, List.map_singleton, List.mem_singleton, hx]
    split
    · next hl => simp [hl, hr]
    · next hl => simp [hl]
  · split
    · next hl => subst hl; simp [hheld, hr, SlotState.inWork]
    · rfl

/-- A slot out of queue and work is given back, or one in work changes its state in work (R10, R11). -/
theorem SlotsInv.restate (h : SlotsInv held e) (hfree : (slotIn e k).state ≠ .free)
    (hk : (slotIn e k).state ≠ .posted) (hr : r.state ≠ .posted) (hwork : r.state.inWork = (slotIn e k).state.inWork)
    (hslots : e'.slots = e.slots.set k.val r) (hqueue : e'.queue = e.queue)
    (hopen : e'.sessionOpen = e.sessionOpen) (hrefused : e'.refused = e.refused) : SlotsInv held e' := by
  refine h.set (k := k) (r := r) hslots (hopen.trans (h.isOpen hfree)) (hrefused ▸ h.refused) (hqueue ▸ h.queueOnce)
    (fun l => ?_) h.heldOnce fun l => ?_
  · rw [hqueue]
    split
    · next hl => subst hl; simp only [h.queued, hk, hr]
    · rfl
  · split
    · next hl => subst hl; rw [h.inWork, hwork]
    · rfl

/-- An exchange whose slots are FREE and whose queue and attention are empty, as after a session end or a start (R8). -/
theorem SlotsInv.empty (hslots : e.slots.length = 16) (hfree : ∀ r ∈ e.slots, r.state = .free) (hqueue : e.queue = [])
    (hattention : e.attention = 0) (hrefused : e.refused ≤ 65535) : SlotsInv 0 e := by
  have hslot : ∀ k, (slotIn e k).state = .free := fun k => by
    have hk : k.val < e.slots.length := by rw [hslots]; exact k.isLt
    rw [slotIn, List.getD_eq_getElem?_getD, List.getElem?_eq_getElem hk]
    exact hfree _ (List.getElem_mem hk)
  refine ⟨hslots, by simp [hqueue], fun k => ?_, by simp, fun k => ?_, fun _ => hslot, fun _ => hattention, hrefused⟩
  · simp [hqueue, hslot]
  · simp [hslot, SlotState.inWork]

end

end Sys2Proof.Machine
end

section
/-! PROOFS. The operations of every block keep the agreement of slots, queue and contexts. -/

namespace Sys2Proof.Machine

section
variable {x : Multiset (Fin 16)} {s t : State}

/-! ### What the invariant depends on -/

/-- The invariant depends on the exchange, on the contexts' jobs, and on what of the engine a PRESENT excludes. -/
theorem WorkInv.congr (h : WorkInv x s) (hslots : t.exch.slots = s.exch.slots) (hqueue : t.exch.queue = s.exch.queue)
    (hjob : t.exch.settingsJob = s.exch.settingsJob) (hopen : t.exch.sessionOpen = s.exch.sessionOpen)
    (hattention : s.exch.sessionOpen = true ∨ t.exch.attention = s.exch.attention)
    (hrefused : t.exch.refused ≤ 65535) (hprofile : t.profile.job = s.profile.job)
    (hstaged : t.profile.staged.isSome = s.profile.staged.isSome) (hpicture : t.picture = s.picture)
    (hwaiting : t.scanout.waiting = s.scanout.waiting) (hcarry : t.scanout.carry = s.scanout.carry)
    (hpresented : t.scanout.presented = s.scanout.presented) : WorkInv x t := by
  have hwork : workSlots t = workSlots s := by simp only [workSlots, hpicture, hprofile, hjob]
  refine ⟨?_, ?_, ?_, ?_, ?_, ?_, ?_⟩
  · rw [hwork]
    exact h.slots.congr hslots hqueue hopen hattention hrefused
  · rw [hstaged, hprofile]
    exact h.staged
  · rw [hpicture]
    exact h.abandoned
  · rw [hwaiting, hpicture]
    exact h.waiting
  · rw [hwaiting, hcarry]
    exact h.notBoth
  · rw [hwaiting, hcarry, hpicture]
    exact h.presentAlone
  · rw [hopen, hpresented]
    exact h.closedPresented

/-- An operation that leaves the exchange, the profile, the engine and what PRESENT has in the scanout as they were. -/
theorem WorkInv.same (h : WorkInv x s) (hexch : t.exch = s.exch := by simp) (hprofile : t.profile = s.profile := by simp)
    (hpicture : t.picture = s.picture := by simp) (hwaiting : t.scanout.waiting = s.scanout.waiting := by simp)
    (hcarry : t.scanout.carry = s.scanout.carry := by simp)
    (hpresented : t.scanout.presented = s.scanout.presented := by simp) : WorkInv x t :=
  h.congr (by rw [hexch]) (by rw [hexch]) (by rw [hexch]) (by rw [hexch]) (.inr (by rw [hexch]))
    (by rw [hexch]; exact h.slots.refused) (by rw [hprofile]) (by rw [hprofile]) hpicture hwaiting hcarry hpresented

/-- The state of a slot in work, held by a context or not, is not FREE: the session is OPEN (R8). -/
theorem WorkInv.open_of_held (h : WorkInv x s) {k : Fin 16} (hk : k ∈ x + workSlots s) : s.exch.sessionOpen = true :=
  h.slots.isOpen (k := k) fun hp => by simpa [hp, SlotState.inWork] using (h.slots.inWork k).mp hk

/-! ### Attention, completions and the journal -/

theorem raise_workInv (c : Cause) (ho : s.exch.sessionOpen = true) (h : WorkInv x s) : WorkInv x (raise c s) :=
  h.congr (by simp [raise_exch]) (by simp) (by simp) (by simp) (.inl ho) (by simpa [raise_exch] using h.slots.refused)
    (by simp) (by simp) (by simp) (by simp) (by simp) (by simp)

/-- A completion ends the work of its slot (R12). -/
theorem complete_workInv (k : Fin 16) (n : Bool) (code : ResultCode) (fl : Byte) (c : Nat) (h : WorkInv ({k} + x) s) :
    WorkInv x (complete k n code fl c s) := by
  have hslots : SlotsInv ({k} + (x + workSlots s)) s.exch := by simpa [add_assoc] using h.slots
  have hwork : workSlots (complete k n code fl c s) = workSlots s := by simp [workSlots]
  refine ⟨?_, by simpa using h.staged, by simpa using h.abandoned, by simpa using h.waiting, by simpa using h.notBoth,
    by simpa using h.presentAlone, by simpa using h.closedPresented⟩
  rw [hwork]
  exact hslots.finish (endState_finished code) (by rw [complete_exch]) (by simp) (by simp) (by simp [complete_exch])

theorem testMark_workInv (ho : s.exch.sessionOpen = true) (h : WorkInv x s) : WorkInv x (testMark s) := by
  unfold testMark
  split
  · exact raise_workInv .mark ho (h.same rfl rfl rfl rfl rfl rfl)
  · exact h

theorem advanceHead_workInv (n : Nat) (ho : s.exch.sessionOpen = true) (h : WorkInv x s) : WorkInv x (advanceHead n s) :=
  testMark_workInv ho (h.same rfl rfl rfl rfl rfl rfl)

theorem writeGroup_workInv (ho : s.exch.sessionOpen = true) (h : WorkInv x s) : WorkInv x (writeGroup s) := by
  have hhead := advanceHead_workInv (s := putRecords s.journal.head (resyncGroup s) s) (1 + s.composer.held.length) (by simpa using ho) h.same
  exact hhead.same rfl rfl rfl rfl rfl rfl

theorem recoveryTest_workInv (ho : s.exch.sessionOpen = true) (h : WorkInv x s) : WorkInv x (recoveryTest s) := by
  unfold recoveryTest
  split
  · exact writeGroup_workInv ho h
  · exact h

theorem handRecord_workInv (r : Rec) (h : WorkInv x s) : WorkInv x (handRecord r s) := by
  unfold handRecord
  split
  · exact h
  · next ho =>
    rw [Bool.not_eq_false] at ho
    (repeat' split)
    · exact recoveryTest_workInv ho (h.same rfl rfl rfl rfl rfl rfl)
    · exact raise_workInv .loss ho (h.same rfl rfl rfl rfl rfl rfl)
    · exact advanceHead_workInv 1 ho h.same

theorem keyRecord_workInv (k : RecordKind) (p : Fin 128) (fl : Byte) (d : Half) (h : WorkInv x s) :
    WorkInv x (keyRecord k p fl d s) := handRecord_workInv _ h

theorem plainRecord_workInv (k : RecordKind) (d : Half) (h : WorkInv x s) : WorkInv x (plainRecord k d s) :=
  handRecord_workInv _ h

theorem wakeRecord_workInv (w : WakeSource) (h : WorkInv x s) : WorkInv x (wakeRecord w s) := by
  unfold wakeRecord
  split
  · exact keyRecord_workInv _ _ _ _ h
  · exact plainRecord_workInv _ _ h

theorem refuse_workInv (o : Nat) (h : WorkInv x s) : WorkInv x (refuse o s) :=
  h.congr rfl rfl rfl rfl (.inr rfl) (Nat.min_le_right ..) rfl rfl rfl rfl rfl rfl

theorem moveTaken_workInv (v : Word) (ho : s.exch.sessionOpen = true) (h : WorkInv x s) : WorkInv x (moveTaken v s) := by
  unfold moveTaken
  dsimp only
  split
  · exact recoveryTest_workInv ho (h.same rfl rfl rfl rfl rfl rfl)
  · exact h.same rfl rfl rfl rfl rfl rfl

theorem takenWrite_workInv (v : Word) (h : WorkInv x s) : WorkInv x (takenWrite v s) := by
  unfold takenWrite
  split
  · exact refuse_workInv _ h
  · next ho =>
    rw [Bool.not_eq_false] at ho
    (repeat' split)
    · exact moveTaken_workInv v ho h
    · exact refuse_workInv _ (moveTaken_workInv _ ho h)
    · exact refuse_workInv _ h

theorem markWrite_workInv (v : Word) (h : WorkInv x s) : WorkInv x (markWrite v s) := by
  unfold markWrite
  split
  · exact refuse_workInv _ h
  · next ho =>
    rw [Bool.not_eq_false] at ho
    split
    · exact raise_workInv .mark ho (h.same rfl rfl rfl rfl rfl rfl)
    · exact h.same rfl rfl rfl rfl rfl rfl

/-! ### The Picture Engine -/

/-- No PRESENT waits and no carry copy runs: the engine can be at work on a COPY or FILL (R134, R136). -/
def Alone (s : State) : Prop := s.scanout.waiting = none ∧ s.scanout.carry = none

/-- With no PRESENT in the engine its fields other than the job can change. -/
theorem WorkInv.engine (h : WorkInv x s) (ha : Alone s) (hjob : t.picture.job = s.picture.job)
    (habandon : t.picture.abandon = true → t.picture.job = none) (hexch : t.exch = s.exch := by simp)
    (hprofile : t.profile = s.profile := by simp) (hscanout : t.scanout = s.scanout := by simp) : WorkInv x t := by
  obtain ⟨hwaiting, hcarry⟩ := ha
  have hwork : workSlots t = workSlots s := by simp only [workSlots, hjob, hprofile, hexch]
  refine ⟨?_, ?_, habandon, ?_, ?_, ?_, ?_⟩
  · rw [hwork, hexch]
    exact h.slots
  · rw [hprofile]
    exact h.staged
  · simp [hscanout, hwaiting]
  · simp [hscanout, hwaiting]
  · simp [hscanout, hwaiting, hcarry]
  · rw [hexch, hscanout]
    exact h.closedPresented

theorem stopPicture_workInv (hj : s.picture.job = none) (h : WorkInv x s) : WorkInv x (stopPicture s) := by
  have hwork : workSlots (stopPicture s) = workSlots s := by simp [workSlots, stopPicture, Picture.cleared, Picture.start, hj]
  have hwaiting : s.scanout.waiting.isSome = true → False := fun hw => by simpa [hj] using h.waiting hw
  exact ⟨hwork ▸ h.slots, h.staged, (fun hc => by cases hc), fun hw => (hwaiting hw).elim, h.notBoth,
    fun _ => ⟨rfl, rfl, rfl⟩, h.closedPresented⟩

/-- The engine is cleared of the slot it holds, which is still in work. -/
theorem stopPicture_holding {j : Job} (hj : s.picture.job = some j) (ha : Alone s) (h : WorkInv x s) :
    WorkInv ({j.slot} + x) (stopPicture s) := by
  have hwork : {j.slot} + x + workSlots (stopPicture s) = x + workSlots s := by
    simp only [workSlots, stopPicture, Picture.cleared, Picture.start, hj, jobSlot_none, jobSlot_some]
    ac_rfl
  exact ⟨hwork ▸ h.slots, h.staged, (fun hc => by cases hc), (fun hw => by simp [stopPicture, ha.1] at hw), h.notBoth,
    fun _ => ⟨rfl, rfl, rfl⟩, h.closedPresented⟩

/-- A completion and the stop of the engine are independent. -/
theorem stopPicture_completeJob (j : Job) (code : ResultCode) (fl : Byte) (c : Nat) (s : State) :
    stopPicture (completeJob j code fl c s) = completeJob j code fl c (stopPicture s) := by
  simp only [completeJob, complete, raise, sendMessage, apply_ite stopPicture]
  rfl

theorem finishPicture_workInv (code : ResultCode) (ha : Alone s) (h : WorkInv x s) : WorkInv x (finishPicture code s) := by
  unfold finishPicture
  split
  · next hj => exact stopPicture_workInv hj h
  · next j hj =>
    rw [stopPicture_completeJob]
    exact complete_workInv _ _ _ _ _ (stopPicture_holding hj ha h)

theorem failPicture_workInv (ha : Alone s) (h : WorkInv x s) : WorkInv x (failPicture s) := by
  unfold failPicture
  split
  · next hab => exact stopPicture_workInv (h.abandoned hab) h
  · exact finishPicture_workInv .readError ha h

theorem startWrite_workInv (px : List Half) (ha : Alone s) (h : WorkInv x s) : WorkInv x (startWrite px s) :=
  h.engine ha rfl h.abandoned rfl rfl rfl

theorem issueReads_workInv (rs : List ReadPlan) (ha : Alone s) (h : WorkInv x s) : WorkInv x (issueReads rs s) := by
  induction rs generalizing s with
  | nil => exact h.engine ha rfl h.abandoned rfl rfl rfl
  | cons r rs ih =>
    unfold issueReads
    split
    · exact h.engine ha rfl h.abandoned rfl rfl rfl
    · split
      · exact failPicture_workInv ha h
      · exact ih (show Alone _ from ha) (h.engine ha rfl h.abandoned rfl rfl rfl)

theorem beginRow_workInv (ha : Alone s) (h : WorkInv x s) : WorkInv x (beginRow s) := by
  unfold beginRow
  dsimp only
  (repeat' split)
  · exact startWrite_workInv _ ha h
  · exact issueReads_workInv _ (show Alone _ from ha) (h.engine ha rfl h.abandoned rfl rfl rfl)
  · exact startWrite_workInv _ ha h

theorem pictureBoundary_workInv (ha : Alone s) (h : WorkInv x s) : WorkInv x (pictureBoundary s) := by
  unfold pictureBoundary
  (repeat' split)
  · next hab => exact stopPicture_workInv (h.abandoned hab) h
  · exact finishPicture_workInv _ ha h
  · exact finishPicture_workInv _ ha h
  · exact h.engine ha rfl h.abandoned rfl rfl rfl
  · exact beginRow_workInv ha h

/-- What a PRESENT excludes tells that none is in the engine. -/
theorem WorkInv.alone (h : WorkInv x s)
    (hbusy : ¬(s.picture.work = .free ∧ s.picture.writing = false ∧ s.picture.reads = [])) : Alone s := by
  constructor
  · by_contra hw
    exact hbusy (h.presentAlone (.inl (Option.isSome_iff_ne_none.mpr hw)))
  · by_contra hc
    exact hbusy (h.presentAlone (.inr (Option.isSome_iff_ne_none.mpr hc)))

theorem resumePicture_workInv (h : WorkInv x s) : WorkInv x (resumePicture s) := by
  unfold resumePicture
  split
  · next hp => exact pictureBoundary_workInv (h.alone (by simp [hp.1])) h
  · exact h

theorem endFetch_workInv (ha : Alone s) (h : WorkInv x s) : WorkInv x (endFetch s) := by
  unfold endFetch
  split
  · exact startWrite_workInv _ ha h
  · exact h

theorem findRead_busy {tag : Nat} {r : Read} (hr : findRead tag s = some r) : s.picture.reads ≠ [] :=
  List.ne_nil_of_mem (List.mem_of_find?_eq_some hr)

theorem takeCompletion_workInv (r : Read) (place : Nat) (d : List Byte) (ha : Alone s) (h : WorkInv x s) :
    WorkInv x (takeCompletion r place d s) := by
  unfold takeCompletion
  dsimp only
  split
  · refine endFetch_workInv (by simpa [Alone] using ha) (issueReads_workInv _ (by simpa [Alone] using ha) ?_)
    exact h.engine ha rfl h.abandoned rfl rfl rfl
  · exact h.engine ha rfl h.abandoned rfl rfl rfl

theorem hostCompletion_workInv (tag place : Nat) (d : List Byte) (er po : Bool) (h : WorkInv x s) :
    WorkInv x (hostCompletion tag place d er po s) := by
  unfold hostCompletion
  split
  · exact h
  · next r hr =>
    have ha := h.alone (by simp [findRead_busy hr])
    (repeat' split)
    · exact h
    · exact failPicture_workInv ha h
    · exact takeCompletion_workInv r place d ha h

theorem hostTimeout_workInv (tag : Nat) (h : WorkInv x s) : WorkInv x (hostTimeout tag s) := by
  unfold hostTimeout
  split
  · exact h
  · next r hr =>
    split
    · exact failPicture_workInv (h.alone (by simp [findRead_busy hr])) h
    · exact h

theorem rowWritten_workInv (h : WorkInv x s) : WorkInv x (rowWritten s) := by
  unfold rowWritten
  split
  · next hw =>
    have ha := h.alone (by simp [hw])
    exact pictureBoundary_workInv (show Alone _ from ha) (h.engine ha rfl h.abandoned rfl rfl rfl)
  · exact h

/-- The engine that holds no slot and does no work takes one that is in work (R15). -/
theorem WorkInv.takeEngine {j : Job} (h : WorkInv ({j.slot} + x) s) (hj : s.picture.job = none) (ha : Alone s)
    (hjob : t.picture.job = some j) (habandon : t.picture.abandon = false) (hexch : t.exch = s.exch := by rfl)
    (hprofile : t.profile = s.profile := by rfl) (hscanout : t.scanout = s.scanout := by rfl) : WorkInv x t := by
  obtain ⟨hwaiting, hcarry⟩ := ha
  have hwork : x + workSlots t = {j.slot} + x + workSlots s := by
    simp only [workSlots, hj, hjob, hprofile, hexch, jobSlot_none, jobSlot_some]
    ac_rfl
  refine ⟨?_, ?_, by simp [habandon], ?_, ?_, ?_, ?_⟩
  · rw [hwork, hexch]
    exact h.slots
  · rw [hprofile]
    exact h.staged
  · simp [hscanout, hwaiting]
  · simp [hscanout, hwaiting]
  · simp [hscanout, hwaiting, hcarry]
  · rw [hexch, hscanout]
    exact h.closedPresented

theorem takePicture_workInv (j : Job) (fill : Bool) (hj : s.picture.job = none) (ha : Alone s)
    (h : WorkInv ({j.slot} + x) s) : WorkInv x (takePicture j fill s) := by
  unfold takePicture
  split
  · exact complete_workInv _ _ _ _ _ h
  · unfold startPicture
    dsimp only
    split
    · exact complete_workInv _ _ _ _ _ h
    · exact pictureBoundary_workInv (show Alone _ from ha) (h.takeEngine hj ha rfl rfl)

/-! ### PRESENT, its carry copy and the panel -/

/-- The state of a running PRESENT's end: no other PRESENT waits, and the engine does nothing else. -/
def PresentEnds (s : State) : Prop :=
  s.scanout.waiting = none ∧ s.picture.work = .free ∧ s.picture.writing = false ∧ s.picture.reads = []

theorem recompute_workInv (h : WorkInv x s) : WorkInv x (recompute s) := h.same

theorem activity_workInv (a : Activity) (h : WorkInv x s) : WorkInv x (activity a s) := h.same

theorem finishPresent_workInv (code : ResultCode) (n : Nat) (hp : PresentEnds s) (h : WorkInv x s) : WorkInv x (finishPresent code n s) := by
  unfold finishPresent
  split
  · exact h
  · next j hj =>
    dsimp only
    refine activity_workInv _ ?_
    have hopen : s.exch.sessionOpen = true := h.open_of_held (k := j.slot) (by simp [workSlots, hj])
    have hdrop : WorkInv ({j.slot} + x) { s with picture.job := none } := by
      have hwork : {j.slot} + x + workSlots { s with picture.job := none } = x + workSlots s := by
        simp only [workSlots, hj, jobSlot_none, jobSlot_some]
        ac_rfl
      exact ⟨hwork ▸ h.slots, h.staged, fun _ => rfl, fun hw => by simp [hp.1] at hw, h.notBoth, fun _ => hp.2,
        h.closedPresented⟩
    obtain ⟨hslots, hstaged, habandoned, hwaiting, hboth, halone, -⟩ := complete_workInv _ j.notify code 0 n hdrop
    exact ⟨hslots, hstaged, habandoned, hwaiting, hboth, halone, fun hclosed => by simp [completeJob, hopen] at hclosed⟩

theorem WorkInv.setCarry (h : WorkInv x s) (hp : PresentEnds s) (c : Option Carry) :
    WorkInv x { s with scanout.carry := c } :=
  ⟨h.slots, h.staged, h.abandoned, h.waiting, fun hw => by simp [hp.1] at hw, fun _ => hp.2, h.closedPresented⟩

theorem carryBoundary_workInv (c : Carry) (hp : PresentEnds s) (h : WorkInv x s) : WorkInv x (carryBoundary c s) := by
  unfold carryBoundary
  dsimp only
  (repeat' split)
  · exact h.setCarry hp none
  · exact h.setCarry hp none
  · exact finishPresent_workInv _ _ hp (h.setCarry hp none)
  · exact finishPresent_workInv _ _ hp (h.setCarry hp none)
  · exact h.setCarry hp _
  · exact h.setCarry hp _

/-- A carry copy runs alone in the engine, with no PRESENT waiting. -/
theorem WorkInv.presentEnds (h : WorkInv x s) (hc : s.scanout.carry.isSome = true) : PresentEnds s := by
  refine ⟨?_, h.presentAlone (.inr hc)⟩
  by_contra hw
  simp [h.notBoth (Option.isSome_iff_ne_none.mpr hw)] at hc

theorem carryRowDone_workInv (h : WorkInv x s) : WorkInv x (carryRowDone s) := by
  unfold carryRowDone
  split
  · exact h
  · next c hc =>
    split
    · exact carryBoundary_workInv _ (h.presentEnds (by simp [hc])) (h.same rfl rfl rfl rfl rfl rfl)
    · exact h

theorem resumeCarry_workInv (h : WorkInv x s) : WorkInv x (resumeCarry s) := by
  unfold resumeCarry
  split
  · exact h
  · next c hc =>
    split
    · exact carryBoundary_workInv _ (h.presentEnds (by simp [hc])) h
    · exact h

theorem resumePictures_workInv (h : WorkInv x s) : WorkInv x (resumePictures s) := resumeCarry_workInv (resumePicture_workInv h)

theorem swap_workInv (carry : Bool) (hq : s.picture.work = .free ∧ s.picture.writing = false ∧ s.picture.reads = [])
    (h : WorkInv x s) : WorkInv x (swap carry s) := by
  have hs : WorkInv x { s with scanout.front := s.scanout.front.other, scanout.waiting := none } :=
    ⟨h.slots, h.staged, h.abandoned, (fun hw => by cases hw), (fun hw => by cases hw), fun _ => hq, h.closedPresented⟩
  unfold swap
  dsimp only
  split
  · exact carryBoundary_workInv _ ⟨rfl, hq⟩ hs
  · exact finishPresent_workInv _ _ ⟨rfl, hq⟩ hs

theorem swapWaiting_workInv (h : WorkInv x s) : WorkInv x (swapWaiting s) := by
  unfold swapWaiting
  split
  · exact h
  · next carry hw => exact swap_workInv carry (h.presentAlone (.inl (by simp [hw]))) h

theorem takePresent_workInv (j : Job) (hj : s.picture.job = none) (ha : Alone s) (h : WorkInv ({j.slot} + x) s) :
    WorkInv x (takePresent j s) := by
  have hs : WorkInv x { s with picture := { s.picture.cleared with job := some j } } := h.takeEngine hj ha rfl rfl
  unfold takePresent
  dsimp only
  split
  · exact ⟨hs.slots, hs.staged, hs.abandoned, fun _ => rfl, fun _ => ha.2, fun _ => ⟨rfl, rfl, rfl⟩, hs.closedPresented⟩
  · exact swap_workInv _ ⟨rfl, rfl, rfl⟩ hs

theorem stopPanel_workInv (st : Stage) (h : WorkInv x s) : WorkInv x (stopPanel st s) :=
  recompute_workInv (swapWaiting_workInv (h.same rfl rfl rfl rfl rfl rfl))

theorem startPanel_workInv (h : WorkInv x s) : WorkInv x (startPanel s) :=
  recompute_workInv (h.same rfl rfl rfl rfl rfl rfl)

theorem panelTest_workInv (h : WorkInv x s) : WorkInv x (panelTest s) := by
  unfold panelTest
  (repeat' split)
  · exact startPanel_workInv h
  · exact h
  · exact h
  · exact stopPanel_workInv _ h
  · exact h
  · exact stopPanel_workInv _ h
  · exact h

/-- The SETTINGS context lets go of its slot, which is still in work. -/
theorem WorkInv.dropSettings {j : Job} (hj : s.exch.settingsJob = some j) (h : WorkInv x s) :
    WorkInv ({j.slot} + x) { s with exch.settingsJob := none } := by
  have hwork : {j.slot} + x + workSlots { s with exch.settingsJob := none } = x + workSlots s := by
    simp only [workSlots, hj, jobSlot_none, jobSlot_some]
    ac_rfl
  exact ⟨hwork ▸ h.slots.congr rfl rfl rfl (.inr rfl) h.slots.refused, h.staged, h.abandoned, h.waiting, h.notBoth,
    h.presentAlone, h.closedPresented⟩

/-- The SETTINGS context takes a slot that is in work (R15). -/
theorem WorkInv.takeSettings {j : Job} (hj : s.exch.settingsJob = none) (h : WorkInv ({j.slot} + x) s) {j' : Job}
    (hslot : j'.slot = j.slot) : WorkInv x { s with exch.settingsJob := some j' } := by
  have hwork : x + workSlots { s with exch.settingsJob := some j' } = {j.slot} + x + workSlots s := by
    simp only [workSlots, hj, hslot, jobSlot_none, jobSlot_some]
    ac_rfl
  exact ⟨hwork ▸ h.slots.congr rfl rfl rfl (.inr rfl) h.slots.refused, h.staged, h.abandoned, h.waiting, h.notBoth,
    h.presentAlone, h.closedPresented⟩

theorem finishPanel_workInv (wish : Bool) (h : WorkInv x s) : WorkInv x (finishPanel wish s) := by
  unfold finishPanel
  split
  · exact h
  · next j hj =>
    split
    · exact complete_workInv _ _ _ _ _ (h.dropSettings hj)
    · exact h

theorem stageExpiry_workInv (h : WorkInv x s) : WorkInv x (stageExpiry s) := by
  unfold stageExpiry
  split
  · exact h
  · split
    · split
      · exact h.same rfl rfl rfl rfl rfl rfl
      · exact h.same rfl rfl rfl rfl rfl rfl
      · exact finishPanel_workInv true (recompute_workInv (h.same rfl rfl rfl rfl rfl rfl))
      · exact h.same rfl rfl rfl rfl rfl rfl
      · exact h.same rfl rfl rfl rfl rfl rfl
      · exact panelTest_workInv (finishPanel_workInv false (recompute_workInv (h.same rfl rfl rfl rfl rfl rfl)))
    · exact h

theorem verticalBlank_workInv (h : WorkInv x s) : WorkInv x (verticalBlank s) := by
  unfold verticalBlank
  split
  · have hswap := swapWaiting_workInv (s := { s with scanout.frame := s.scanout.frame + 1 }) (h.same rfl rfl rfl rfl rfl rfl)
    exact hswap.same rfl rfl rfl rfl rfl rfl
  · exact h

end

end Sys2Proof.Machine
end

section
/-! PROOFS. The agreement of slots, queue and contexts under the Power Manager, the key path, the takes, the tablet's
writes, the session, the lines and the starts; then over every step (R8, R14, R15, R19). -/

namespace Sys2Proof.Machine

section
variable {x : Multiset (Fin 16)} {s t : State}

/-! ### The Power Manager -/

theorem enterStandby_workInv (h : WorkInv x s) : WorkInv x (enterStandby s) := by
  have hrec := plainRecord_workInv .power 0 h
  have hpanel := finishPanel_workInv true
    (panelTest_workInv (s := { plainRecord .power 0 s with power.standby := true, power.lingerEnds := none })
      (hrec.same rfl rfl rfl rfl rfl rfl))
  exact (recompute_workInv hpanel).same rfl rfl rfl rfl rfl rfl

theorem scannerWake_workInv (h : WorkInv x s) : WorkInv x (scannerWake s) := by
  unfold scannerWake
  split <;> exact h.same rfl rfl rfl rfl rfl rfl

theorem wake_workInv (w : WakeSource) (h : WorkInv x s) : WorkInv x (wake w s) := by
  have hrec : WorkInv x (wakeRecord w { s with power.standby := false }) :=
    wakeRecord_workInv w (h.same rfl rfl rfl rfl rfl rfl)
  have hafter : ∀ {u : State}, WorkInv x u →
      WorkInv x (scannerWake (resumePictures (recompute (idleRestart (panelTest u))))) := fun hu =>
    scannerWake_workInv (resumePictures_workInv (recompute_workInv (panelTest_workInv hu).same))
  unfold wake
  dsimp only
  split
  · exact hafter hrec
  · exact hafter (hrec.same rfl rfl rfl rfl rfl rfl)

theorem wakeSource_workInv (w : WakeSource) (h : WorkInv x s) : WorkInv x (wakeSource w s) := by
  unfold wakeSource
  split
  · exact wake_workInv w h
  · exact h

theorem ignitionOn_workInv (h : WorkInv x s) : WorkInv x (ignitionOn s) :=
  wakeSource_workInv .ignitionOn (h.same rfl rfl rfl rfl rfl rfl)

theorem ignitionOff_workInv (h : WorkInv x s) : WorkInv x (ignitionOff s) := by
  unfold ignitionOff
  (repeat' split)
  · exact h
  · exact enterStandby_workInv h
  · exact h.same rfl rfl rfl rfl rfl rfl

theorem lingerRetime_workInv (h : WorkInv x s) : WorkInv x (lingerRetime s) := by
  unfold lingerRetime
  (repeat' split)
  · exact h
  · exact enterStandby_workInv h
  · exact h.same rfl rfl rfl rfl rfl rfl

theorem lingerExpiry_workInv (h : WorkInv x s) : WorkInv x (lingerExpiry s) := by
  unfold lingerExpiry
  split
  · exact enterStandby_workInv h
  · exact h

theorem bandRecord_workInv (o n : Band) (h : WorkInv x s) : WorkInv x (bandRecord o n s) := by
  unfold bandRecord
  (repeat' split)
  · exact plainRecord_workInv _ _ h
  · exact plainRecord_workInv _ _ h
  · exact h

theorem sample_workInv (mv : Nat) (h : WorkInv x s) : WorkInv x (sample mv s) := by
  unfold sample
  dsimp only
  split
  · exact h.same rfl rfl rfl rfl rfl rfl
  · exact resumePictures_workInv (recompute_workInv (bandRecord_workInv _ _ (h.same rfl rfl rfl rfl rfl rfl)))

/-! ### The key path -/

theorem foldl_workInv {α : Type} {f : State → α → State} (hf : ∀ s a, WorkInv x s → WorkInv x (f s a)) (l : List α)
    (h : WorkInv x s) : WorkInv x (l.foldl f s) := by
  induction l generalizing s with
  | nil => exact h
  | cons a l ih => exact ih (hf s a h)

theorem pressAwake_workInv (p : Fin 128) (h : WorkInv x s) : WorkInv x (pressAwake p s) := by
  unfold pressAwake
  (repeat' split)
  · exact keyRecord_workInv _ _ _ _ (h.same rfl rfl rfl rfl rfl rfl)
  · exact keyRecord_workInv _ _ _ _ (h.same rfl rfl rfl rfl rfl rfl)
  · exact keyRecord_workInv _ _ _ _ h.same

theorem pressCases_workInv (p : Fin 128) (h : WorkInv x s) : WorkInv x (pressCases p s) := by
  have hwake := wakeSource_workInv (.key p) h
  unfold pressCases
  dsimp only
  (repeat' split)
  · exact hwake.same rfl rfl rfl rfl rfl rfl
  · exact pressAwake_workInv p hwake
  · exact pressAwake_workInv p h

theorem pressActivity_workInv (found : State) (h : WorkInv x s) : WorkInv x (pressActivity found s) := by
  have horder : WorkInv x (takeOrder s).2 := h.same rfl rfl rfl rfl rfl rfl
  unfold pressActivity
  dsimp only
  (repeat' split)
  · exact activity_workInv _ (lingerExpiry_workInv horder)
  · exact activity_workInv _ horder
  · exact activity_workInv _ h

theorem press_workInv (p : Fin 128) (h : WorkInv x s) : WorkInv x (press p s) := by
  unfold press
  split
  · exact pressActivity_workInv s (pressCases_workInv p h)
  · exact h

theorem release_workInv (p : Fin 128) (h : WorkInv x s) : WorkInv x (release p s) := by
  unfold release
  split
  · exact h
  · exact keyRecord_workInv _ _ _ _ h.same
  · exact h.same rfl rfl rfl rfl rfl rfl
  · exact h.same rfl rfl rfl rfl rfl rfl

theorem holdTest_workInv (p : Fin 128) (h : WorkInv x s) : WorkInv x (holdTest p s) := by
  unfold holdTest
  dsimp only
  split
  · exact keyRecord_workInv _ _ _ _ (h.same rfl rfl rfl rfl rfl rfl)
  · exact h

theorem stuckTest_workInv (p : Fin 128) (h : WorkInv x s) : WorkInv x (stuckTest p s) := by
  unfold stuckTest
  dsimp only
  split
  · exact keyRecord_workInv _ _ _ _ h.same
  · exact h

theorem advanceKey_workInv (p : Fin 128) (h : WorkInv x s) : WorkInv x (advanceKey p s) :=
  stuckTest_workInv p (holdTest_workInv p (h.same rfl rfl rfl rfl rfl rfl))

theorem advanceDownTimes_workInv (h : WorkInv x s) : WorkInv x (advanceDownTimes s) :=
  foldl_workInv (fun _ p h => advanceKey_workInv p h) s.composer.held
    (h.same (t := { s with composer.downAt := now s }) rfl rfl rfl rfl rfl rfl)

theorem repeatFires_workInv (h : WorkInv x s) : WorkInv x (repeatFires s) := by
  unfold repeatFires
  split
  · exact h
  · next p _ =>
    split
    · have hrec := keyRecord_workInv (s := { s with composer.repeatCount := min (s.composer.repeatCount + 1) 65535 })
        .repeating p 0 (BitVec.ofNat 16 (min (s.composer.repeatCount + 1) 65535)) (h.same rfl rfl rfl rfl rfl rfl)
      exact hrec.same rfl rfl rfl rfl rfl rfl
    · exact h

/-- The PROFILE context lets go of its slot, which is still in work. -/
theorem WorkInv.dropProfile {j : Job} (hj : s.profile.job = some j) (h : WorkInv x s) :
    WorkInv ({j.slot} + x) { s with profile.staged := none, profile.job := none } := by
  have hwork : {j.slot} + x + workSlots { s with profile.staged := none, profile.job := none } = x + workSlots s := by
    simp only [workSlots, hj, jobSlot_none, jobSlot_some]
    ac_rfl
  exact ⟨hwork ▸ h.slots, rfl, h.abandoned, h.waiting, h.notBoth, h.presentAlone, h.closedPresented⟩

theorem finishProfile_workInv (code : ResultCode) (h : WorkInv x s) : WorkInv x (finishProfile code s) := by
  unfold finishProfile
  split
  · next hj => exact complete_workInv _ _ _ _ _ (h.dropProfile hj)
  · exact h

theorem swapProfile_workInv (st : Staged) (h : WorkInv x s) : WorkInv x (swapProfile st s) :=
  finishProfile_workInv _ (plainRecord_workInv _ _
    (h.congr rfl rfl rfl rfl (.inr rfl) h.slots.refused rfl rfl rfl rfl rfl rfl))

theorem quietTest_workInv (h : WorkInv x s) : WorkInv x (quietTest s) := by
  unfold quietTest
  split
  · exact h
  · next st _ =>
    split
    · exact swapProfile_workInv st h
    · exact h

theorem profileExpiry_workInv (h : WorkInv x s) : WorkInv x (profileExpiry s) := by
  unfold profileExpiry
  (repeat' split)
  · exact h
  · exact finishProfile_workInv _ h
  · exact h

theorem fastPass_workInv (raw : BitVec 128) (h : WorkInv x s) : WorkInv x (fastPass raw s) := by
  have hdecide : WorkInv x (fastPassDecide raw s) := by
    unfold fastPassDecide handDecisions
    have hhanded := foldl_workInv (fun _ p h => press_workInv p h)
      (presses (pressThreshold s) (integrated (pressThreshold s) (samples raw s) s.composer.keys))
      (foldl_workInv (fun _ p h => release_workInv p h)
        (releases s.profile.active.releaseBase (integrated (pressThreshold s) (samples raw s) s.composer.keys))
        (h.same (t := { s with
          composer.keys := integrated (pressThreshold s) (samples raw s) s.composer.keys, scanner.passAt := now s,
          scanner.driven := true }) rfl rfl rfl rfl rfl rfl))
    exact hhanded.same rfl rfl rfl rfl rfl rfl
  exact quietTest_workInv hdecide.same

theorem slowBoundary_workInv (sw : Bool) (h : WorkInv x s) : WorkInv x (slowBoundary sw s) := by
  have hfast : ∀ {u : State}, WorkInv x u → WorkInv x (switchToFast u) := fun hu => hu.same rfl rfl rfl rfl rfl rfl
  have horder : WorkInv x (takeOrder s).2 := h.same rfl rfl rfl rfl rfl rfl
  unfold slowBoundary
  dsimp only
  (repeat' split)
  · exact hfast (quietTest_workInv horder)
  · exact quietTest_workInv (hfast horder)
  · exact quietTest_workInv (hfast h)
  · exact quietTest_workInv h

theorem slowPass_workInv (raw : BitVec 128) (h : WorkInv x s) : WorkInv x (slowPass raw s) := by
  have hreleased := foldl_workInv (fun _ p h => release_workInv p h) (stuckOpen (samples raw s) s.composer.keys)
    (h.same (t := { s with scanner.passAt := now s, scanner.driven := true }) rfl rfl rfl rfl rfl rfl)
  exact slowBoundary_workInv _ (hreleased.same rfl rfl rfl rfl rfl rfl)

/-! ### The takes -/

theorem takeIndicators_workInv (j : Job) (hj : s.exch.settingsJob = none) (h : WorkInv ({j.slot} + x) s) :
    WorkInv x (takeIndicators j s) := (h.takeSettings hj (j' := j) rfl).same rfl rfl rfl rfl rfl rfl

theorem takeLight_workInv (j : Job) (hj : s.exch.settingsJob = none) (h : WorkInv ({j.slot} + x) s) :
    WorkInv x (takeLight j s) := by
  unfold takeLight
  split
  · exact (h.takeSettings hj (j' := { j with flags := clampedFlag (lightClamped j.params) }) rfl).same
  · exact complete_workInv _ _ _ _ _ h

theorem takeVehicle_workInv (j : Job) (hj : s.exch.settingsJob = none) (h : WorkInv ({j.slot} + x) s) :
    WorkInv x (takeVehicle j s) :=
  lingerRetime_workInv ((h.takeSettings hj (j' := { j with flags := clampedFlag (vehicleClamped j.params) }) rfl).same
    rfl rfl rfl rfl rfl rfl)

theorem applyWish_workInv (w : Bool) (h : WorkInv x s) : WorkInv x (applyWish w s) := by
  unfold applyWish
  dsimp only
  split
  · exact wakeSource_workInv _ (h.same rfl rfl rfl rfl rfl rfl)
  · exact panelTest_workInv (h.same rfl rfl rfl rfl rfl rfl)

theorem takePanel_workInv (j : Job) (hj : s.exch.settingsJob = none) (h : WorkInv ({j.slot} + x) s) :
    WorkInv x (takePanel j s) := by
  have hwish := applyWish_workInv (panelWish j.params) h
  unfold takePanel
  dsimp only
  split
  · exact complete_workInv _ _ _ _ _ hwish
  · exact hwish.takeSettings (by simpa using hj) (j' := j) rfl

theorem takeSettings_workInv (j : Job) (hj : s.exch.settingsJob = none) (h : WorkInv ({j.slot} + x) s) :
    WorkInv x (takeSettings j s) := by
  unfold takeSettings
  (repeat' split)
  · exact takeIndicators_workInv j hj h
  · exact takeLight_workInv j hj h
  · exact takeVehicle_workInv j hj h
  · exact takePanel_workInv j hj h
  · exact complete_workInv _ _ _ _ _ h

theorem takeProfile_workInv (j : Job) (hj : s.profile.job = none) (h : WorkInv ({j.slot} + x) s) :
    WorkInv x (takeProfile j s) := by
  unfold takeProfile
  dsimp only
  split
  · exact complete_workInv _ _ _ _ _ h
  · split
    · exact complete_workInv _ _ _ _ _ h
    · next classes _ =>
      have hwork : ∀ st, x + workSlots { s with profile.job := some j, profile.staged := some st } =
          {j.slot} + x + workSlots s := fun st => by
        simp only [workSlots, hj, jobSlot_none, jobSlot_some]
        ac_rfl
      exact ⟨by rw [hwork]; exact h.slots, rfl, h.abandoned, h.waiting, h.notBoth, h.presentAlone, h.closedPresented⟩

/-- A queued slot leaves the queue and is in work (R15, steps 1 and 2). -/
theorem activate_workInv {e : Entry} (he : e ∈ s.exch.queue) (h : WorkInv x s) : WorkInv ({e.slot} + x) (activate e s) := by
  have hposted : (slotIn s.exch e.slot).state = .posted :=
    (h.slots.queued e.slot).mp (List.mem_map.mpr ⟨e, he, rfl⟩)
  have hslots := h.slots.unqueue (e' := (activate e s).exch) (r := { slot s e.slot with state := .active }) hposted
    (by simp) rfl rfl rfl rfl
  refine ⟨?_, h.staged, h.abandoned, h.waiting, h.notBoth, h.presentAlone, h.closedPresented⟩
  rw [add_assoc]
  exact hslots

theorem oneTake_workInv (ht : oneTake s = some t) (h : WorkInv x s) : WorkInv x t := by
  obtain ⟨hf, e, he, rfl⟩ | ⟨hf, -, e, he, rfl⟩ | ⟨hf, e, he, rfl⟩ := oneTake_cases ht
  · have hactive := activate_workInv (nextSettings_mem he).1 h
    exact takeSettings_workInv (jobOf e s) (by simpa [settingsFree, activate] using hf) hactive
  · have hactive := activate_workInv (nextPicture_mem he).1 h
    obtain ⟨hj, -, hc⟩ := pictureFree_iff.mp hf
    have hw : s.scanout.waiting = none := by
      by_contra hw
      simpa [hj] using h.waiting (Option.isSome_iff_ne_none.mpr hw)
    unfold takeByPicture
    dsimp only
    split
    · exact takePresent_workInv (jobOf e s) hj ⟨hw, hc⟩ hactive
    · exact takePicture_workInv (jobOf e s) _ hj ⟨hw, hc⟩ hactive
  · have hactive := activate_workInv (nextProfile_mem he).1 h
    exact takeProfile_workInv (jobOf e s) (by simpa [profileFree] using hf) hactive

theorem lookFor_workInv (n : Nat) (h : WorkInv x s) : WorkInv x (lookFor n s) := by
  induction n generalizing s with
  | zero => exact h
  | succ n ih =>
    unfold lookFor
    split
    · exact h
    · next t ht => exact ih (oneTake_workInv ht h)

theorem look_workInv (h : WorkInv x s) : WorkInv x (look s) := lookFor_workInv _ h

theorem settingsComplete_workInv (h : WorkInv x s) : WorkInv x (settingsComplete s) := by
  unfold settingsComplete
  split
  · exact h
  · next j hj =>
    split
    · exact complete_workInv _ _ _ _ _ (h.dropSettings hj)
    · exact h

/-! ### The tablet's writes to a slot -/

theorem postWrite_workInv (k : Fin 16) (h : WorkInv x s) : WorkInv x (postWrite k s) := by
  unfold postWrite
  split
  · next hk =>
    have hslots := h.slots.post (e' := (postSlot k s).exch) (r := postedRec s.exch.nextPost) (x := entryOf k s) hk.2 rfl
      rfl rfl rfl hk.1 rfl
    exact look_workInv ⟨hslots, h.staged, h.abandoned, h.waiting, h.notBoth, h.presentAlone, h.closedPresented⟩
  · exact refuse_workInv _ h

theorem cancelPosted_workInv (k : Fin 16) (hk : (slot s k).state = .posted) (h : WorkInv x s) :
    WorkInv x (cancelPosted k s) := by
  have hkeep : ∀ n, WorkInv x (complete k n .cancelled 0 0 (unqueue k s)) := fun n => by
    have hslots := h.slots.unqueue (e' := (complete k n .cancelled 0 0 (unqueue k s)).exch)
      (r := resultFields .cancelled 0 0 (unqueue k s) (slot (unqueue k s) k)) hk (endState_finished .cancelled).1
      (by rw [complete_exch]; rfl) (by simp) (by simp) (by simp [complete_exch])
    have hwork : workSlots (complete k n .cancelled 0 0 (unqueue k s)) = workSlots s := by simp [workSlots]
    have hended : (resultFields .cancelled 0 0 (unqueue k s) (slot (unqueue k s) k)).state.inWork = false :=
      (endState_finished .cancelled).2
    rw [hended, if_neg Bool.false_ne_true, ← hwork] at hslots
    exact ⟨hslots, by simpa using h.staged, by simpa using h.abandoned, by simpa using h.waiting, by simpa using h.notBoth,
      by simpa using h.presentAlone, by simpa using h.closedPresented⟩
  exact hkeep _

theorem setSlotState_workInv {k : Fin 16} {st : SlotState} (hfree : (slot s k).state ≠ .free)
    (hposted : (slot s k).state ≠ .posted) (hst : st ≠ .posted) (hwork : st.inWork = (slot s k).state.inWork)
    (h : WorkInv x s) : WorkInv x (setSlotState k st s) :=
  ⟨h.slots.restate (r := { slot s k with state := st }) hfree hposted hst hwork rfl rfl rfl rfl, h.staged, h.abandoned,
    h.waiting, h.notBoth, h.presentAlone, h.closedPresented⟩

theorem cancelPicture_workInv (h : WorkInv x s) : WorkInv x (cancelPicture s) := by
  unfold cancelPicture
  split
  · next hw =>
    split
    · exact h
    · next j hj =>
      have hwork : {j.slot} + x + workSlots { s with picture.job := none, scanout.waiting := none } = x + workSlots s := by
        simp only [workSlots, hj, jobSlot_none, jobSlot_some]
        ac_rfl
      refine complete_workInv _ _ _ _ _ ⟨hwork ▸ h.slots, h.staged, fun _ => rfl, (fun hw => by cases hw),
        (fun hw => by cases hw), fun _ => h.presentAlone (.inl hw), h.closedPresented⟩
  · split
    · next hp => exact finishPicture_workInv _ (h.alone (by simp [hp])) h
    · exact h

theorem cancelSettings_workInv (h : WorkInv x s) : WorkInv x (cancelSettings s) := by
  unfold cancelSettings
  split
  · exact h
  · next j hj =>
    split
    · exact complete_workInv _ _ _ _ _ (h.dropSettings hj)
    · exact h

theorem cancelActive_workInv (k : Fin 16) (hk : (slot s k).state = .active) (h : WorkInv x s) :
    WorkInv x (cancelActive k s) := by
  have hs : WorkInv x (setSlotState k .cancelling s) :=
    setSlotState_workInv (by simp [hk]) (by simp [hk]) (by decide) (by rw [hk]; rfl) h
  unfold cancelActive
  dsimp only
  (repeat' split)
  · exact cancelPicture_workInv hs
  · exact finishProfile_workInv _ hs
  · exact cancelSettings_workInv hs
  · exact hs

theorem cancelWrite_workInv (k : Fin 16) (h : WorkInv x s) : WorkInv x (cancelWrite k s) := by
  unfold cancelWrite
  split
  · exact refuse_workInv _ h
  · split
    · exact refuse_workInv _ h
    · next hk => exact look_workInv (cancelPosted_workInv k hk h)
    · next hk => exact look_workInv (cancelActive_workInv k hk h)
    all_goals exact h

theorem freeWrite_workInv (k : Fin 16) (h : WorkInv x s) : WorkInv x (freeWrite k s) := by
  have hfree : (slot s k).state ≠ .free → (slot s k).state ≠ .posted → (slot s k).state.inWork = false →
      WorkInv x (setSlotState k .free s) := fun hf hp hw =>
    setSlotState_workInv hf hp (by decide) (by rw [hw]; rfl) h
  unfold freeWrite
  split
  · exact refuse_workInv _ h
  · split
    · next hk => exact hfree (by simp [hk]) (by simp [hk]) (by rw [hk]; rfl)
    · next hk => exact hfree (by simp [hk]) (by simp [hk]) (by rw [hk]; rfl)
    · next hk => exact hfree (by simp [hk]) (by simp [hk]) (by rw [hk]; rfl)
    all_goals exact refuse_workInv _ h

/-! ### The session -/

theorem openSession_workInv (h : WorkInv x s) : WorkInv x (openSession s) := by
  have hslots : SlotsInv (x + workSlots s) (openExchange s).exch := by
    obtain ⟨hl, hqueueOnce, hqueued, honce, hwork, -⟩ := h.slots
    exact ⟨hl, hqueueOnce, hqueued, honce, hwork, (fun hc => by cases hc), (fun hc => by cases hc), Nat.zero_le _⟩
  exact writeGroup_workInv rfl
    ⟨hslots, h.staged, h.abandoned, h.waiting, h.notBoth, h.presentAlone, (fun hc => by cases hc)⟩

/-- The engine after a session end holds no slot, and PRESENT none that waits (R8, R120, R137). -/
theorem abandonPicture_job (s : State) : (abandonPicture s).picture.job = none := by
  unfold abandonPicture
  split <;> rfl

theorem abandonPicture_abandoned (s : State) :
    (abandonPicture s).picture.abandon = true → (abandonPicture s).picture.job = none := fun _ => abandonPicture_job s

theorem abandonPicture_free (h : s.picture.work = .free) :
    (abandonPicture s).picture = { s.picture with job := none } := by
  unfold abandonPicture
  split <;> simp_all

theorem closeSession_exch (s : State) : (closeSession s).exch =
    { s.exch with
      sessionOpen := false, slots := s.exch.slots.map fun r => { r with state := .free }, queue := [], attention := 0,
      settingsJob := none } := by
  simp [closeSession, abandonWork]

theorem closeSession_picture (s : State) : (closeSession s).picture = (abandonPicture s).picture := by
  cases hw : s.picture.work <;> simp [closeSession, abandonWork, abandonPicture, stopPicture, freeSlots, hw]

theorem closeSession_profile (s : State) : (closeSession s).profile = { s.profile with staged := none, job := none } := by
  simp [closeSession, abandonWork]

theorem closeSession_scanout (s : State) : (closeSession s).scanout =
    { s.scanout with
      presented := false, waiting := none, carry := s.scanout.carry.map fun c => { c with abandoned := true } } := by
  simp [closeSession, abandonWork]

theorem workSlots_closeSession (s : State) : workSlots (closeSession s) = 0 := by
  simp [workSlots, closeSession_picture, closeSession_profile, closeSession_exch, abandonPicture_job]

theorem closeSession_workInv (h : WorkInv x s) : WorkInv 0 (closeSession s) := by
  refine ⟨?_, ?_, fun _ => ?_, ?_, ?_, ?_, ?_⟩
  · rw [workSlots_closeSession, closeSession_exch]
    exact SlotsInv.empty (by simpa using h.slots.slots) (by simp) rfl rfl h.slots.refused
  · simp [closeSession_profile]
  · rw [closeSession_picture, abandonPicture_job]
  · simp [closeSession_scanout]
  · simp [closeSession_scanout]
  · intro hp
    simp only [closeSession_scanout, Option.isSome_none, Option.isSome_map, Bool.false_eq_true, false_or] at hp
    obtain ⟨hw, hwriting, hreads⟩ := h.presentAlone (.inr hp)
    rw [closeSession_picture, abandonPicture_free hw]
    exact ⟨hw, hwriting, hreads⟩
  · simp [closeSession_scanout]

/-- A CLOSED exchange holds no slot in work and no entry in its queue (R8). -/
theorem workSlots_of_closed (h : WorkInv x s) (hc : s.exch.sessionOpen = false) : workSlots s = 0 ∧ s.exch.queue = [] := by
  constructor
  · refine Multiset.eq_zero_of_forall_notMem fun k hk => ?_
    simpa [hc] using h.open_of_held (k := k) (by simp [hk])
  · refine List.eq_nil_iff_forall_not_mem.mpr fun e he => ?_
    simpa [h.slots.closedSlots hc] using (h.slots.queued e.slot).mp (List.mem_map.mpr ⟨e, he, rfl⟩)

theorem endSession_workInv (h : WorkInv 0 s) : WorkInv 0 (endSession s) := by
  unfold endSession
  split
  · exact closeSession_workInv h
  · exact h

/-- After a session end the session is CLOSED. -/
theorem endSession_closed (s : State) : (endSession s).exch.sessionOpen = false := by
  unfold endSession
  split
  · simp [closeSession_exch]
  · next h => simpa using h

theorem jobs_of_closed (h : WorkInv x s) (hc : s.exch.sessionOpen = false) :
    s.picture.job = none ∧ s.profile.job = none ∧ s.exch.settingsJob = none := by
  have hwork := (workSlots_of_closed h hc).1
  simp only [workSlots, add_eq_zero] at hwork
  have hnone : ∀ j : Option Job, jobSlot j = 0 → j = none := fun j hj => by cases j <;> simp_all
  exact ⟨hnone _ hwork.1.1, hnone _ hwork.1.2, hnone _ hwork.2⟩

theorem sessionWrite_workInv (v : Word) (h : WorkInv 0 s) : WorkInv 0 (sessionWrite v s) := by
  unfold sessionWrite
  split
  · split
    · exact h
    · split
      · exact openSession_workInv h
      · exact refuse_workInv _ h
  · split
    · exact endSession_workInv h
    · exact refuse_workInv _ h

theorem ackWrite_workInv (v : Word) (h : WorkInv x s) : WorkInv x (ackWrite v s) := by
  have hack : ∀ v, (acknowledge v s).exch = { s.exch with attention := s.exch.attention &&& ~~~ackMask v } := fun v => by
    unfold acknowledge
    dsimp only
    split <;> simp
  unfold ackWrite
  split
  · next ho =>
    exact h.congr (by simp [hack]) (by simp [hack]) (by simp [hack]) (by simp) (.inl ho)
      (by simpa [hack] using h.slots.refused) (by simp) (by simp) (by simp) (by simp) (by simp) (by simp)
  · exact h

theorem slotStateWrite_workInv (k : Fin 16) (v : Word) (h : WorkInv x s) : WorkInv x (slotStateWrite k v s) := by
  unfold slotStateWrite
  (repeat' split)
  · exact freeWrite_workInv k h
  · exact postWrite_workInv k h
  · exact cancelWrite_workInv k h
  · exact refuse_workInv _ h

theorem guardedWrite_workInv (g : Guarded) (v : Word) (h : WorkInv 0 s) : WorkInv 0 (guardedWrite g v s) := by
  cases g with
  | session => exact sessionWrite_workInv v h
  | taken => exact takenWrite_workInv v h
  | mark => exact markWrite_workInv v h
  | acknowledge => exact ackWrite_workInv v h
  | slotState k => exact slotStateWrite_workInv k v h

theorem exchangeWrite_workInv (w : BitVec 14) (be : BitVec 4) (v : Word) (h : WorkInv 0 s) :
    WorkInv 0 (exchangeWrite w be v s) := by
  unfold exchangeWrite
  split
  · exact h.same rfl rfl rfl rfl rfl rfl
  · exact refuse_workInv _ h
  · exact h
  · split
    · exact guardedWrite_workInv _ _ h
    · exact refuse_workInv _ h

/-! ### Lines, link and starts -/

theorem deriveDrive_workInv (h : WorkInv x s) : WorkInv x (deriveDrive s) := by
  unfold deriveDrive
  dsimp only
  split
  · exact h
  · exact recompute_workInv (plainRecord_workInv _ _ (h.same rfl rfl rfl rfl rfl rfl))

theorem lineChange_workInv (line : Line) (b : Bool) (h : WorkInv 0 s) : WorkInv 0 (lineChange line b s) := by
  cases line with
  | ign =>
    have hdrive := deriveDrive_workInv (plainRecord_workInv (s := { s with lines.ignOn := b }) .vehicle (if b then 1 else 2)
      (h.same rfl rfl rfl rfl rfl rfl))
    simp only [lineChange, ignChange]
    cases b with
    | true => exact activity_workInv _ (ignitionOn_workInv hdrive)
    | false => exact activity_workInv _ (ignitionOff_workInv hdrive)
  | park => exact activity_workInv _ (deriveDrive_workInv (h.same rfl rfl rfl rfl rfl rfl))
  | presence =>
    simp only [lineChange, presenceChange]
    split
    · exact wakeSource_workInv _ (h.same rfl rfl rfl rfl rfl rfl)
    · exact endSession_workInv (h.same rfl rfl rfl rfl rfl rfl)
  | latch =>
    have hrec := plainRecord_workInv (s := { s with lines.latchOpen := b }) .latch (if b then 1 else 2)
      (h.same rfl rfl rfl rfl rfl rfl)
    simp only [lineChange, latchChange]
    split
    · next hb => simpa [hb] using wakeSource_workInv .latch hrec
    · next hb => simpa [hb] using hrec

theorem lineExpiry_workInv (line : Line) (h : WorkInv 0 s) : WorkInv 0 (lineExpiry line s) := by
  unfold lineExpiry
  dsimp only
  (repeat' split)
  · exact h.same
  · exact lineChange_workInv line _ h.same
  · exact h

theorem giveUpReads_workInv (hj : s.picture.job = none) (h : WorkInv x s) : WorkInv x (giveUpReads s) := by
  unfold giveUpReads
  split
  · exact stopPicture_workInv hj h
  · exact h

/-- A session end and the reads given up with it (R8, R120). -/
theorem giveUpReads_endSession_workInv (h : WorkInv 0 s) : WorkInv 0 (giveUpReads (endSession s)) := by
  have hend := endSession_workInv h
  exact giveUpReads_workInv (jobs_of_closed hend (endSession_closed s)).1 hend

theorem failFetches_workInv (n : Nat) (h : WorkInv x s) : WorkInv x (failFetches n s) := by
  induction n generalizing s with
  | zero => exact h
  | succ n ih =>
    unfold failFetches
    dsimp only
    split
    · next hf =>
      have horder : WorkInv x (takeOrder s).2 := h.same rfl rfl rfl rfl rfl rfl
      have hbusy : s.picture.work = .row := by
        simp only [fetchesHostRow, Bool.and_eq_true, beq_iff_eq] at hf
        exact hf.1.2
      split
      · exact ih (look_workInv (failPicture_workInv (horder.alone (by simp [hbusy])) horder))
      · exact horder
    · exact h

theorem linkDown_workInv (h : WorkInv 0 s) : WorkInv 0 (linkDown s) := by
  unfold linkDown
  split
  · exact giveUpReads_endSession_workInv (failFetches_workInv _ (h.same rfl rfl rfl rfl rfl rfl))
  · exact h

theorem linkReset_workInv (h : WorkInv 0 s) : WorkInv 0 (linkReset s) :=
  (giveUpReads_endSession_workInv h).same rfl rfl rfl rfl rfl rfl

theorem slotsInv_start : SlotsInv 0 Exchange.start :=
  SlotsInv.empty rfl (fun r hr => by rw [List.eq_of_mem_replicate hr]; rfl) rfl rfl (Nat.zero_le _)

theorem freshStart_workInv (levels : LineLevels) (s : State) : WorkInv 0 (freshStart levels s) :=
  ⟨slotsInv_start, rfl, fun _ => rfl, (fun hw => by cases hw), fun _ => rfl,
    (fun hp => by rcases hp with hp | hp <;> cases hp), fun _ => rfl⟩

theorem trip_workInv (h : WorkInv 0 s) : WorkInv 0 (trip s) := by
  have hend := endSession_workInv h
  have hclosed := endSession_closed s
  obtain ⟨-, hprofile, hsettings⟩ := jobs_of_closed hend hclosed
  have hwork : workSlots (trip s) = workSlots (endSession s) := by
    rw [(workSlots_of_closed hend hclosed).1]
    simp [workSlots, trip, Picture.start, hprofile, hsettings]
  exact ⟨hwork ▸ hend.slots, hend.staged, fun _ => rfl, (fun hw => by cases hw), fun _ => rfl,
    fun _ => ⟨rfl, rfl, rfl⟩, hend.closedPresented⟩

end

end Sys2Proof.Machine
end

section
/-! PROOFS. Every step keeps the agreement of slots, queue and contexts (R8, R14, R15, R19), and leaves no slot waiting for
a context that could take it (R15). -/

namespace Sys2Proof.Machine

section
variable {s : State}

/-! ### The starts -/

/-- A session end and the abandonment of the engine's work in the session that has ended. -/
theorem abandonPicture_workInv (hclosed : s.exch.sessionOpen = false) (h : WorkInv 0 s) : WorkInv 0 (abandonPicture s) := by
  obtain ⟨hpicture, hprofile, hsettings⟩ := jobs_of_closed h hclosed
  have hwork : workSlots (abandonPicture s) = workSlots s := by
    simp [workSlots, abandonPicture_job, hpicture]
  refine ⟨?_, by simpa using h.staged, fun _ => abandonPicture_job s, fun hw => ?_, by simpa using h.notBoth,
    fun hp => ?_, by simpa using h.closedPresented⟩
  · rw [hwork]
    simpa using h.slots
  · simpa [hpicture] using h.waiting (by simpa using hw)
  · have halone := h.presentAlone (by simpa using hp)
    rw [abandonPicture_free halone.1]
    exact halone

theorem stopCarry_workInv {x : Multiset (Fin 16)} (h : WorkInv x s) : WorkInv x (stopCarry s) := by
  refine ⟨h.slots, h.staged, h.abandoned, h.waiting, fun hw => ?_, fun hp => h.presentAlone ?_, h.closedPresented⟩
  · simp [stopCarry, h.notBoth hw]
  · refine hp.imp id fun hc => ?_
    by_contra hn
    simp [stopCarry, Option.not_isSome_iff_eq_none.mp hn] at hc

/-- The engine and the carry copy of a session that has ended keep their agreement under the start of every other block of
the exchange and the key path. -/
theorem keyPathReset_exchangeReset_workInv (hclosed : s.exch.sessionOpen = false) (h : WorkInv 0 s) :
    WorkInv 0 (keyPathReset (exchangeReset s)) := by
  have hpicture := (jobs_of_closed h hclosed).1
  have hwork : workSlots (keyPathReset (exchangeReset s)) = 0 := by
    change jobSlot s.picture.job + 0 + 0 = 0
    simp [hpicture]
  exact ⟨by rw [hwork]; exact slotsInv_start, rfl, h.abandoned, h.waiting, h.notBoth, h.presentAlone,
    fun _ => h.closedPresented hclosed⟩

theorem workReset_workInv (h : WorkInv 0 s) : WorkInv 0 (workReset s) := by
  have hend := endSession_workInv h
  exact stopCarry_workInv (giveUpReads_workInv (abandonPicture_job _) (abandonPicture_workInv (endSession_closed s) hend))

theorem workReset_closed (s : State) : (workReset s).exch.sessionOpen = false := by
  simp [workReset, endSession_closed]

theorem panelReset_workInv (h : WorkInv 0 s) : WorkInv 0 (panelReset s) :=
  panelTest_workInv ⟨h.slots, h.staged, h.abandoned, h.waiting, h.notBoth, h.presentAlone, fun _ => rfl⟩

theorem resetFunction_workInv (h : WorkInv 0 s) : WorkInv 0 (resetFunction s) := by
  have hkeys := keyPathReset_exchangeReset_workInv (workReset_closed s) (workReset_workInv h)
  have hpower : WorkInv 0 (powerReset (priorOf s) (settingsReset (keyPathReset (exchangeReset (workReset s))))) :=
    hkeys.same rfl rfl rfl rfl rfl rfl
  exact WorkInv.same (t := lightFunctionReset _) (panelReset_workInv hpower)

theorem controlWrite_workInv (v : Word) (h : WorkInv 0 s) : WorkInv 0 (controlWrite v s) := by
  have henable : WorkInv 0 (setInterruptEnable (v.getLsbD 0) s) := h.same
  unfold controlWrite
  dsimp only
  split
  · exact resetFunction_workInv henable
  · exact henable

theorem registerWrite_workInv (word : BitVec 10) (be : BitVec 4) (v : Word) (h : WorkInv 0 s) :
    WorkInv 0 (registerWrite word be v s) := by
  unfold registerWrite
  split
  · exact controlWrite_workInv v h
  · exact h

theorem endClearing_workInv (h : WorkInv 0 s) : WorkInv 0 (endClearing s) := by
  unfold endClearing
  split
  · exact h.same rfl rfl rfl rfl rfl rfl
  · exact h

/-! ### Every step -/

theorem effect_workInv (c : Instr) (h : WorkInv 0 s) : WorkInv 0 (effect c s) := by
  cases c with
  | exchangeMemoryWrite word be v => exact exchangeWrite_workInv word be v h
  | sessionOpen => exact sessionWrite_workInv 1 h
  | sessionClose => exact sessionWrite_workInv 2 h
  | post k => exact postWrite_workInv k h
  | cancel k => exact cancelWrite_workInv k h
  | free k => exact freeWrite_workInv k h
  | settingsCompletion => exact look_workInv (settingsComplete_workInv h)
  | attentionAcknowledge v => exact ackWrite_workInv v h
  | journalTakenWrite v => exact takenWrite_workInv v h
  | notifyMarkWrite v => exact markWrite_workInv v h
  | interruptEnableWrite v => exact controlWrite_workInv v h
  | functionReset v => exact controlWrite_workInv (v ||| 2) h
  | registerWriteIgnored word be v => exact registerWrite_workInv word be v h
  | linkDown => exact linkDown_workInv h
  | linkReset => exact linkReset_workInv h
  | fastPass levels => exact look_workInv (fastPass_workInv _ h)
  | slowPass levels => exact look_workInv (slowPass_workInv _ h)
  | downTimeAdvance => exact advanceDownTimes_workInv h
  | hold p => exact holdTest_workInv p h
  | stuck p => exact stuckTest_workInv p h
  | repeatExpiry => exact repeatFires_workInv h
  | profileWaitExpiry => exact look_workInv (profileExpiry_workInv h)
  | hostReadCompletion tag place data error poisoned => exact look_workInv (hostCompletion_workInv _ _ _ _ _ h)
  | hostReadTimeout tag => exact look_workInv (hostTimeout_workInv tag h)
  | rowWriteComplete => exact look_workInv (rowWritten_workInv h)
  | clearingEnd => exact look_workInv (endClearing_workInv h)
  | carryCopyRowComplete => exact look_workInv (carryRowDone_workInv h)
  | verticalBlankStart => exact look_workInv (verticalBlank_workInv h)
  | panelStageExpiry => exact look_workInv (stageExpiry_workInv h)
  | supplyConversionComplete code =>
    have hsample := sample_workInv (s := { s with measure.millivolts := BitVec.ofNat 16 (millivoltsOf code) })
      (millivoltsOf code) (h.same rfl rfl rfl rfl rfl rfl)
    exact look_workInv (hsample.same rfl rfl rfl rfl rfl rfl)
  | qualificationExpiry line => exact look_workInv (lineExpiry_workInv line h)
  | lingerExpiry => exact look_workInv (lingerExpiry_workInv h)
  | survivalComparatorTrip => exact trip_workInv h
  | supplyDipStart => exact (freshStart_workInv s.lines.levels s).same rfl rfl rfl rfl rfl rfl
  | coldStart levels => exact freshStart_workInv levels s
  | msiEnableChange | interruptDisableChange | busMasteringChange | linkUp | windowEnd | slowScanEntry | conversionDue
      | dockTimeAdvance => exact h.same rfl rfl rfl rfl rfl rfl
  | ambientConversionComplete code =>
    have hcode : WorkInv 0 (ambientDone code s) := h.same
    exact hcode
  | lightTick => exact WorkInv.same (t := lightTick s) h
  | idleExpiry => exact WorkInv.same (t := idleExpiry s) h
  | lineEdge line high => exact WorkInv.same (t := lineEdge line high s) h

/-- Settles O8: the invariant in its form for the middle of an event, with no slot in hand, kept by every effect. -/
theorem stepKeepsSlotsAndQueue : Obligations.StepKeepsSlotsAndQueue := by
  intro s t h ht
  rw [exchangeInv_iff] at h ⊢
  exact step_preserves (fun _ _ h => h.same rfl rfl rfl rfl rfl rfl) (fun c _ h => effect_workInv c h) h ht

end

end Sys2Proof.Machine
end

section
/-! PROOFS. No step leaves a slot waiting for a context that could take it (R15): an event that frees a context or ends a
hold ends with a look, a session end and a start empty the queue, and any other leaves queue, contexts and holds. -/

namespace Sys2Proof.Machine

section
variable {s t : State}

/-! ### Events that leave queue, contexts and holds -/

/-- An operation that leaves queue, contexts and holds opens no take. -/
theorem no_take_of_same (h : oneTake s = none) (hqueue : t.exch.queue = s.exch.queue := by simp)
    (hsettings : t.exch.settingsJob = s.exch.settingsJob := by simp) (hpicture : t.picture = s.picture := by simp)
    (hscanout : t.scanout = s.scanout := by simp) (hprofile : t.profile = s.profile := by simp)
    (hframes : t.frames = s.frames := by simp) (hpower : t.power = s.power := by simp) : oneTake t = none :=
  (oneTake_none_congr hqueue hsettings hpicture (by rw [hscanout]) (by rw [hprofile])
    (by rw [pictureHeld, pictureHeld, hpower, hframes])).mpr h

theorem refuse_no_take (o : Nat) (h : oneTake s = none) : oneTake (refuse o s) = none := no_take_of_same h

theorem takenWrite_no_take (v : Word) (h : oneTake s = none) : oneTake (takenWrite v s) = none := no_take_of_same h

theorem markWrite_no_take (v : Word) (h : oneTake s = none) : oneTake (markWrite v s) = none := no_take_of_same h

theorem ackWrite_no_take (v : Word) (h : oneTake s = none) : oneTake (ackWrite v s) = none := by
  unfold ackWrite
  split
  · refine no_take_of_same h ?_ ?_ <;> (unfold acknowledge; dsimp only; split <;> simp)
  · exact h

theorem holdTest_no_take (p : Fin 128) (h : oneTake s = none) : oneTake (holdTest p s) = none := by
  unfold holdTest
  dsimp only
  split
  · exact no_take_of_same h
  · exact h

theorem stuckTest_no_take (p : Fin 128) (h : oneTake s = none) : oneTake (stuckTest p s) = none := by
  unfold stuckTest
  dsimp only
  split
  · exact no_take_of_same h
  · exact h

theorem advanceDownTimes_no_take (h : oneTake s = none) : oneTake (advanceDownTimes s) = none := by
  have hfold : ∀ (l : List (Fin 128)) (u : State), oneTake u = none →
      oneTake (l.foldl (fun s p => advanceKey p s) u) = none := fun l => by
    induction l with
    | nil => exact fun _ hu => hu
    | cons p l ih =>
      refine fun u hu => ih _ (stuckTest_no_take p (holdTest_no_take p ?_))
      exact no_take_of_same hu rfl rfl rfl rfl rfl rfl rfl
  exact hfold _ _ (no_take_of_same h rfl rfl rfl rfl rfl rfl rfl)

theorem repeatFires_no_take (h : oneTake s = none) : oneTake (repeatFires s) = none := by
  unfold repeatFires
  (repeat' split)
  · exact h
  · exact no_take_of_same h
  · exact h

theorem openSession_no_take (h : oneTake s = none) : oneTake (openSession s) = none := by
  have hopen : oneTake (openExchange s) = none :=
    (oneTake_none_congr (s := s) (t := openExchange s) rfl rfl rfl rfl rfl rfl).mpr h
  unfold openSession journalOpen
  exact no_take_of_same (s := { openExchange s with journal := Journal.start })
    (no_take_of_same hopen rfl rfl rfl rfl rfl rfl rfl)

theorem freeWrite_no_take (k : Fin 16) (h : oneTake s = none) : oneTake (freeWrite k s) = none := by
  unfold freeWrite
  (repeat' split)
  all_goals exact no_take_of_same h

theorem postWrite_no_take (k : Fin 16) (h : oneTake s = none) : oneTake (postWrite k s) = none := by
  unfold postWrite
  split
  · exact oneTake_look _
  · exact refuse_no_take _ h

theorem cancelWrite_no_take (k : Fin 16) (h : oneTake s = none) : oneTake (cancelWrite k s) = none := by
  unfold cancelWrite
  split
  · exact refuse_no_take _ h
  · split
    · exact refuse_no_take _ h
    · exact oneTake_look _
    · exact oneTake_look _
    all_goals exact h

theorem slotStateWrite_no_take (k : Fin 16) (v : Word) (h : oneTake s = none) : oneTake (slotStateWrite k v s) = none := by
  unfold slotStateWrite
  (repeat' split)
  · exact freeWrite_no_take k h
  · exact postWrite_no_take k h
  · exact cancelWrite_no_take k h
  · exact refuse_no_take _ h

/-! ### Session ends and starts -/

/-- The queue is empty after a session end: an OPEN session ends with it so, and in a CLOSED one it is so (R8). -/
theorem endSession_queue (h : WorkInv 0 s) : (endSession s).exch.queue = [] :=
  (workSlots_of_closed (endSession_workInv h) (endSession_closed s)).2

theorem sessionWrite_no_take (v : Word) (h : WorkInv 0 s) (hno : oneTake s = none) : oneTake (sessionWrite v s) = none := by
  unfold sessionWrite
  (repeat' split)
  · exact hno
  · exact openSession_no_take hno
  · exact refuse_no_take _ hno
  · exact oneTake_of_queue_nil (endSession_queue h)
  · exact refuse_no_take _ hno

theorem exchangeWrite_no_take (w : BitVec 14) (be : BitVec 4) (v : Word) (h : WorkInv 0 s) (hno : oneTake s = none) :
    oneTake (exchangeWrite w be v s) = none := by
  unfold exchangeWrite
  split
  · exact no_take_of_same hno rfl rfl rfl rfl rfl rfl rfl
  · exact refuse_no_take _ hno
  · exact hno
  · next g _ =>
    split
    · cases g with
      | session => exact sessionWrite_no_take v h hno
      | taken => exact takenWrite_no_take v hno
      | mark => exact markWrite_no_take v hno
      | acknowledge => exact ackWrite_no_take v hno
      | slotState k => exact slotStateWrite_no_take k v hno
    · exact refuse_no_take _ hno

theorem linkDown_no_take (h : WorkInv 0 s) (hno : oneTake s = none) : oneTake (linkDown s) = none := by
  unfold linkDown
  split
  · have hfetches := failFetches_workInv (s.exch.queue.length + 1)
      (h.same (t := { s with link.up := false }) rfl rfl rfl rfl rfl rfl)
    exact oneTake_of_queue_nil (by simpa [linkLost] using endSession_queue hfetches)
  · exact hno

theorem linkReset_no_take (h : WorkInv 0 s) : oneTake (linkReset s) = none :=
  oneTake_of_queue_nil (by simpa [linkReset] using endSession_queue h)

theorem controlWrite_no_take (v : Word) (hno : oneTake s = none) : oneTake (controlWrite v s) = none := by
  unfold controlWrite
  dsimp only
  split
  · exact oneTake_of_queue_nil (by
      simp [resetFunction, panelReset, powerReset, settingsReset, keyPathReset, exchangeReset, Exchange.start])
  · exact no_take_of_same hno

/-! ### Every step -/

theorem effect_no_take (c : Instr) (h : WorkInv 0 s) (hno : oneTake s = none) : oneTake (effect c s) = none := by
  cases c with
  | exchangeMemoryWrite word be v => exact exchangeWrite_no_take word be v h hno
  | sessionOpen => exact sessionWrite_no_take 1 h hno
  | sessionClose => exact sessionWrite_no_take 2 h hno
  | post k => exact postWrite_no_take k hno
  | cancel k => exact cancelWrite_no_take k hno
  | free k => exact freeWrite_no_take k hno
  | attentionAcknowledge v => exact ackWrite_no_take v hno
  | journalTakenWrite v => exact takenWrite_no_take v hno
  | notifyMarkWrite v => exact markWrite_no_take v hno
  | interruptEnableWrite v => exact controlWrite_no_take v hno
  | functionReset v => exact controlWrite_no_take (v ||| 2) hno
  | registerWriteIgnored word be v =>
    simp only [effect, registerWrite]
    split
    · exact controlWrite_no_take v hno
    · exact hno
  | linkDown => exact linkDown_no_take h hno
  | linkReset => exact linkReset_no_take h
  | downTimeAdvance => exact advanceDownTimes_no_take hno
  | hold p => exact holdTest_no_take p hno
  | stuck p => exact stuckTest_no_take p hno
  | repeatExpiry => exact repeatFires_no_take hno
  | survivalComparatorTrip => exact oneTake_of_queue_nil (endSession_queue h)
  | supplyDipStart => exact oneTake_of_queue_nil (s := dipStart s) rfl
  | coldStart levels => exact oneTake_of_queue_nil (s := coldStart levels s) rfl
  | msiEnableChange | interruptDisableChange | busMasteringChange | linkUp | windowEnd | slowScanEntry | conversionDue =>
    exact no_take_of_same hno rfl rfl rfl rfl rfl rfl rfl
  | dockTimeAdvance => exact (oneTake_none_congr (s := s) (t := { s with power.dockTime := s.power.dockTime + 1 }) rfl rfl rfl rfl rfl rfl).mpr hno
  | ambientConversionComplete code => exact no_take_of_same (t := ambientDone code s) hno
  | lightTick => exact no_take_of_same (t := lightTick s) hno
  | idleExpiry => exact no_take_of_same (t := idleExpiry s) hno
  | lineEdge line high => exact no_take_of_same (t := lineEdge line high s) hno
  | settingsCompletion | fastPass | slowPass | profileWaitExpiry | hostReadCompletion | hostReadTimeout
      | rowWriteComplete | clearingEnd | carryCopyRowComplete | verticalBlankStart | panelStageExpiry
      | supplyConversionComplete | qualificationExpiry | lingerExpiry => exact oneTake_look _

/-- Settles O9: with the agreement of queue and slots, no effect leaves a take open. -/
theorem stepLeavesNoOpenTake : Obligations.StepLeavesNoOpenTake := by
  intro s t h hno ht
  have hpending : ∀ (s : State) rest, WorkInv 0 s ∧ oneTake s = none →
      WorkInv 0 { s with pending := rest } ∧ oneTake { s with pending := rest } = none := fun s rest h =>
    ⟨h.1.same rfl rfl rfl rfl rfl rfl, no_take_of_same h.2 rfl rfl rfl rfl rfl rfl rfl⟩
  exact (step_preserves hpending (fun c _ h => ⟨effect_workInv c h.1, effect_no_take c h.1 h.2⟩)
    ⟨(exchangeInv_iff s).mp h, hno⟩ ht).2

end

end Sys2Proof.Machine
end

section
/-! PROOFS. The tablet's writes to the slots, to attention and to the register window (R9 to R13, R19 to R23). -/

namespace Sys2Proof.Machine

/-! ### Commands in a part that runs and is reached -/

theorem next_whenRunning {s : State} (h : Running s) (f : State → State) :
    (.next (whenRunning f s) : Result) = .next (f s) := by rw [whenRunning_running f h]

theorem next_whenLinked {s : State} (h : Linked s) (f : State → State) :
    (.next (whenLinked f s) : Result) = .next (f s) := by rw [whenLinked_linked f h.1 h.2]

theorem refuse_eq_afterRefusal (o : Nat) (s : State) : refuse o s = afterRefusal o s := rfl

theorem slotOffset_eq (k : Fin 16) : slotOffset k = 0x0100 + 64 * k.val := rfl

/-! ### POST, CANCEL and FREE (R9 to R11) -/

/-- Settles O20: the two branches of a POST. -/
theorem postQueuesTheSlot : Obligations.PostQueuesTheSlot := by
  intro s k h
  have hexec : exec (.post k) s = .next (postWrite k s) := next_whenLinked h (postWrite k)
  rw [hexec]
  constructor
  · intro ho hf
    rw [postWrite, if_pos ⟨ho, hf⟩]
    simp only [postSlot, entryOf, slotOffset_eq, setSlot, postedRec, SlotRec.zero, Nat.add_right_comm]
  · intro hrefused
    rw [postWrite, if_neg (by rintro ⟨ho, hf⟩; simp [ho, hf] at hrefused)]
    rfl

theorem cancelPosted_eq {s : State} {k : Fin 16} {e : Entry}
    (he : s.exch.queue.find? (fun x => x.slot == k) = some e) : cancelPosted k s =
      if e.notify then raise .slot (setSlot k (completedSlot s k .cancelled .cancelled 0 0) (unqueue k s))
      else setSlot k (completedSlot s k .cancelled .cancelled 0 0) (unqueue k s) := by
  simp only [cancelPosted, he]
  rfl

theorem cancelWrite_posted {s : State} {k : Fin 16} (ho : s.exch.sessionOpen = true) (hk : (slot s k).state = .posted) :
    cancelWrite k s = look (cancelPosted k s) := by
  simp [cancelWrite, ho, hk]

theorem cancelWrite_active {s : State} {k : Fin 16} (ho : s.exch.sessionOpen = true) (hk : (slot s k).state = .active) :
    cancelWrite k s = look (cancelActive k s) := by
  simp [cancelWrite, ho, hk]

/-- Settles O22: the branches of a CANCEL and of a FREE by the slot's state. -/
theorem cancelAndFreeOutsideWork : Obligations.CancelAndFreeOutsideWork := by
  constructor
  · intro s k h
    have hexec : exec (.cancel k) s = .next (cancelWrite k s) := next_whenLinked h (cancelWrite k)
    rw [hexec]
    refine ⟨fun e ho hp he => ⟨_, ?_, rfl⟩, fun ho hstate => ?_, fun hrefused => ?_⟩
    · rw [cancelWrite_posted ho hp, cancelPosted_eq he]
      rfl
    · rcases hstate with hstate | hstate | hstate | hstate <;> simp [cancelWrite, ho, hstate]
    · rcases hrefused with hc | hf
      · simp [cancelWrite, hc, refuse_eq_afterRefusal, slotOffset_eq]
      · simp [cancelWrite, hf, refuse_eq_afterRefusal, slotOffset_eq]
  · intro s k h
    have hexec : exec (.free k) s = .next (freeWrite k s) := next_whenLinked h (freeWrite k)
    rw [hexec]
    refine ⟨fun ho hstate => ?_, fun hrefused => ?_⟩
    · rcases hstate with hstate | hstate | hstate <;> simp [freeWrite, ho, hstate, setSlotState, setSlot]
    · rcases hrefused with hc | hf | hf | hf | hf
      · simp [freeWrite, hc, refuse_eq_afterRefusal, slotOffset_eq]
      all_goals simp [freeWrite, hf, refuse_eq_afterRefusal, slotOffset_eq]

/-! ### CANCEL of a slot in work (R10, R13) -/

/-- A completion writes over a state of the slot in work. -/
theorem complete_setSlotState {s : State} (hlen : s.exch.slots.length = 16) (k : Fin 16) (st : SlotState) (n : Bool)
    (code : ResultCode) (fl : Byte) (c : Nat) : complete k n code fl c (setSlotState k st s) = complete k n code fl c s := by
  have hslot : slot (setSlotState k st s) k = { slot s k with state := st } := slot_setSlot_same k _ s hlen
  have hset : setSlot k (resultFields code fl c (setSlotState k st s) (slot (setSlotState k st s) k))
      (setSlotState k st s) = setSlot k (resultFields code fl c s (slot s k)) s := by
    rw [hslot]
    simp only [setSlotState, setSlot, List.set_set]
    rfl
  simp only [complete, hset]

@[simp] theorem holds_some (j : Job) (k : Fin 16) : holds (some j) k = (j.slot == k) := rfl

/-- No two contexts hold one slot. -/
theorem ExchangeInv.apart {s : State} (h : ExchangeInv s) (j : Job) :
    (s.exch.settingsJob = some j → holds s.picture.job j.slot = false ∧ holds s.profile.job j.slot = false) ∧
      (s.profile.job = some j → holds s.picture.job j.slot = false) := by
  have honce := h.jobsOnce
  have hholds : ∀ (o : Option Job) (k : Fin 16), k ∉ (o.map Job.slot).toList → holds o k = false := fun o k hk => by
    cases o with
    | none => rfl
    | some i => exact beq_false_of_ne fun he => hk (by simp [he])
  constructor
  · intro hj
    rw [jobSlots, hj] at honce
    have hapart := (List.nodup_append.mp honce).2.2
    refine ⟨hholds _ _ fun hm => ?_, hholds _ _ fun hm => ?_⟩
    · exact hapart _ (List.mem_append_left _ hm) j.slot (by simp) rfl
    · exact hapart _ (List.mem_append_right _ hm) j.slot (by simp) rfl
  · intro hj
    rw [jobSlots, hj] at honce
    have hapart := (List.nodup_append.mp (List.nodup_append.mp honce).1).2.2
    exact hholds _ _ fun hm => hapart _ hm j.slot (by simp) rfl

theorem cancelActive_settings {s : State} (h : ExchangeInv s) {j : Job} (hj : s.exch.settingsJob = some j) :
    cancelActive j.slot s = cancelSettings (setSlotState j.slot .cancelling s) := by
  obtain ⟨hpicture, hprofile⟩ := (h.apart j).1 hj
  simp [cancelActive, hpicture, hprofile, hj]

theorem cancelActive_profile {s : State} (h : ExchangeInv s) {j : Job} (hj : s.profile.job = some j) :
    cancelActive j.slot s = finishProfile .cancelled (setSlotState j.slot .cancelling s) := by
  have hpicture := (h.apart j).2 hj
  simp [cancelActive, hpicture, hj]

theorem cancelActive_picture {s : State} {j : Job} (hj : s.picture.job = some j) :
    cancelActive j.slot s = cancelPicture (setSlotState j.slot .cancelling s) := by
  simp [cancelActive, hj]

/-- Settles O23: the branches of a CANCEL at the context that holds the slot. -/
theorem cancelOfActiveSlot : Obligations.CancelOfActiveSlot := by
  intro s j hinv h ho hactive
  have hexec : exec (.cancel j.slot) s = .next (look (cancelActive j.slot s)) := by
    rw [← cancelWrite_active ho hactive]
    exact next_whenLinked h (cancelWrite j.slot)
  rw [hexec]
  refine ⟨?_, fun hj hpanel => ⟨_, ?_, rfl⟩, fun st hj hst => ⟨_, ?_, rfl⟩, fun hj hw => ⟨_, ?_, rfl⟩,
    fun hj hw hpaused => ⟨_, ?_, rfl⟩⟩
  · rintro (⟨hj, hlater⟩ | ⟨hj, hw, hpaused⟩)
    · have hpanel : j.kind ≠ kindPanel := fun hk => by rw [hk] at hlater; exact absurd hlater (by decide)
      rw [cancelActive_settings hinv hj]
      simp [cancelSettings, hj, hpanel, setSlotState, setSlot]
    · rw [cancelActive_picture hj]
      simp [cancelPicture, hw, hpaused, setSlotState, setSlot]
  · have hend : cancelActive j.slot s = complete j.slot j.notify .cancelled 0 0 { s with exch.settingsJob := none } := by
      rw [cancelActive_settings hinv hj,
        ← complete_setSlotState (s := { s with exch.settingsJob := none }) hinv.slots j.slot .cancelling]
      simp [cancelSettings, hj, hpanel, setSlotState, setSlot, completeJob]
      rfl
    rw [hend]
    rfl
  · have hend : cancelActive j.slot s = complete j.slot j.notify .cancelled (clampedFlag st.clamped) 0
        { s with profile.staged := none, profile.job := none } := by
      rw [cancelActive_profile hinv hj,
        ← complete_setSlotState (s := { s with profile.staged := none, profile.job := none }) hinv.slots j.slot .cancelling]
      simp [finishProfile, hj, hst, setSlotState, setSlot, completeJob]
      rfl
    rw [hend]
    rfl
  · have hend : cancelActive j.slot s = complete j.slot j.notify .cancelled 0 0
        { s with picture.job := none, scanout.waiting := none } := by
      rw [cancelActive_picture hj,
        ← complete_setSlotState (s := { s with picture.job := none, scanout.waiting := none }) hinv.slots j.slot .cancelling]
      simp [cancelPicture, hj, hw, setSlotState, setSlot, completeJob]
      rfl
    rw [hend]
    rfl
  · have hend : cancelActive j.slot s = complete j.slot j.notify .cancelled (clippedFlag s.picture.clipped) s.picture.pixels
        (stopPicture s) := by
      rw [cancelActive_picture hj, ← complete_setSlotState (s := stopPicture s) hinv.slots j.slot .cancelling]
      simp [cancelPicture, hj, hw, hpaused, setSlotState, setSlot, finishPicture, stopPicture_completeJob]
      rfl
    rw [hend]
    rfl

/-! ### Attention and the register window (R19 to R23) -/

/-- A message that falls due when `p` holds goes out while MSI, bus mastering and the link allow it (R20, R25). -/
theorem sendMessage_when {p : Prop} [Decidable p] {c : Bool} (hc : p ↔ c = true) (s : State) :
    (if p then sendMessage s else s) =
      { s with link.messages :=
        if c && s.link.msiEnable && s.link.busMastering && s.link.up then s.link.messages + 1 else s.link.messages } := by
  cases c with
  | false => rw [if_neg (by simp [hc])]; rfl
  | true =>
    rw [if_pos (hc.mpr rfl)]
    simp only [Bool.true_and, sendMessage]
    split <;> rfl

/-- Settles O24: each message as the one that falls due under the condition of its event. -/
theorem attentionAndItsMessages : Obligations.AttentionAndItsMessages := by
  intro s sent
  refine ⟨fun v h => ?_, fun c => ?_⟩
  · have hexec : exec (.attentionAcknowledge v) s = .next (ackWrite v s) := next_whenLinked h (ackWrite v)
    rw [hexec]
    refine ⟨fun ho => ?_, fun hc => by simp [ackWrite, hc]⟩
    rw [ackWrite, if_pos ho, acknowledge,
      sendMessage_when (c := s.exch.attention &&& ~~~v.setWidth 3 != 0 && s.link.intEnable) (by simp [ackMask])]
    rfl
  · rw [raise, sendMessage_when (c := s.exch.attention == 0 && s.link.intEnable) (by simp)]
    cases c <;> rfl

/-! ### The fields of STATUS (section 1.8.6) -/

theorem Band.code_lt (b : Band) : b.code < 4 := by cases b <;> decide
theorem PanelState.code_lt (p : PanelState) : p.code < 4 := by cases p <;> decide
theorem Source.code_eq (q : Source) : q.code = flag (q == .standby) := by cases q <;> rfl
theorem flag_lt (b : Bool) : flag b < 2 := by cases b <;> decide

/-- A one-bit field of a register. -/
theorem getLsbD_of_field {n i : Nat} {b : Bool} (hi : i < 32) (h : n / 2 ^ i % 2 = flag b) :
    (BitVec.ofNat 32 n).getLsbD i = b := by
  rw [BitVec.getLsbD_ofNat, Nat.testBit_eq_decide_div_mod_eq, h]
  cases b <;> simp [flag, hi]

/-- A two-bit field of a register. -/
theorem extract_of_field {n i c : Nat} (hn : n < 2 ^ 32) (h : n / 2 ^ i % 4 = c) :
    (BitVec.ofNat 32 n).extractLsb' i 2 = BitVec.ofNat 2 c := by
  apply BitVec.eq_of_toNat_eq
  rw [BitVec.extractLsb'_toNat, BitVec.toNat_ofNat, BitVec.toNat_ofNat, Nat.mod_eq_of_lt hn, Nat.shiftRight_eq_div_pow,
    h, ← h, Nat.mod_mod_of_dvd _ (by decide)]

/-- The fields of STATUS lie side by side from bit 0 on. -/
theorem statusRegister_fields (s : State) :
    (statusRegister s).getLsbD 0 = s.power.standby ∧ (statusRegister s).getLsbD 1 = s.exch.sessionOpen ∧
    (statusRegister s).extractLsb' 2 2 = BitVec.ofNat 2 s.power.band.code ∧
    (statusRegister s).getLsbD 4 = s.lines.drive ∧
    (statusRegister s).extractLsb' 5 2 = BitVec.ofNat 2 s.scanout.panel.code ∧
    (statusRegister s).getLsbD 7 = (s.scanout.source == .standby) ∧ (statusRegister s).toNat < 256 := by
  have hstandby := flag_lt s.power.standby
  have hopen := flag_lt s.exch.sessionOpen
  have hband := s.power.band.code_lt
  have hdrive := flag_lt s.lines.drive
  have hpanel := s.scanout.panel.code_lt
  have hsource := flag_lt (s.scanout.source == .standby)
  unfold statusRegister
  rw [Source.code_eq]
  refine ⟨getLsbD_of_field (by omega) ?_, getLsbD_of_field (by omega) ?_, extract_of_field (by omega) ?_,
    getLsbD_of_field (by omega) ?_, extract_of_field (by omega) ?_, getLsbD_of_field (by omega) ?_, ?_⟩
  case refine_7 =>
    rw [BitVec.toNat_ofNat]
    omega
  all_goals omega

/-- Settles O25: CONTROL by its two fields, every other register write ignored, and each field of STATUS at its place. -/
theorem registerWindowActs : Obligations.RegisterWindowActs := by
  intro s v h
  have hcontrol : exec (.interruptEnableWrite v) s = .next (controlWrite v s) := next_whenLinked h (controlWrite v)
  have hreset : exec (.functionReset v) s = .next (controlWrite (v ||| 2) s) := next_whenLinked h (controlWrite (v ||| 2))
  have hignored : ∀ word be, exec (.registerWriteIgnored word be v) s = .next (registerWrite word be v s) :=
    fun word be => next_whenLinked h (registerWrite word be v)
  obtain ⟨hstandby, hopen, hband, hdrive, hpanel, hsource, hlt⟩ := statusRegister_fields s
  refine ⟨fun hv => ?_, fun hv => ?_, fun word be hne => ?_, fun word be => rfl, rfl, ?_, fun word hw => ?_, hstandby,
    hopen, ?_, hdrive, ?_, hsource, hlt⟩
  · rw [hcontrol, controlWrite, hv, setInterruptEnable,
      sendMessage_when (c := !s.link.intEnable && v.getLsbD 0 && s.exch.attention != 0) (by simp [and_assoc])]
    simp [h.2, and_assoc]
  · have hsame : v ||| 2 = v := by
      rw [show (2 : Word) = BitVec.twoPow 32 1 from rfl]
      ext i hi
      simp only [BitVec.getElem_or, BitVec.getElem_twoPow, Bool.or_eq_left_iff_imp, decide_eq_true_eq]
      rintro rfl
      exact hv
    rw [hcontrol, hreset, hsame]
  · rw [hignored, registerWrite, if_neg (by rintro ⟨hw, hb⟩; simp [hw, hb] at hne)]
  · change BitVec.ofNat 32 (flag s.link.intEnable) = _
    cases s.link.intEnable <;> rfl
  · have hne : ∀ n : Nat, n ≤ 2 → word ≠ BitVec.ofNat 10 n := fun n hn he => by
      rw [he, BitVec.toNat_ofNat] at hw
      omega
    have h0 : word ≠ 0 := hne 0 (by omega)
    have h1 : word ≠ 1 := hne 1 (by omega)
    have h2 : word ≠ 2 := hne 2 (by omega)
    rw [readRegister, if_neg h0, if_neg h1, if_neg h2]
  · change (statusRegister s).extractLsb' 2 2 = _
    rw [hband]
    cases s.power.band <;> rfl
  · change (statusRegister s).extractLsb' 5 2 = _
    rw [hpanel]
    cases s.scanout.panel <;> rfl

end Sys2Proof.Machine
end

section
/-! PROOFS. The words of the Exchange Memory: what a tablet write does by the kind of its word, and what a tablet reads
(R1 to R5, R11, R26). -/

namespace Sys2Proof.Machine

/-! ### Fields inside a word (R26) -/

theorem byteOf_toNat (w : Word) (i : Nat) : (byteOf w i).toNat = w.toNat / 2 ^ (8 * i) % 256 := by
  simp [byteOf, Nat.shiftRight_eq_div_pow]

theorem half_toNat (b0 b1 : Byte) : (half b0 b1).toNat = b0.toNat + 256 * b1.toNat := by
  have h : b0.toNat < 2 ^ 8 := b0.isLt
  rw [half, BitVec.toNat_append, ← Nat.shiftLeft_add_eq_or_of_lt h, Nat.shiftLeft_eq]
  omega

theorem word_toNat (b0 b1 b2 b3 : Byte) :
    (word b0 b1 b2 b3).toNat = b0.toNat + 256 * b1.toNat + 65536 * b2.toNat + 16777216 * b3.toNat := by
  have h2 : b2.toNat < 2 ^ 8 := b2.isLt
  have hlow : (b1 ++ b0 : Half).toNat = b0.toNat + 256 * b1.toNat := half_toNat b0 b1
  have h10 : (b1 ++ b0 : Half).toNat < 2 ^ 16 := (b1 ++ b0 : Half).isLt
  rw [word, BitVec.toNat_append, ← Nat.shiftLeft_add_eq_or_of_lt h10, BitVec.toNat_append,
    ← Nat.shiftLeft_add_eq_or_of_lt h2, hlow, Nat.shiftLeft_eq, Nat.shiftLeft_eq]
  omega

/-- The bytes of a word read as stored. -/
theorem byteOf_word (m : Memory) (a : Nat) {i : Nat} (hi : i < 4) : byteOf (m.word a) i = m.read (a + i) := by
  have hb := fun j => (m.read (a + j)).isLt
  apply BitVec.eq_of_toNat_eq
  rw [byteOf_toNat, Memory.word, word_toNat]
  have h0 := hb 0
  have h1 := hb 1
  have h2 := hb 2
  have h3 := hb 3
  interval_cases i <;> (simp only [Nat.add_zero] at *; omega)

theorem pack16_toNat (lo hi : Nat) : (pack16 lo hi).toNat = lo % 65536 + 65536 * (hi % 65536) := by
  rw [pack16, BitVec.toNat_ofNat]
  omega

/-- The two halves of a packed word. -/
theorem half_pack16_low (lo hi : Nat) : half (byteOf (pack16 lo hi) 0) (byteOf (pack16 lo hi) 1) = BitVec.ofNat 16 lo := by
  apply BitVec.eq_of_toNat_eq
  rw [half_toNat, byteOf_toNat, byteOf_toNat, pack16_toNat, BitVec.toNat_ofNat]
  omega

theorem half_pack16_high (lo hi : Nat) : half (byteOf (pack16 lo hi) 2) (byteOf (pack16 lo hi) 3) = BitVec.ofNat 16 hi := by
  apply BitVec.eq_of_toNat_eq
  rw [half_toNat, byteOf_toNat, byteOf_toNat, pack16_toNat, BitVec.toNat_ofNat]
  omega

/-- The four bytes of a packed word. -/
theorem byteOf_pack8 (b0 b1 b2 b3 : Nat) :
    byteOf (pack8 b0 b1 b2 b3) 0 = BitVec.ofNat 8 b0 ∧ byteOf (pack8 b0 b1 b2 b3) 1 = BitVec.ofNat 8 b1 ∧
    byteOf (pack8 b0 b1 b2 b3) 2 = BitVec.ofNat 8 b2 ∧ byteOf (pack8 b0 b1 b2 b3) 3 = BitVec.ofNat 8 b3 := by
  refine ⟨?_, ?_, ?_, ?_⟩ <;>
  · apply BitVec.eq_of_toNat_eq
    rw [byteOf_toNat, pack8, pack16_toNat, BitVec.toNat_ofNat]
    omega

/-- The upper bytes of a packed word whose high half is a flag. -/
theorem byteOf_pack16_flag (lo : Nat) (b : Bool) :
    byteOf (pack16 lo (flag b)) 2 = (if b then 1 else 0) ∧ byteOf (pack16 lo (flag b)) 3 = 0 := by
  have hb := flag_lt b
  have h2 : byteOf (pack16 lo (flag b)) 2 = BitVec.ofNat 8 (flag b) ∧ byteOf (pack16 lo (flag b)) 3 = BitVec.ofNat 8 0 := by
    constructor <;>
    · apply BitVec.eq_of_toNat_eq
      rw [byteOf_toNat, pack16_toNat, BitVec.toNat_ofNat]
      omega
  exact ⟨h2.1.trans (by cases b <;> rfl), h2.2⟩

theorem ofNat_flag (n : Nat) (b : Bool) : BitVec.ofNat n (flag b) = if b then 1 else 0 := by cases b <;> rfl

/-! ### The kinds of word (R2) -/

theorem wordKind_plain {o : Nat} (h : plainOffset o) : wordKind o = .plain := by
  unfold wordKind slotWordKind Config.slotBase Config.journalBase Config.profileBase
  rcases h with ⟨hlo, hhi, hslot⟩ | hlo
  · rw [inSlot] at hslot
    rw [if_neg (by omega), if_pos hhi, if_neg (by omega), if_pos hslot]
  · rw [if_neg (by omega), if_neg (by omega), if_neg (by omega)]

theorem wordKind_partOwned {o : Nat} (h : partOwnedOffset o) : wordKind o = .partOwned := by
  unfold wordKind headerKind slotWordKind Config.slotBase Config.journalBase Config.profileBase
  rcases h with ⟨hhi, h1, h2, h3, h4⟩ | ⟨hlo, hhi, h0, h4, h1c⟩ | ⟨hlo, hhi⟩
  · rw [if_pos (by omega), if_neg h1, if_neg h2, if_neg h3, if_neg h4, if_neg (by omega)]
  · rw [inSlot] at h0 h4 h1c
    rw [if_neg (by omega), if_pos hhi, if_neg h0, if_neg (by omega)]
  · rw [if_neg (by omega), if_neg (by omega), if_pos hhi]

/-- A state word is guarded, and its slot's record begins there. -/
theorem wordKind_slotState {o : Nat} (hlo : 0x0100 ≤ o) (hhi : o < 0x0500) (h : inSlot o = 0) :
    ∃ k : Fin 16, wordKind o = .guarded (.slotState k) ∧ slotOffset k = o := by
  rw [inSlot] at h
  refine ⟨Fin.ofNat 16 ((o - Config.slotBase) / 64), ?_, ?_⟩
  · unfold wordKind slotWordKind Config.slotBase Config.journalBase
    rw [if_neg (by omega), if_pos hhi, if_pos h]
  · rw [slotOffset_eq, Fin.val_ofNat, Config.slotBase]
    omega

theorem wordKind_guarded {o : Nat} (h : guardedOffset o) : ∃ g, wordKind o = .guarded g := by
  rcases h with rfl | rfl | rfl | rfl | ⟨hlo, hhi, h⟩
  · exact ⟨_, rfl⟩
  · exact ⟨_, rfl⟩
  · exact ⟨_, rfl⟩
  · exact ⟨_, rfl⟩
  · obtain ⟨k, hk, -⟩ := wordKind_slotState hlo hhi h
    exact ⟨_, hk⟩

theorem wordKind_unused {o : Nat} (hlo : 0x0044 ≤ o) (hhi : o < 0x0100) : wordKind o = .unused := by
  unfold wordKind headerKind Config.slotBase
  rw [if_pos hhi, if_neg (by omega), if_neg (by omega), if_neg (by omega), if_neg (by omega), if_pos hlo]

/-! ### What the tablet reads (R4) -/

/-- A byte is a byte of its word (R1, R4). -/
theorem readByte_eq (s : State) {a w i : Nat} (hi : i < 4) (ha : a = 4 * w + i) :
    readByte s a = byteOf (readWord s (4 * w)) i := by
  rw [readByte, show a - a % 4 = 4 * w by omega, show a % 4 = i by omega]

theorem readWord_plain (s : State) {o : Nat} (h : plainOffset o) : readWord s o = s.mem.word o := by
  unfold readWord slotWordKind Config.slotBase Config.journalBase
  rcases h with ⟨hlo, hhi, hslot⟩ | hlo
  · rw [inSlot] at hslot
    simp [show ¬o < 256 by omega, hhi, hslot, show ¬(o - 256) % 64 = 0 by omega]
  · rw [if_neg (by omega), if_neg (by omega)]

/-- A word of a slot record that is not plain reads as the record says. -/
theorem readWord_slot (s : State) (k : Fin 16) {i : Nat} (hi : i < 0x1C) (h4 : i ≠ 4) :
    readWord s (0x0100 + 64 * k.val + i) = slotWord (slot s k) i := by
  have hk := k.isLt
  have hslot : Fin.ofNat 16 ((0x0100 + 64 * k.val + i - 256) / 64) = k := Fin.ext (by rw [Fin.val_ofNat]; omega)
  have hkind : slotWordKind k i ≠ .plain := by
    unfold slotWordKind
    split
    · simp
    · rw [if_neg (by omega)]
      simp
  unfold readWord Config.slotBase Config.journalBase
  rw [if_neg (by omega), if_pos (by omega)]
  dsimp only
  rw [hslot, show (0x0100 + 64 * k.val + i - 256) % 64 = i by omega, if_neg hkind]

theorem readWord_unused (s : State) {o : Nat} (hlo : 0x0044 ≤ o) (hhi : o < 0x0100) : readWord s o = 0 := by
  unfold readWord Config.slotBase headerWord
  rw [if_pos hhi]
  split
  case h_18 => rfl
  all_goals omega

/-- A write of a plain word stores the bytes its enables cover and nothing else (R1, R2). -/
theorem exchangeWrite_plain {s : State} {w : BitVec 14} {be : BitVec 4} {v : Word} (hwf : s.mem.wf = true)
    (h : plainOffset (4 * w.toNat)) :
    ∃ t, exchangeWrite w be v s = t ∧ t = { s with mem := t.mem } ∧
      (∀ i, i < 4 → be.getLsbD i = true → readByte t (4 * w.toNat + i) = byteOf v i) ∧
      (∀ a, (∀ i, i < 4 → be.getLsbD i = true → a ≠ 4 * w.toNat + i) → t.mem.read a = s.mem.read a) := by
  refine ⟨{ s with mem := s.mem.writeWord (4 * w.toNat) be v }, ?_, rfl, fun i hi hbe => ?_, fun a ha => ?_⟩
  · rw [exchangeWrite, show wordKind (offsetOf w) = .plain from wordKind_plain h]
    rfl
  · rw [readByte_eq _ hi rfl, readWord_plain _ h, byteOf_word _ _ hi]
    exact Memory.read_writeWord_at hwf hi hbe
  · exact Memory.read_writeWord_outside hwf ha

/-- The 16-bit fields of a packed word read at their offsets. -/
theorem half_readByte (s : State) {w lo hi : Nat} (hw : readWord s (4 * w) = pack16 lo hi) :
    half (readByte s (4 * w)) (readByte s (4 * w + 1)) = BitVec.ofNat 16 lo ∧
      half (readByte s (4 * w + 2)) (readByte s (4 * w + 3)) = BitVec.ofNat 16 hi := by
  have hbyte : ∀ i, i < 4 → readByte s (4 * w + i) = byteOf (readWord s (4 * w)) i := fun i hi => readByte_eq s hi rfl
  have h0 := hbyte 0 (by omega)
  rw [Nat.add_zero] at h0
  rw [h0, hbyte 1 (by omega), hbyte 2 (by omega), hbyte 3 (by omega), hw]
  exact ⟨half_pack16_low lo hi, half_pack16_high lo hi⟩

/-- Settles O17: the writes by the kind of their word, and the reads by the layout of the header and of a slot record. -/
theorem exchangeWritesFollowTheirWord : Obligations.ExchangeWritesFollowTheirWord := by
  constructor
  · intro s w be v h
    have hexec : ∀ be, exec (.exchangeMemoryWrite w be v) s = .next (exchangeWrite w be v s) :=
      fun be => next_whenLinked h (exchangeWrite w be v)
    simp only [hexec]
    refine ⟨fun hwf hplain => ?_, fun hpart => ?_, fun hguarded hbe => ?_, fun hw h1 h2 => ?_,
      fun hlo hhi hslot h0 h1 h8 => ?_, fun hlo hhi => ?_⟩
    · obtain ⟨t, ht, hframe, hstored, hother⟩ := exchangeWrite_plain (be := be) (v := v) hwf hplain
      exact ⟨t, congrArg _ ht, hframe, hstored, hother⟩
    · rw [exchangeWrite, show wordKind (offsetOf w) = .partOwned from wordKind_partOwned hpart]
      rfl
    · obtain ⟨g, hg⟩ := wordKind_guarded hguarded
      rw [exchangeWrite, show wordKind (offsetOf w) = .guarded g from hg]
      simp only [if_neg hbe]
      rfl
    · subst hw
      change Host.Outcome.next (sessionWrite v s) = _
      rw [sessionWrite, if_neg h1, if_neg h2]
      rfl
    · obtain ⟨k, hk, hoffset⟩ := wordKind_slotState hlo hhi hslot
      rw [exchangeWrite, show wordKind (offsetOf w) = .guarded (.slotState k) from hk]
      simp only [if_true, guardedWrite, slotStateWrite, if_neg h0, if_neg h1, if_neg h8, hoffset]
      rfl
    · rw [exchangeWrite, show wordKind (offsetOf w) = .unused from wordKind_unused hlo hhi]
  · intro s at16
    have hbyte : ∀ w i, i < 4 → readByte s (4 * w + i) = byteOf (readWord s (4 * w)) i := fun w i hi => readByte_eq s hi rfl
    have hstart := byteOf_pack8 s.power.startCause.code s.power.prior.code s.power.dipCount 0
    have hlight := byteOf_pack8 s.light.output s.light.keyLight s.scanner.vib s.composer.held.length
    have hepisode := byteOf_pack16_flag s.journal.lost s.journal.episode
    refine ⟨hbyte, rfl, ofNat_flag 32 _, rfl, rfl, rfl, rfl, ofNat_flag 32 _, (half_readByte s (w := 7) rfl).1,
      (hbyte 7 2 (by omega)).trans hepisode.1, (hbyte 7 3 (by omega)).trans hepisode.2, rfl, rfl,
      (half_readByte s (w := 10) rfl).1, (half_readByte s (w := 10) rfl).2.trans (by simp),
      (hbyte 11 0 (by omega)).trans (hstart.1.trans ?_), (hbyte 11 1 (by omega)).trans (hstart.2.1.trans ?_),
      (hbyte 11 2 (by omega)).trans hstart.2.2.1, (hbyte 11 3 (by omega)).trans hstart.2.2.2, rfl,
      (half_readByte s (w := 13) rfl).1.trans (by simp), (half_readByte s (w := 13) rfl).2,
      (half_readByte s (w := 14) rfl).1, (half_readByte s (w := 14) rfl).2.trans (by simp),
      (hbyte 15 0 (by omega)).trans hlight.1, (hbyte 15 1 (by omega)).trans hlight.2.1,
      (hbyte 15 2 (by omega)).trans hlight.2.2.1, (hbyte 15 3 (by omega)).trans hlight.2.2.2, rfl,
      fun w hlo hhi => readWord_unused s hlo hhi, fun k => ?_, fun w hlo => ?_⟩
    · cases s.power.startCause <;> rfl
    · cases s.power.prior <;> rfl
    · intro o
      have hword : ∀ i, i < 0x1C → i ≠ 4 → readWord s (o + i) = slotWord (slot s k) i :=
        fun i hi h4 => readWord_slot s k hi h4
      have hcodes := byteOf_pack8 (slot s k).code.toByte.toNat (slot s k).flags.toNat 0 0
      have hcode : ∀ i, i < 4 → readByte s (o + 8 + i) =
          byteOf (pack8 (slot s k).code.toByte.toNat (slot s k).flags.toNat 0 0) i := fun i hi => by
        rw [readByte_eq s (w := 66 + 16 * k.val) hi (by omega), show 4 * (66 + 16 * k.val) = o + 8 by omega,
          hword 8 (by omega) (by omega)]
        rfl
      refine ⟨(hword 0 (by omega) (by omega)).trans ?_, (hcode 0 (by omega)).trans (hcodes.1.trans ?_),
        (hcode 1 (by omega)).trans (hcodes.2.1.trans (by simp)), (hcode 2 (by omega)).trans hcodes.2.2.1,
        (hcode 3 (by omega)).trans hcodes.2.2.2, hword 0x0C (by omega) (by omega), hword 0x10 (by omega) (by omega),
        hword 0x14 (by omega) (by omega), hword 0x18 (by omega) (by omega), fun i hi => readWord_plain s (.inl ?_)⟩
      · cases hk : (slot s k).state <;> simp [slotWord, SlotState.toWord, hk]
      · cases (slot s k).code <;> rfl
      · have := k.isLt
        rw [inSlot]
        omega
    · unfold readWord Config.slotBase Config.journalBase
      rw [if_neg (by omega), if_neg (by omega)]

end Sys2Proof.Machine
end

section
/-! PROOFS. The session opens and ends (R5 to R8, R84 to R88). -/

namespace Sys2Proof.Machine

/-! ### Records put at the places of a run of sequence numbers (R73, R74) -/

theorem putRecords_eq (seq : Word) (rs : List Rec) (s : State) :
    putRecords seq rs s = { s with mem := (putRecords seq rs s).mem } := by
  induction rs generalizing seq s with
  | nil => rfl
  | cons r rs ih =>
    rw [putRecords, ih]
    rfl

/-- A byte outside the places of the run reads as before. -/
theorem read_putRecords_outside (seq : Word) (rs : List Rec) {s : State} (h : s.mem.wf = true) {a : Nat}
    (ha : ∀ i, i < rs.length →
      a < recordOffset (seq + BitVec.ofNat 32 i) ∨ recordOffset (seq + BitVec.ofNat 32 i) + 16 ≤ a) :
    (putRecords seq rs s).mem.read a = s.mem.read a := by
  induction rs generalizing seq s with
  | nil => rfl
  | cons r rs ih =>
    have hfirst : a < recordOffset seq ∨ recordOffset seq + 16 ≤ a := by simpa using ha 0 (by simp)
    rw [putRecords, ih (seq + 1) (putRecord_wf seq r h) fun i hi => ?_, read_putRecord seq r h hfirst]
    have hnext : seq + BitVec.ofNat 32 (i + 1) = seq + 1 + BitVec.ofNat 32 i := by
      rw [Nat.add_comm, BitVec.ofNat_add, BitVec.add_assoc]
      rfl
    simpa [hnext] using ha (i + 1) (by simpa using hi)

/-- The places of up to 256 sequence numbers in a row are apart. -/
theorem recordOffset_apart (seq : Word) {i j : Nat} (hij : i < j) (hj : j < 256) :
    recordOffset (seq + BitVec.ofNat 32 i) + 16 ≤ recordOffset (seq + BitVec.ofNat 32 j) ∨
      recordOffset (seq + BitVec.ofNat 32 j) + 16 ≤ recordOffset (seq + BitVec.ofNat 32 i) := by
  simp only [recordOffset, Config.ringSize, BitVec.toNat_add, BitVec.toNat_ofNat]
  omega

/-- Every record of a run of up to 256 reads back whole. -/
theorem recordAt_putRecords (seq : Word) (rs : List Rec) {s : State} (h : s.mem.wf = true) (hlen : rs.length ≤ 256) {i : Nat}
    (hi : i < rs.length) : recordAt (putRecords seq rs s).mem (seq + BitVec.ofNat 32 i) s.power.dockTime rs[i] := by
  induction rs generalizing seq s i with
  | nil => simp at hi
  | cons r rs ih =>
    have hnext : ∀ i, seq + BitVec.ofNat 32 (i + 1) = seq + 1 + BitVec.ofNat 32 i := fun i => by
      rw [Nat.add_comm, BitVec.ofNat_add, BitVec.add_assoc]
      rfl
    rw [List.length_cons] at hlen hi
    rw [putRecords]
    cases i with
    | succ i =>
      rw [hnext]
      exact ih (seq + 1) (putRecord_wf seq r h) (by omega) (by omega)
    | zero =>
      have hkept : ∀ j, j < 16 → (putRecords (seq + 1) rs (putRecord seq r s)).mem.read (recordOffset seq + j) =
          (putRecord seq r s).mem.read (recordOffset seq + j) := fun j hj => by
        refine read_putRecords_outside (seq + 1) rs (putRecord_wf seq r h) fun i hi => ?_
        rw [← hnext]
        have hapart := recordOffset_apart seq (i := 0) (j := i + 1) (by omega) (by omega)
        simp only [BitVec.add_zero] at hapart
        omega
      rw [BitVec.ofNat_eq_ofNat, BitVec.add_zero]
      calc (putRecords (seq + 1) rs (putRecord seq r s)).mem.reads (recordOffset seq) 16
          = (putRecord seq r s).mem.reads (recordOffset seq) 16 :=
            List.map_congr_left fun j hj => hkept j (List.mem_range.mp hj)
        _ = recordBytes seq (now s) r := reads_putRecord seq r h

/-- A group written with the mark unarmed: the records, Head, and the end of an episode, with no cause raised (R85). -/
theorem writeGroup_unarmed {s : State} (h : s.journal.armed = false) :
    writeGroup s = { s with
      mem := (putRecords s.journal.head (resyncGroup s) s).mem,
      journal.head := s.journal.head + BitVec.ofNat 32 (1 + s.composer.held.length), journal.episode := false } := by
  rw [writeGroup, putRecords_eq]
  simp [advanceHead, testMark, h]

/-- The records of a RESYNC group (R84). -/
theorem resyncGroup_length (s : State) : (resyncGroup s).length = 1 + s.composer.held.length := by
  simp [resyncGroup, mapFrom_length, Nat.add_comm]

theorem resyncGroup_held (s : State) {i : Nat} (hi : i < s.composer.held.length)
    (hi' : i + 1 < (resyncGroup s).length) : (resyncGroup s)[i + 1] =
      ⟨.held, some s.composer.held[i], usageOf s s.composer.held[i], snapshot s, 0, BitVec.ofNat 16 (i + 1)⟩ := by
  rw [← Option.some_inj, ← List.getElem?_eq_getElem]
  simp only [resyncGroup, List.getElem?_cons_succ, mapFrom_getElem?, List.getElem?_eq_getElem hi, Option.map_some,
    Nat.add_comm 1 i]

/-- Settles O18: the opening state with its RESYNC group, written from sequence number 0 on. -/
theorem sessionOpenWritesResyncGroup : Obligations.SessionOpenWritesResyncGroup := by
  intro s h hclosed hdocked hwf hheld
  have hopens : exec .sessionOpen s = .next (openSession s) := by
    have hwrite : sessionWrite 1 s = openSession s := by simp [sessionWrite, hclosed, hdocked]
    rw [← hwrite]
    exact next_whenLinked h (sessionWrite 1)
  let u := { openExchange s with journal := Journal.start }
  have hgroup : openSession s = { u with
      mem := (putRecords 0 (resyncGroup u) u).mem,
      journal := ⟨BitVec.ofNat 32 (1 + s.composer.held.length), 0, 0, false, 0, false⟩ } := by
    rw [openSession, journalOpen, writeGroup_unarmed rfl]
    simp [u, Journal.start, openExchange]
  have hmem : (openSession s).mem = (putRecords 0 (resyncGroup u) u).mem := by rw [hgroup]
  have hzero : ∀ i, (0 : Word) + BitVec.ofNat 32 i = BitVec.ofNat 32 i := fun i => BitVec.zero_add _
  have hrecords : ∀ i (hi : i < (resyncGroup u).length),
      recordAt (openSession s).mem (BitVec.ofNat 32 i) s.power.dockTime (resyncGroup u)[i] := fun i hi => by
    have hlen : (resyncGroup u).length ≤ 256 := by
      rw [resyncGroup_length]
      change 1 + s.composer.held.length ≤ 256
      omega
    rw [hmem, ← hzero]
    exact recordAt_putRecords 0 (resyncGroup u) (s := u) hwf hlen hi
  refine ⟨_, hopens, ?_, hrecords 0 (by simp [resyncGroup_length]), fun i hi => ?_, fun a ha => ?_⟩
  · rw [hmem]
    exact hgroup
  · have hi' : i + 1 < (resyncGroup u).length := by
      rw [resyncGroup_length]
      change i + 1 < 1 + s.composer.held.length
      omega
    have hrecord := hrecords (i + 1) hi'
    rw [resyncGroup_held u hi hi'] at hrecord
    exact hrecord
  · rw [hmem]
    refine read_putRecords_outside 0 _ (s := u) hwf fun i hi => ?_
    rw [resyncGroup_length] at hi
    change i < 1 + s.composer.held.length at hi
    rw [hzero]
    simp only [recordOffset, Config.journalBase, Config.ringSize, BitVec.toNat_ofNat]
    omega

/-! ### The session end (R8) -/

/-- The engine after a session end: FREE or paused work is over, a row in progress is abandoned (R120). -/
theorem abandonPicture_picture (s : State) : (abandonPicture s).picture = (match s.picture.work with
    | .free => { s.picture with job := none }
    | .paused => emptyEngine s
    | .row | .stopping => { s.picture with job := none, work := .stopping, abandon := true }) := by
  unfold abandonPicture
  split <;> simp_all [emptyEngine, Picture.cleared]

/-- A session end, field by field. -/
theorem closeSession_eq (s : State) : closeSession s = { s with
    exch := { s.exch with sessionOpen := false, slots := s.exch.slots.map (fun r => { r with state := .free }),
                          queue := [], attention := 0, settingsJob := none },
    profile := { s.profile with staged := none, job := none },
    picture := (abandonPicture s).picture,
    scanout := { s.scanout with presented := false, waiting := none,
                                carry := s.scanout.carry.map (fun c => { c with abandoned := true }) } } := by
  cases hw : s.picture.work <;>
    simp [closeSession, abandonWork, abandonProfile, abandonPresent, abandonPicture, stopPicture, freeSlots, hw]

theorem intx_of_no_attention {s : State} (h : s.exch.attention = 0) : intx s = false := by simp [intx, h]

/-- Settles O19: the session end field by field, and the other session requests. -/
theorem sessionCloseFreesEverySlot : Obligations.SessionCloseFreesEverySlot := by
  have hclose : ∀ s, Linked s → exec .sessionClose s = .next (endSession s) := fun s h =>
    next_whenLinked h (sessionWrite 2)
  have hopen : ∀ s, Linked s → exec .sessionOpen s = .next (sessionWrite 1 s) := fun s h =>
    next_whenLinked h (sessionWrite 1)
  constructor
  · intro s h ho
    have hend : endSession s = closeSession s := by simp [endSession, ho]
    rw [hclose s h, hend, closeSession_eq]
    exact ⟨_, rfl, rfl, abandonPicture_picture s, intx_of_no_attention rfl⟩
  · intro s h
    rw [hclose s h, hopen s h]
    refine ⟨fun ho => ?_, fun hc hd => ?_, fun hc => ?_, ofNat_flag 32 _⟩
    · simp [sessionWrite, ho]
    · simp [sessionWrite, hc, hd, refuse_eq_afterRefusal]
    · simp [endSession, hc]

end Sys2Proof.Machine
end

section
/-! PROOFS. The starts of the part: cold start, supply dip start after a trip, and function reset (R23, R24, R169, R176,
R177). -/

namespace Sys2Proof.Machine

/-! ### The state after a start -/

theorem key_start (p : Fin 128) : keyOf Composer.start.keys p = KeyRec.start := by
  exact List.getD_replicate _ p.isLt

theorem slot_start (k : Fin 16) : Exchange.start.slots.getD k.val SlotRec.zero = SlotRec.zero := by
  exact List.getD_replicate _ k.isLt

theorem alertFeed_start {s : State} (h : s.composer.keys = Composer.start.keys) : alertFeed s = false := by
  rw [alertFeed, h]
  simp [Composer.start, KeyRec.start]

/-- The ranges hold of the default profile (R90, R91). -/
theorem profileRanges_default : ProfileRanges Profile.default :=
  ⟨by decide, by decide, by decide, by decide, by decide, by decide, rfl, rfl⟩

theorem heldInv_reset : HeldInv State.reset := by
  have hkey : ∀ p, key State.reset p = KeyRec.start := key_start
  refine ⟨rfl, List.nodup_nil, Nat.zero_le _, fun p => ?_, fun p _ => ?_, fun p hp => by cases hp⟩
  · rw [hkey]
    exact ⟨fun hm => (by cases hm), fun hd => by cases hd⟩
  · rw [hkey]
    rfl

theorem scannerInv_reset : ScannerInv State.reset := by
  refine ⟨profileRanges_default, (fun st hst => by cases hst), by decide, by decide, fun k hk => ?_, by decide, by decide,
    by decide, fun _ => ⟨rfl, rfl⟩, (fun hs => by cases hs)⟩
  rw [List.eq_of_mem_replicate hk]
  exact Nat.zero_le _

theorem lightInv_reset : LightInv State.reset :=
  ⟨rfl, fun _ => ⟨rfl, rfl⟩, by decide, by decide, rfl⟩

/-- Settles O12: block by block. -/
theorem invariantsHoldAtReset : Obligations.InvariantsHoldAtReset := by
  refine ⟨⟨rfl, rfl, rfl, rfl⟩, heldInv_reset, ⟨by decide, by decide, by decide⟩, lightInv_reset, scannerInv_reset, ?_,
    oneTake_of_queue_nil rfl, ⟨rfl, rfl, by decide, by decide, by decide⟩, ⟨by decide, ?_, ?_⟩⟩
  · exact (exchangeInv_iff _).mpr (freshStart_workInv openInputs State.reset)
  · intro r hr
    cases hr
  · intro r hr
    cases hr

/-- Settles O59: the start state field by field, with the pins its blocks give. -/
theorem coldStartGivesTheStartState : Obligations.ColdStartGivesTheStartState := by
  intro s levels
  refine ⟨_, rfl, rfl, fun _ => rfl, rfl, rfl, slot_start, rfl, rfl, key_start, ?_⟩
  have hlamps : lampStates (coldStart levels s) = 0 := by
    have hlit : (coldStart levels s).light.lamps = 0 := rfl
    have hdrive : (coldStart levels s).lines.drive = false := rfl
    have halert : alertFeed (coldStart levels s) = false := alertFeed_start rfl
    simp [lampStates, hlit, hdrive, halert]
  have hpins : pins (coldStart levels s) = ⟨true, false, false, 0, 0, 0, 0, false, false⟩ := by
    simp only [pins, hlamps]
    rfl
  exact ⟨rfl, rfl, rfl, rfl, rfl, rfl, rfl, rfl, rfl, rfl, rfl, rfl, rfl, rfl, rfl, rfl, rfl, rfl, rfl, rfl, rfl, rfl, rfl,
    rfl, hpins⟩

/-! ### The hold (R169, R178) -/

/-- While the part is held nothing but a start and the level of a line has an effect (R169). -/
theorem exec_held {c : Instr} {s : State} (h : s.power.held = true) (hdip : c ≠ .supplyDipStart)
    (hcold : ∀ l, c ≠ .coldStart l) (hline : ∀ line high, c ≠ .lineEdge line high) : exec c s = .next s := by
  cases c
  case supplyDipStart => exact absurd rfl hdip
  case coldStart levels => exact absurd rfl (hcold levels)
  case lineEdge line high => exact absurd rfl (hline line high)
  case exchangeMemoryWrite | sessionOpen | sessionClose | post | cancel | free | attentionAcknowledge
      | journalTakenWrite | notifyMarkWrite | interruptEnableWrite | functionReset | registerWriteIgnored
      | msiEnableChange | interruptDisableChange | busMasteringChange | hostReadCompletion =>
    exact congrArg _ (whenLinked_held _ h)
  all_goals exact congrArg _ (whenRunning_held _ h)

theorem pins_held {s : State} (h : s.power.held = true) : pins s = Pins.safe := by simp [pins, h]

/-- A supply dip start of a part that is not held after a trip does nothing. -/
theorem exec_supplyDipStart_of_not_tripped {s : State} (h : s.power.held = false ∨ s.power.poweringUp = true) :
    exec .supplyDipStart s = .next s := by
  have hgate : (s.power.held && !s.power.poweringUp) = false := by rcases h with h | h <;> simp [h]
  change Host.Outcome.next (if (s.power.held && !s.power.poweringUp) = true then dipStart s else s) = _
  simp [hgate]

/-- Settles O58: the trip, the start that follows it, and the hold of a power-up. -/
theorem tripHoldsUntilTheDipStart : Obligations.TripHoldsUntilTheDipStart := by
  refine ⟨fun s h => ?_, fun s => ⟨fun hheld hup hwf => ?_, exec_supplyDipStart_of_not_tripped⟩, fun levels => ?_⟩
  · have hheld : (trip s).power.held = true := rfl
    refine ⟨trip s, next_whenRunning h trip, rfl, rfl, rfl, endSession_closed s, rfl, rfl, pins_held hheld, by simp,
      by simp [trip], fun c => exec_held hheld⟩
  · refine ⟨dipStart s, ?_, rfl, fun a ha => ?_, fun a ha => ?_⟩
    · change Host.Outcome.next (if (s.power.held && !s.power.poweringUp) = true then dipStart s else s) = _
      simp [hheld, hup]
    · change (s.mem.clear 0 0x0500).read a = 0
      rw [Memory.read_clear hwf, if_pos ⟨Nat.zero_le _, ha⟩]
      rfl
    · change (s.mem.clear 0 0x0500).read a = _
      rw [Memory.read_clear hwf, if_neg (by omega)]
  · refine ⟨rfl, rfl, fun c hcold hline => ?_, fun l => rfl⟩
    by_cases hdip : c = .supplyDipStart
    · rw [hdip]
      exact exec_supplyDipStart_of_not_tripped (.inr rfl)
    · exact exec_held rfl hdip hcold hline

end Sys2Proof.Machine
end

section
/-! PROOFS. The function reset (R23): what stands in work, then every block. -/

namespace Sys2Proof.Machine

/-! ### What stands in work -/

/-- The engine of abandoned work whose reads are given up: a row whose write has begun runs to its end (R120). -/
def endedEngine (s : State) : Picture :=
  match s.picture.work with
  | .free => { s.picture with job := none }
  | .paused => emptyEngine s
  | .row | .stopping =>
    if s.picture.writing then { s.picture with job := none, work := .stopping, abandon := true } else emptyEngine s

theorem giveUpReads_abandonPicture_picture (s : State) :
    (giveUpReads (abandonPicture s)).picture = endedEngine s := by
  cases hw : s.picture.work <;> cases hwriting : s.picture.writing <;>
    simp [giveUpReads, abandonPicture, endedEngine, emptyEngine, stopPicture, Picture.cleared, Picture.start, hw, hwriting]

/-- Work that is abandoned twice, as by a session end and a reset together, is abandoned as once. -/
theorem endedEngine_endSession (s : State) : endedEngine (endSession s) = endedEngine s := by
  unfold endSession
  split
  · have hpicture : (closeSession s).picture = (abandonPicture s).picture := closeSession_picture s
    simp only [endedEngine, emptyEngine, hpicture, abandonPicture_picture]
    cases hw : s.picture.work <;> simp [Picture.start]
  · rfl

theorem workReset_picture (s : State) : (workReset s).picture = endedEngine s := by
  rw [← endedEngine_endSession, ← giveUpReads_abandonPicture_picture]
  rfl

/-- A carry copy after a reset: the row in progress runs to its end (R137, R138). -/
def stoppedCarry (s : State) : Option Carry :=
  match s.scanout.carry with
  | none => none
  | some c => if c.inRow then some { c with abandoned := c.abandoned || s.exch.sessionOpen, stopping := true } else none

theorem workReset_scanout {s : State} (h : ExchangeInv s) : (workReset s).scanout = { s.scanout with
    presented := false, waiting := none, carry := stoppedCarry s } := by
  have hkept : (giveUpReads (abandonPicture (endSession s))).scanout = (endSession s).scanout := by simp
  simp only [workReset, stopCarry, hkept]
  cases ho : s.exch.sessionOpen with
  | true =>
    have hend : endSession s = closeSession s := by simp [endSession, ho]
    simp only [hend, closeSession_eq, stoppedCarry, ho]
    cases s.scanout.carry <;> simp
  | false =>
    have hend : endSession s = s := by simp [endSession, ho]
    have hwork := (exchangeInv_iff s).mp h
    have hwaiting : s.scanout.waiting = none := by
      by_contra hw
      simpa [(jobs_of_closed hwork ho).1] using h.waiting (Option.isSome_iff_ne_none.mpr hw)
    have hpresented := h.closedPresented ho
    cases hcarry : s.scanout.carry <;> simp [hend, stoppedCarry, ho, hcarry, hwaiting, hpresented]

/-! ### The panel and the light -/

/-- With the wish ON and the power state ACTIVE the panel test starts a panel that is OFF, and no other (R123, R138). -/
theorem panelReset_eq {s : State} (h : s.power.standby = false) : panelReset s =
    if s.scanout.panel = .off then startPanel { s with scanout.wish := true, scanout.presented := false }
    else { s with scanout.wish := true, scanout.presented := false } := by
  cases hp : s.scanout.panel <;> simp [panelReset, panelTest, wanted, h, hp]

/-- The panel of a function reset leaves everything but the scanout and the light. -/
theorem panelReset_scanout {s : State} (h : s.power.standby = false) : (panelReset s).scanout = { s.scanout with
    wish := true, presented := false,
    panel := if s.scanout.panel = .off then .starting else s.scanout.panel,
    stage := if s.scanout.panel = .off then some .rails else s.scanout.stage,
    stageEnds := if s.scanout.panel = .off then s.power.dockTime + ms 20 else s.scanout.stageEnds } := by
  rw [panelReset_eq h]
  split
  · simp [startPanel, enterStage, after, now, Stage.time]
  · rfl

theorem panelReset_rest {s : State} (h : s.power.standby = false) : (panelReset s).link = s.link ∧
    (panelReset s).exch = s.exch ∧ (panelReset s).picture = s.picture ∧ (panelReset s).power = s.power ∧
    (panelReset s).light.ambient = s.light.ambient ∧
    (s.scanout.panel = .on → (panelReset s).light.output = s.light.output) := by
  rw [panelReset_eq h]
  split
  · next hp => simp [startPanel, enterStage, hp]
  · simp

theorem lightFunctionReset_light (s : State) : (lightFunctionReset s).light.settings = LightSettings.default ∧
    (lightFunctionReset s).light.idle = .running ∧
    (lightFunctionReset s).light.idleEnds = s.power.dockTime + ms 120000 ∧
    (lightFunctionReset s).light.ambient = s.light.ambient ∧ (lightFunctionReset s).light.lamps = 0 ∧
    (lightFunctionReset s).light.keyLight = (lightFunctionReset s).light.output * 8 / 16 ∧
    (immediate s = false → (lightFunctionReset s).light.output = s.light.output) := by
  refine ⟨by simp [lightFunctionReset], by simp [lightFunctionReset], by simp [lightFunctionReset, after, now],
    by simp [lightFunctionReset], by simp [lightFunctionReset], ?_, fun hi => ?_⟩
  · simp [lightFunctionReset, keyLightLevel, LightSettings.default]
  · simp only [lightFunctionReset, setOutput_light, recompute_output]
    exact if_neg (ne_true_of_eq_false hi)

/-! ### The whole reset -/

/-- The state of a function reset before the panel and the light. -/
def beforePanelReset (s : State) : State :=
  powerReset (priorOf s) (settingsReset (keyPathReset (exchangeReset (workReset s))))

theorem resetFunction_eq (s : State) : resetFunction s = lightFunctionReset (panelReset (beforePanelReset s)) := rfl

theorem beforePanelReset_eq {s : State} (h : ExchangeInv s) : beforePanelReset s = { s with
    mem := keptMemory s, link.intEnable := false, exch := Exchange.start, journal := Journal.start,
    scanner := { Scanner.start with passAt := now s, driven := s.scanner.driven },
    composer := { Composer.start with downAt := now s }, profile := ProfileUnit.start, picture := endedEngine s,
    scanout := { s.scanout with
      presented := false, waiting := none, carry := stoppedCarry s, driveBlanking := true },
    measure := { s.measure with converting := .none, ambientPending := false, history := [] },
    lines.parkTime := 500,
    power := { s.power with
      standby := false, lingerEnds := if s.lines.ignOn then none else some (after s 1800000), lingerMin := 30,
      lingerSources := 0b101#3, keyWake := true, swallow := true, dockWake := true, latchWake := false,
      startCause := .functionReset, prior := priorOf s } } := by
  simp [beforePanelReset, powerReset, settingsReset, keyPathReset, exchangeReset, keptMemory, now, after,
    workReset_picture, workReset_scanout h]

theorem setInterruptEnable_eq (on : Bool) (s : State) :
    ∃ m, setInterruptEnable on s = { s with link.intEnable := on, link.messages := m } := by
  rw [setInterruptEnable, sendMessage_when (c := !s.link.intEnable && on && s.exch.attention != 0) (by simp [and_assoc])]
  exact ⟨_, rfl⟩

/-- Settles O60: what stands in work, the panel and the light by their lemmas, every other block as its reset says. -/
theorem functionResetStartsTheBlocks : Obligations.FunctionResetStartsTheBlocks := by
  intro s v hinv h hwf
  obtain ⟨m, hm⟩ := setInterruptEnable_eq ((v ||| 2).getLsbD 0) s
  let u : State := { s with link.intEnable := (v ||| 2).getLsbD 0, link.messages := m }
  have hexec : exec (.functionReset v) s = .next (resetFunction u) := by
    have hreset : controlWrite (v ||| 2) s = resetFunction u := by
      rw [controlWrite, hm]
      exact if_pos (by simp)
    rw [← hreset]
    exact next_whenLinked h (controlWrite (v ||| 2))
  have hu : ExchangeInv u := (exchangeInv_iff u).mpr (((exchangeInv_iff s).mp hinv).same rfl rfl rfl rfl rfl rfl)
  have hactive : (beforePanelReset u).power.standby = false := rfl
  obtain ⟨hlink, hexch, hpicture, hpower, hambient, houtput⟩ := panelReset_rest hactive
  have hscanout := panelReset_scanout hactive
  have hbefore := beforePanelReset_eq hu
  obtain ⟨hsettings, hidle, hends, hamb, hlamps, hkey, hdark⟩ := lightFunctionReset_light (panelReset (beforePanelReset u))
  have hmem : (lightFunctionReset (panelReset (beforePanelReset u))).mem = s.mem.clear 0 0x0500 := by
    simp only [lightFunctionReset_keeps, panelReset_keeps, hbefore]
    rfl
  have hpower' := hpower.trans (congrArg State.power hbefore)
  rw [hexec, resetFunction_eq]
  refine ⟨_, rfl, ?_, ?_, ?_, fun a ha => ?_, fun a ha => ?_, ?_, ?_, ?_, ?_, ?_, ?_, ?_, hsettings, hidle, ?_, ?_, hlamps,
    hkey, fun hon hband => ?_, ?_, ?_⟩
  · simp only [lightFunctionReset_keeps, hlink.trans (congrArg State.link hbefore)]
    rfl
  · simp only [lightFunctionReset_keeps, hexch.trans (congrArg State.exch hbefore)]
  · simp [hbefore, Journal.start]
  · rw [hmem, Memory.read_clear hwf, if_pos ⟨Nat.zero_le a, ha⟩]
    rfl
  · rw [hmem, Memory.read_clear hwf, if_neg (by omega)]
  · simp only [lightFunctionReset_keeps, panelReset_keeps, hbefore]
    rfl
  · simp only [lightFunctionReset_keeps, panelReset_keeps, hbefore]
    rfl
  · simp [hbefore, ProfileUnit.start]
  · simp only [lightFunctionReset_keeps, panelReset_keeps, hbefore]
    rfl
  · rw [hbefore] at hscanout
    simp only [lightFunctionReset_keeps, hbefore, hscanout]
    rfl
  · simp only [lightFunctionReset_keeps, hpicture.trans (congrArg State.picture hbefore)]
    rfl
  · simp only [lightFunctionReset_keeps, panelReset_keeps, hbefore]
    rfl
  · rw [hends, hpower, hbefore]
  · rw [hamb, hambient, hbefore]
  · have hpanel : (beforePanelReset u).scanout.panel = .on := by
      rw [hbefore]
      exact hon
    have hnotdark : immediate (panelReset (beforePanelReset u)) = false := by
      simp [immediate, dark, hscanout, hpanel, hpower', show u.power.band ≠ .crank from hband]
    rw [hdark hnotdark, houtput hpanel, hbefore]
  · simp only [lightFunctionReset_keeps, panelReset_keeps, hbefore]
    rfl
  · simp only [lightFunctionReset_keeps, hpower']
    rfl

end Sys2Proof.Machine
end

section
/-! PROOFS. The end of a row write and of clearing (R17, R106, R112, R117). -/

namespace Sys2Proof.Machine

/-! ### Pixels as bytes (R105, R117) -/

/-- The bytes of a row of pixels, two for each. -/
theorem flatMap_bytes2_length (px : List Half) : (px.flatMap bytes2).length = 2 * px.length := by
  induction px with
  | nil => rfl
  | cons p px ih =>
    rw [List.flatMap_cons, List.length_append, ih, List.length_cons]
    simp only [bytes2, List.length_cons, List.length_nil]
    omega

theorem flatMap_bytes2_getD (px : List Half) {i : Nat} (hi : i < px.length) :
    (px.flatMap bytes2).getD (2 * i) 0 = px[i].setWidth 8 ∧ (px.flatMap bytes2).getD (2 * i + 1) 0 = (px[i] >>> 8).setWidth 8 := by
  induction px generalizing i with
  | nil => simp at hi
  | cons p px ih =>
    cases i with
    | zero => exact ⟨rfl, rfl⟩
    | succ i => exact ih (by simpa using hi)

theorem half_of_bytes (h : Half) : half (h.setWidth 8) ((h >>> 8).setWidth 8) = h := by
  have hlt := h.isLt
  apply BitVec.eq_of_toNat_eq
  rw [half_toNat]
  simp only [BitVec.toNat_setWidth, BitVec.toNat_ushiftRight, Nat.shiftRight_eq_div_pow]
  omega

/-- A run of pixels stored reads back pixel by pixel. -/
theorem half_writes_pixels {m : Memory} (hwf : m.wf = true) (a : Nat) (px : List Half) {i : Nat} (hi : i < px.length) :
    (m.writes a (px.flatMap bytes2)).half (a + 2 * i) = px[i] := by
  have hlen := flatMap_bytes2_length px
  obtain ⟨hlow, hhigh⟩ := flatMap_bytes2_getD px hi
  rw [Memory.half, Memory.read_writes hwf, Memory.read_writes hwf, if_pos (by omega), if_pos (by omega),
    show a + 2 * i - a = 2 * i by omega, show a + 2 * i + 1 - a = 2 * i + 1 by omega, hlow, hhigh, half_of_bytes]

/-! ### One frame buffer written (R105) -/

theorem Frames.clearing_set (f : Frames) (buf : Buffer) (m : Memory) : (f.set buf m).clearing = f.clearing := by
  cases buf <;> rfl

/-- Settles O46: the row lands by the rules of a memory and of the three buffers; clearing ends by its branches. -/
theorem rowWriteAndClearingEnd : Obligations.RowWriteAndClearingEnd := by
  refine ⟨fun s h hw hwf => ?_, fun s h => ?_⟩
  · have hexec : exec .rowWriteComplete s = .next (look (rowWritten s)) := next_whenRunning h fun s => look (rowWritten s)
    let row := writeRow s.picture.dest s.picture.clip.x0 s.picture.nextRow s.picture.rowPixels s
    have hrow : row.frames.get s.picture.dest = (s.frames.get s.picture.dest).writes
        (s.picture.nextRow * 2560 + 2 * s.picture.clip.x0) (s.picture.rowPixels.flatMap bytes2) := get_set_same _ _ _
    refine ⟨{ row with
      picture.writing := false, picture.rowPixels := [], picture.nextRow := s.picture.nextRow + 1,
      picture.pixels := s.picture.pixels + s.picture.clip.width }, ?_, rfl, rfl, fun i hi => ?_, fun a ha => ?_,
      fun buf hbuf => get_set_other _ _ hbuf, Frames.clearing_set _ _ _⟩
    · rw [hexec, rowWritten, if_pos hw]
    · change (row.frames.get s.picture.dest).half (s.picture.nextRow * 2560 + 2 * (s.picture.clip.x0 + i)) = _
      rw [hrow, Nat.mul_add, ← Nat.add_assoc]
      exact half_writes_pixels hwf _ _ hi
    · change (row.frames.get s.picture.dest).read a = _
      rw [hrow, Memory.read_writes hwf, flatMap_bytes2_length, if_neg (by omega)]
  · have hexec : exec .clearingEnd s = .next (look (endClearing s)) := next_whenRunning h fun s => look (endClearing s)
    rw [hexec]
    refine ⟨fun hc ht => ?_, fun hno => ?_⟩
    · rw [endClearing, if_pos ⟨hc, ht⟩]
    · rw [endClearing, if_neg]
      rintro ⟨hc, ht⟩
      rcases hno with hno | hno
      · simp [hc] at hno
      · exact ht hno

end Sys2Proof.Machine
end

section
/-! PROOFS. The ends of a staged profile (R41, R72, R97, R98, R100). -/

namespace Sys2Proof.Machine

/-! ### What a record can change (R76) -/

/-- From `s` to `t` only the journal, its ring, the causes MARK and LOSS, and the count of messages have moved. -/
def JournalOnly (s t : State) : Prop :=
  ∃ mem journal attention messages,
    t = { s with mem := mem, journal := journal, exch.attention := attention, link.messages := messages } ∧
    attention.getLsbD 1 = s.exch.attention.getLsbD 1

theorem JournalOnly.refl (s : State) : JournalOnly s s := ⟨s.mem, s.journal, s.exch.attention, s.link.messages, rfl, rfl⟩

theorem JournalOnly.trans {s t u : State} (h : JournalOnly s t) (h' : JournalOnly t u) : JournalOnly s u := by
  obtain ⟨mem, journal, attention, messages, rfl, ha⟩ := h
  obtain ⟨mem', journal', attention', messages', rfl, ha'⟩ := h'
  exact ⟨mem', journal', attention', messages', rfl, ha'.trans ha⟩

/-- An update of the journal and its ring. -/
theorem JournalOnly.update (s : State) (mem : Memory) (journal : Journal) :
    JournalOnly s { s with mem := mem, journal := journal } :=
  ⟨mem, journal, s.exch.attention, s.link.messages, rfl, rfl⟩

theorem raise_journalOnly {c : Cause} (hc : c ≠ .slot) (s : State) : JournalOnly s (raise c s) := by
  rw [raise, sendMessage_when (c := s.exch.attention == 0 && s.link.intEnable) (by simp)]
  refine ⟨s.mem, s.journal, _, _, rfl, ?_⟩
  cases c
  case slot => exact absurd rfl hc
  all_goals simp [Cause.bit]

theorem testMark_journalOnly (s : State) : JournalOnly s (testMark s) := by
  unfold testMark
  split
  · exact (JournalOnly.update s s.mem { s.journal with armed := false }).trans (raise_journalOnly (by decide) _)
  · exact .refl s

theorem advanceHead_journalOnly (n : Nat) (s : State) : JournalOnly s (advanceHead n s) :=
  (JournalOnly.update s s.mem _).trans (testMark_journalOnly _)

theorem writeGroup_journalOnly (s : State) : JournalOnly s (writeGroup s) := by
  have hput : JournalOnly s (putRecords s.journal.head (resyncGroup s) s) := by
    rw [putRecords_eq]
    exact .update s _ s.journal
  have hhead := hput.trans (advanceHead_journalOnly (1 + s.composer.held.length) _)
  exact hhead.trans (.update _ _ _)

theorem recoveryTest_journalOnly (s : State) : JournalOnly s (recoveryTest s) := by
  unfold recoveryTest
  split
  · exact writeGroup_journalOnly s
  · exact .refl s

theorem handRecord_journalOnly (r : Rec) (s : State) : JournalOnly s (handRecord r s) := by
  have hdrop : JournalOnly s (dropRecord s) := .update s _ _
  unfold handRecord
  (repeat' split)
  · exact .refl s
  · exact hdrop.trans (recoveryTest_journalOnly _)
  · exact (hdrop.trans (.update _ _ _)).trans (raise_journalOnly (by decide) _)
  · exact (JournalOnly.update s _ s.journal).trans (advanceHead_journalOnly 1 _)

theorem plainRecord_journalOnly (k : RecordKind) (d : Half) (s : State) : JournalOnly s (plainRecord k d s) :=
  handRecord_journalOnly _ s

/-- A record handed over while it can be written stands at Head, and Head counts it (R76, R77). -/
theorem handRecord_written_at (r : Rec) {s : State} (hwf : s.mem.wf = true) (h : Writable 1 s) :
    recordAt (handRecord r s).mem s.journal.head s.power.dockTime r ∧ (handRecord r s).journal.head = s.journal.head + 1 := by
  obtain ⟨hopen, hepisode, hroom⟩ := h
  rw [handRecord_written r hopen hepisode (by omega)]
  constructor
  · rw [(advanceHead_keeps 1 _).2.1]
    exact reads_putRecord s.journal.head r hwf
  · simp

/-- A completion writes its slot's record, attention when notify was yes, and the count of messages (R12, R20). -/
theorem complete_eq (k : Fin 16) (n : Bool) (code : ResultCode) (fl : Byte) (c : Nat) (s : State) :
    ∃ messages, complete k n code fl c s = { s with
      exch := { s.exch with
        slots := s.exch.slots.set k.val (completedSlot s k code.endState code fl c),
        attention := if n then s.exch.attention ||| Cause.bit .slot else s.exch.attention },
      link.messages := messages } := by
  cases n with
  | false => exact ⟨s.link.messages, rfl⟩
  | true =>
    simp only [complete, if_true, raise]
    rw [sendMessage_when (c := s.exch.attention == 0 && s.link.intEnable) (by simp [setSlot])]
    exact ⟨_, rfl⟩

/-! ### The swap (R98) -/

/-- The key of a position after a swap: its integrator alone moves (R41). -/
theorem key_scannerSwap (old : Profile) (s : State) (p : Fin 128) :
    key (scannerSwap old s) p = { key s p with
      integ := swapInteg (s.profile.active.pressBase + if s.profile.active.adaptation then s.scanner.vib else 0)
        (old.classes.getD p.val .plain) (classOf s p) (key s p).integ } := by
  simp only [key, keyOf, scannerSwap, List.getD_eq_getElem?_getD, mapFrom_getElem?, Nat.zero_add, classOf]
  cases s.composer.keys[p.val]? with
  | none => simp [KeyRec.start, swapInteg]
  | some k => rfl

theorem quiet_iff (s : State) : quiet s = true ↔ ∀ k ∈ s.composer.keys, k.state = .up ∨ k.state = .stuck := by
  simp only [quiet, List.all_eq_true]
  refine forall₂_congr fun k _ => ?_
  cases hk : k.state <;> simp [KeyRec.engaged, hk]

/-- The state of a swap after its record, before the completion. -/
theorem swapProfile_eq {s : State} {st : Staged} {j : Job} (hst : s.profile.staged = some st) (hj : s.profile.job = some j) :
    swapProfile st s = completeJob j .ok (clampedFlag st.clamped) 0
      { plainRecord .profile st.profile.tag (stopRepeat (scannerSwap s.profile.active { s with profile.active := st.profile }))
        with profile := ⟨st.profile, none, none⟩ } := by
  simp [swapProfile, finishProfile, hst, hj]

/-- Settles O41: the swap of a quiet table as one record and one completion, and the expiry by its branches. -/
theorem stagedProfileEnds : Obligations.StagedProfileEnds := by
  refine ⟨fun s st j hst hj hlen => ⟨fun hengaged => ?_, fun hquiet => ?_⟩, fun s st j h hst hj => ?_⟩
  · have hno : quiet s = false := by
      rw [← Bool.not_eq_true, quiet_iff]
      intro hquiet
      obtain ⟨k, hk, hstate⟩ := hengaged
      rcases hquiet k hk with hk' | hk' <;> simp [hk'] at hstate
    simp [quietTest, hst, hno]
  · let swapped := stopRepeat (scannerSwap s.profile.active { s with profile.active := st.profile })
    have hswap : quietTest s = completeJob j .ok (clampedFlag st.clamped) 0
        { plainRecord .profile st.profile.tag swapped with profile := ⟨st.profile, none, none⟩ } := by
      rw [← swapProfile_eq hst hj]
      simp [quietTest, hst, (quiet_iff s).mpr hquiet]
    have hwritten : swapped.mem.wf = true → Writable 1 swapped →
        recordAt (plainRecord .profile st.profile.tag swapped).mem swapped.journal.head swapped.power.dockTime
            ⟨.profile, none, 0, snapshot swapped, 0, st.profile.tag⟩ ∧
          (plainRecord .profile st.profile.tag swapped).journal.head = swapped.journal.head + 1 :=
      fun hwf hw => handRecord_written_at _ hwf hw
    obtain ⟨mem, journal, attention, messages, hrecord, hattention⟩ :=
      plainRecord_journalOnly .profile st.profile.tag swapped
    rw [hrecord] at hswap hwritten
    obtain ⟨messages', hend⟩ := complete_eq j.slot j.notify .ok (clampedFlag st.clamped) 0
      { swapped with
        mem := mem, journal := journal, exch.attention := attention, link.messages := messages,
        profile := ⟨st.profile, none, none⟩ }
    rw [completeJob, hend] at hswap
    intro t v
    have ht : t = _ := hswap
    rw [ht]
    refine ⟨rfl, rfl, rfl, mapFrom_length _ _ _, fun p => ?_, ?_, ?_, rfl, ?_, fun hwf hw => ?_⟩
    · exact key_scannerSwap s.profile.active { s with profile.active := st.profile } p
    · exact slot_setSlot_same j.slot _ s hlen
    · change (if j.notify then attention ||| Cause.bit .slot else attention).getLsbD 1 = _
      have hkept : attention.getLsbD 1 = s.exch.attention.getLsbD 1 := hattention
      rw [← hkept]
      cases j.notify <;> simp [Cause.bit]
    · change pack16 st.profile.tag.toNat 0 = _
      apply BitVec.eq_of_toNat_eq
      rw [pack16_toNat, BitVec.toNat_ofNat]
      have := st.profile.tag.isLt
      omega
    · exact hwritten hwf hw
  · have hexec : exec .profileWaitExpiry s = .next (look (profileExpiry s)) :=
      next_whenRunning h fun s => look (profileExpiry s)
    rw [hexec]
    refine ⟨fun hdue => ⟨_, ?_, rfl⟩, fun hdue => ?_⟩
    · have hend : profileExpiry s = complete j.slot j.notify .keysHeld (clampedFlag st.clamped) 0
          { s with profile.staged := none, profile.job := none } := by
        simp only [profileExpiry, hst, dueAt, now, hdue, if_true, finishProfile, hj]
        rfl
      rw [hend]
      rfl
    · simp [profileExpiry, hst, dueAt, now, hdue]

end Sys2Proof.Machine
end

section
/-! PROOFS. A slot that a free context takes in the event of its POST (R9, R15), and what ends in such a take (R12). -/

namespace Sys2Proof.Machine

/-! ### The POST of a slot while the queue is empty -/

/-- The state in which a context takes the slot `k` that `s` posts: ACTIVE, and out of the queue. -/
def takenAtPost (k : Fin 16) (s : State) : State :=
  { s with exch := { s.exch with
    slots := s.exch.slots.set k.val ⟨.active, .ok, 0, s.exch.nextPost, 0, 0, 0⟩, nextPost := s.exch.nextPost + 1,
    queue := [] } }

/-- The job that the take makes of the slot (R15, step 3). -/
def jobAtPost (k : Fin 16) (s : State) : Job :=
  ⟨k, s.mem.read (0x0104 + 64 * k.val), s.mem.read (0x0106 + 64 * k.val) != 0, s.mem.reads (0x011C + 64 * k.val) 36, 0⟩

section
variable {s : State} {k : Fin 16}

theorem entryOf_kind : (entryOf k s).kind = s.mem.read (0x0104 + 64 * k.val) := by
  simp only [entryOf, slotOffset_eq, Nat.add_right_comm]

theorem activate_postSlot (hlen : s.exch.slots.length = 16) (hq : s.exch.queue = []) :
    activate (entryOf k s) (postSlot k s) = takenAtPost k s := by
  have hslot : slot (unqueue k (postSlot k s)) k = postedRec s.exch.nextPost := slot_setSlot_same k _ s hlen
  have hactive : (entryOf k s).slot = k := rfl
  rw [activate, hactive, setSlotState, hslot]
  simp [setSlot, unqueue, postSlot, takenAtPost, hq, postedRec, SlotRec.zero, hactive]

theorem jobOf_postSlot : jobOf (entryOf k s) (postSlot k s) = jobAtPost k s := by
  simp only [jobOf, entryOf, slotParams, slotOffset_eq, jobAtPost, Nat.add_right_comm]
  rfl

/-- A look at a queue of one slot makes one take at most. -/
theorem look_single {e : Entry} (hq : s.exch.queue = [e]) : look s = (oneTake s).getD s := by
  rw [look, hq]
  change lookFor 1 s = _
  unfold lookFor
  split
  · next h => simp [h]
  · next t h => simp [h, lookFor]

theorem exec_post (h : Linked s) (ho : s.exch.sessionOpen = true) (hk : (slot s k).state = .free) :
    exec (.post k) s = .next (look (postSlot k s)) := by
  have hwrite : postWrite k s = look (postSlot k s) := if_pos ⟨ho, hk⟩
  rw [← hwrite]
  exact next_whenLinked h (postWrite k)

theorem firstChoice_single (e : Entry) : firstChoice [e] = some e := by
  cases hu : e.urgent <;> simp [firstChoice, hu]

/-- A free SETTINGS context takes a slot of its kinds at the POST. -/
theorem exec_post_settings (h : Linked s) (ho : s.exch.sessionOpen = true) (hk : (slot s k).state = .free)
    (hlen : s.exch.slots.length = 16) (hq : s.exch.queue = []) (hjob : s.exch.settingsJob = none)
    (hkind : isSettingsKind (s.mem.read (0x0104 + 64 * k.val)) = true) :
    exec (.post k) s = .next (takeSettings (jobAtPost k s) (takenAtPost k s)) := by
  have hqueue : (postSlot k s).exch.queue = [entryOf k s] := by simp [postSlot, hq]
  have hnext : nextSettings (postSlot k s) = some (entryOf k s) := by
    rw [nextSettings, hqueue, List.filter_cons_of_pos (by rw [entryOf_kind]; exact hkind), List.filter_nil,
      firstChoice_single]
  have hfree : settingsFree (postSlot k s) = true := by simp [settingsFree, postSlot, setSlot, hjob]
  have htake : settingsTake (postSlot k s) = some (takeBySettings (entryOf k s) (postSlot k s)) := by
    simp [settingsTake, hfree, hnext]
  rw [exec_post h ho hk, look_single hqueue, oneTake, htake, Option.some_or, Option.some_or, Option.getD_some,
    takeBySettings, activate_postSlot hlen hq, jobOf_postSlot]

/-- A free PICTURE context that is not held takes a slot of its kinds at the POST. -/
theorem exec_post_picture (h : Linked s) (ho : s.exch.sessionOpen = true) (hk : (slot s k).state = .free)
    (hlen : s.exch.slots.length = 16) (hq : s.exch.queue = []) (hfree : pictureFree s = true)
    (hheld : pictureHeld s = false) (hkind : isPictureKind (s.mem.read (0x0104 + 64 * k.val)) = true) :
    exec (.post k) s = .next (
      if s.mem.read (0x0104 + 64 * k.val) = kindPresent then takePresent (jobAtPost k s) (takenAtPost k s)
      else takePicture (jobAtPost k s) (s.mem.read (0x0104 + 64 * k.val) == kindFill) (takenAtPost k s)) := by
  have hqueue : (postSlot k s).exch.queue = [entryOf k s] := by simp [postSlot, hq]
  have hother : settingsTake (postSlot k s) = none := by
    rw [settingsTake_eq_none]
    intro _ e he
    rw [hqueue, List.mem_singleton] at he
    simp [he, entryOf_kind, isSettingsKind, hkind]
  have hnext : nextPicture (postSlot k s) = some (entryOf k s) := by
    have heligible : pictureEligible [entryOf k s] = [entryOf k s] := by
      simp [pictureEligible, entryOf_kind, hkind]
    rw [nextPicture, hqueue, heligible, firstChoice_single]
  have htake : pictureTake (postSlot k s) = some (takeByPicture (entryOf k s) (postSlot k s)) := by
    have hopen : (pictureFree (postSlot k s) && !pictureHeld (postSlot k s)) = true := by
      change (pictureFree s && !pictureHeld s) = true
      simp [hfree, hheld]
    simp [pictureTake, hopen, hnext]
  rw [exec_post h ho hk, look_single hqueue, oneTake, hother, htake, Option.none_or, Option.some_or, Option.getD_some,
    takeByPicture, activate_postSlot hlen hq, jobOf_postSlot, entryOf_kind]

/-! ### A slot that ends in its take (R12) -/

/-- A request that the take completes: the slot, attention and the count of messages move, and nothing else. -/
theorem completeJob_takenAtPost (hlen : s.exch.slots.length = 16) (code : ResultCode) (fl : Byte) :
    let t := completeJob (jobAtPost k s) code fl 0 (takenAtPost k s)
    EndsInTake s k code.endState code fl t ∧ t = { s with exch := t.exch, link := t.link } ∧ t.exch.queue = [] ∧
      t.exch.settingsJob = s.exch.settingsJob := by
  intro t
  obtain ⟨messages, ht⟩ := complete_eq k (jobAtPost k s).notify code fl 0 (takenAtPost k s)
  have hslot : slot (takenAtPost k s) k = ⟨.active, .ok, 0, s.exch.nextPost, 0, 0, 0⟩ := slot_setSlot_same k _ s hlen
  have ht' : t = _ := ht
  rw [ht']
  refine ⟨⟨?_, ?_⟩, rfl, rfl, rfl⟩
  · refine (slot_setSlot_same k _ (takenAtPost k s) (by simp [takenAtPost, hlen])).trans ?_
    rw [completedSlot, hslot]
    rfl
  · change (if (s.mem.read (0x0106 + 64 * k.val) != 0) = true then s.exch.attention ||| Cause.bit .slot
      else s.exch.attention).getLsbD 1 = _
    cases s.mem.read (0x0106 + 64 * k.val) != 0 <;> simp [Cause.bit]

end

end Sys2Proof.Machine
end

section
/-! PROOFS. The SETTINGS context: its completions, INDICATORS, unknown kinds, and the lamps at the pins (R12, R13, R18, R151,
R152). -/

namespace Sys2Proof.Machine

/-! ### Parameter bytes (R15, R26) -/

theorem param8_reads (m : Memory) (a : Nat) {i n : Nat} (hi : i < n) : param8 (m.reads a n) i = m.read (a + i) := by
  simp [param8, Memory.reads, hi]

theorem param16_reads (m : Memory) (a : Nat) {i n : Nat} (hi : i + 1 < n) : param16 (m.reads a n) i = m.half (a + i) := by
  rw [param16, param8_reads m a (by omega), param8_reads m a hi]
  rfl

theorem param32_reads (m : Memory) (a : Nat) {i n : Nat} (hi : i + 3 < n) : param32 (m.reads a n) i = m.word (a + i) := by
  rw [param32, param8_reads m a (by omega), param8_reads m a (by omega), param8_reads m a (by omega), param8_reads m a hi]
  rfl

/-! ### Kinds (R18) -/

/-- A kind byte outside 1 to 8 names no request. -/
theorem unknownKind_ne {b n : Byte} (h : b = 0 ∨ 8 < b) (hn : 1 ≤ n ∧ n ≤ 8) : b ≠ n := by
  rintro rfl
  rcases h with rfl | h
  · exact absurd hn.1 (by decide)
  · exact absurd (BitVec.le_def.mp hn.2) (Nat.not_le.mpr (BitVec.lt_def.mp h))

theorem takeSettings_unknown {j : Job} (h : j.kind = 0 ∨ 8 < j.kind) (s : State) :
    takeSettings j s = completeJob j .badKind 0 0 s := by
  rw [takeSettings, if_neg (unknownKind_ne h (by decide)), if_neg (unknownKind_ne h (by decide)),
    if_neg (unknownKind_ne h (by decide)), if_neg (unknownKind_ne h (by decide))]

theorem isSettingsKind_unknown {b : Byte} (h : b = 0 ∨ 8 < b) : isSettingsKind b = true := by
  have h1 : b ≠ kindCopy := unknownKind_ne h (by decide)
  have h2 : b ≠ kindFill := unknownKind_ne h (by decide)
  have h3 : b ≠ kindPresent := unknownKind_ne h (by decide)
  have h4 : b ≠ kindProfile := unknownKind_ne h (by decide)
  simp [isSettingsKind, isPictureKind, isProfileKind, h1, h2, h3, h4]

/-! ### The lamps (R151) -/

/-- The lamps whose state is on: the tablet's five, DRIVE at bit 5, ALERT at bit 6. -/
theorem lampStates_bits (s : State) : (∀ i, i < 5 → (lampStates s).getLsbD i = s.light.lamps.getLsbD i) ∧
    (lampStates s).getLsbD 5 = s.lines.drive ∧ (lampStates s).getLsbD 6 = alertFeed s := by
  unfold lampStates
  refine ⟨fun i hi => ?_, ?_, ?_⟩
  · have hbits : ∀ b c : Bool, ((if b then 0x20#7 else 0) ||| (if c then 0x40#7 else 0)).getLsbD i = false := by
      interval_cases i <;> decide
    rw [BitVec.or_assoc, BitVec.getLsbD_or, hbits, Bool.or_false, BitVec.getLsbD_setWidth]
    simp [show i < 7 by omega]
  · cases s.lines.drive <;> cases alertFeed s <;> simp
  · cases s.lines.drive <;> cases alertFeed s <;> simp

theorem alertFeed_iff (s : State) : alertFeed s = true ↔ ∃ k ∈ s.composer.keys, k.state = .stuck := by
  simp [alertFeed]

/-- The lamps and their duty at the pins of a part that runs. -/
theorem pins_lamps {s : State} (h : Running s) : (pins s).lampDuty = s.light.keyLight ∧
    (pins s).keyDuty = s.light.keyLight ∧ (pins s).lampsLit = if s.power.standby then 0 else lampStates s := by
  have hheld : s.power.held = false := h
  simp [pins, hheld]

/-- Settles O36: the completion, the two takes at the POST, and the pins. -/
theorem settingsEndsAndIndicators : Obligations.SettingsEndsAndIndicators := by
  refine ⟨fun s h => ?_, fun s k hinv h ho hk hq hjob => ⟨fun hkind => ?_, fun hkind => ?_⟩, fun s h => ?_⟩
  · have hexec : exec .settingsCompletion s = .next (look (settingsComplete s)) :=
      next_whenRunning h fun s => look (settingsComplete s)
    rw [hexec]
    refine ⟨fun j hj hlater => ⟨_, ?_, rfl⟩, fun hpanel => ?_⟩
    · have hend : settingsComplete s = complete j.slot j.notify .ok j.flags 0 { s with exch.settingsJob := none } := by
        simp only [settingsComplete, hj, hlater, if_true]
        rfl
      rw [hend]
      rfl
    · have hidle : settingsComplete s = s := by
        unfold settingsComplete
        split
        · rfl
        · next j hj =>
          rw [hpanel j hj]
          rfl
      rw [hidle]
  · have hsettings : isSettingsKind (s.mem.read (0x0104 + 64 * k.val)) = true := by rw [hkind]; decide
    have htake : takeSettings (jobAtPost k s) (takenAtPost k s) = takeIndicators (jobAtPost k s) (takenAtPost k s) :=
      if_pos hkind
    have hset : indicatorsSet (jobAtPost k s).params = (s.mem.read (0x011C + 64 * k.val)).setWidth 5 := by
      rw [indicatorsSet, jobAtPost, param8_reads _ _ (by omega)]
      rfl
    have hclear : indicatorsClear (jobAtPost k s).params = (s.mem.read (0x011D + 64 * k.val)).setWidth 5 := by
      rw [indicatorsClear, jobAtPost, param8_reads _ _ (by omega), Nat.add_right_comm]
      rfl
    refine ⟨_, exec_post_settings h ho hk hinv.slots hq hjob hsettings, ?_⟩
    rw [htake, takeIndicators, hset, hclear]
    refine ⟨rfl, rfl, ?_, rfl, rfl⟩
    exact congrArg SlotRec.state (slot_setSlot_same k _ s hinv.slots)
  · obtain ⟨hends, hframe, hqueue, hsettings⟩ := completeJob_takenAtPost (k := k) hinv.slots .badKind 0
    refine ⟨_, exec_post_settings h ho hk hinv.slots hq hjob (isSettingsKind_unknown hkind), ?_⟩
    rw [takeSettings_unknown hkind]
    exact ⟨hframe, hends, hqueue, hsettings.trans hjob⟩
  · obtain ⟨hlamp, hkey, hlit⟩ := pins_lamps h
    obtain ⟨htablet, hdrive, halert⟩ := lampStates_bits s
    refine ⟨hlamp, hkey, fun hs => by simp [hlit, hs], fun hs => ?_⟩
    rw [hlit, hs, if_neg Bool.false_ne_true, halert]
    exact ⟨htablet, hdrive, alertFeed_iff s⟩

end Sys2Proof.Machine
end

section
/-! PROOFS. The take of a COPY: its checks in order, the clipping, and the first row boundary (R105, R108, R110, R112). -/

namespace Sys2Proof.Machine

/-! ### The five checks (R108) -/

section
variable {ps : List Byte}

theorem checkCopy_zero (h : pictureWidth ps = 0 ∨ pictureHeight ps = 0) : checkCopy ps = .ends .ok := by
  simp only [checkCopy, if_pos h]

theorem checkCopy_code (h0 : ¬(pictureWidth ps = 0 ∨ pictureHeight ps = 0))
    (h : (1 < copySpace ps ∨ 1 < copyFormat ps ∨ 1 < pictureDest ps) ∨ copyStride ps < pictureWidth ps * copyPixelBytes ps) :
    checkCopy ps = .ends .badParam := by
  simp only [checkCopy, if_neg h0]
  split
  · rfl
  · next hcode => rw [if_pos (h.resolve_left hcode)]

theorem checkCopy_align (h0 : ¬(pictureWidth ps = 0 ∨ pictureHeight ps = 0))
    (hcode : ¬(1 < copySpace ps ∨ 1 < copyFormat ps ∨ 1 < pictureDest ps))
    (hstride : ¬copyStride ps < pictureWidth ps * copyPixelBytes ps)
    (h : copySource ps % copyPixelBytes ps ≠ 0 ∨ copyStride ps % copyPixelBytes ps ≠ 0) :
    checkCopy ps = .ends .badAlign := by
  simp only [checkCopy, if_neg h0, if_neg hcode, if_neg hstride, if_pos h]

theorem checkCopy_extent (h0 : ¬(pictureWidth ps = 0 ∨ pictureHeight ps = 0))
    (hcode : ¬(1 < copySpace ps ∨ 1 < copyFormat ps ∨ 1 < pictureDest ps))
    (hstride : ¬copyStride ps < pictureWidth ps * copyPixelBytes ps)
    (halign : ¬(copySource ps % copyPixelBytes ps ≠ 0 ∨ copyStride ps % copyPixelBytes ps ≠ 0)) :
    checkCopy ps = if copyIsHost ps = false ∧
      58112 < copySource ps + (pictureHeight ps - 1) * copyStride ps + pictureWidth ps * copyPixelBytes ps then
        .ends .badParam else .goesOn := by
  simp only [checkCopy, if_neg h0, if_neg hcode, if_neg hstride, if_neg halign]
  rfl

end

/-! ### The clipped rectangle (R110) -/

theorem clipRect_none {x y : Int} {w h : Nat} (hoff : 1279 < x ∨ x + w ≤ 0 ∨ 799 < y ∨ y + h ≤ 0) : clipRect x y w h = none := by
  rw [clipRect]
  exact if_pos (by omega)

theorem clipRect_some {x y : Int} {w h : Nat} (hw : w ≠ 0) (hh : h ≠ 0)
    (hon : ¬(1279 < x ∨ x + w ≤ 0 ∨ 799 < y ∨ y + h ≤ 0)) : ∃ r, clipRect x y w h = some r ∧
      (r.x0 : Int) = max x 0 ∧ (r.x1 : Int) = min (x + w - 1) 1279 ∧ (r.y0 : Int) = max y 0 ∧
      (r.y1 : Int) = min (y + h - 1) 799 := by
  refine ⟨⟨(max x 0).toNat, (min (x + w - 1) 1279).toNat, (max y 0).toNat, (min (y + h - 1) 799).toNat⟩, ?_, ?_, ?_, ?_, ?_⟩
  · rw [clipRect]
    exact if_neg (by omega)
  all_goals
    dsimp only
    omega

/-! ### The fields of a COPY in its parameter bytes (section 1.8.3) -/

/-- The fields, by their offsets in the slot record that begins at `b`. -/
theorem copyFields (m : Memory) {a b : Nat} (h : a = b + 0x1C) :
    copySpace (m.reads a 36) = m.read (b + 0x1C) ∧ copyFormat (m.reads a 36) = m.read (b + 0x1D) ∧
    pictureDest (m.reads a 36) = m.read (b + 0x1E) ∧ param32 (m.reads a 36) 4 = m.word (b + 0x20) ∧
    param32 (m.reads a 36) 8 = m.word (b + 0x24) ∧ copyStride (m.reads a 36) = (m.word (b + 0x28)).toNat ∧
    pictureWidth (m.reads a 36) = (m.half (b + 0x2C)).toNat ∧ pictureHeight (m.reads a 36) = (m.half (b + 0x2E)).toNat ∧
    pictureX (m.reads a 36) = (m.half (b + 0x30)).toInt ∧ pictureY (m.reads a 36) = (m.half (b + 0x32)).toInt := by
  subst h
  refine ⟨param8_reads m _ (by omega), param8_reads m _ (by omega), param8_reads m _ (by omega),
    param32_reads m _ (by omega), param32_reads m _ (by omega), ?_, ?_, ?_, ?_, ?_⟩
  · rw [copyStride, param32_reads m _ (by omega)]
  · rw [pictureWidth, param16_reads m _ (by omega)]
  · rw [pictureHeight, param16_reads m _ (by omega)]
  · rw [pictureX, param16_reads m _ (by omega)]
  · rw [pictureY, param16_reads m _ (by omega)]

/-- A take of a COPY or FILL moves the exchange, the engine and the count of messages alone. -/
theorem takePicture_frame (j : Job) (fill : Bool) (s : State) : takePicture j fill s = { s with
    exch := (takePicture j fill s).exch, link := (takePicture j fill s).link,
    picture := (takePicture j fill s).picture } := by
  have hkept := takePicture_keeps j fill s
  generalize takePicture j fill s = t at hkept ⊢
  cases s
  cases t
  simp_all

section
variable {s : State} {k : Fin 16}

theorem byte_eq_one_iff {b : Byte} (h : ¬1 < b) : ¬b = 0 ↔ b = 1 := by bv_omega

theorem takePicture_ends {j : Job} {code : ResultCode} (h : checkCopy j.params = .ends code) :
    takePicture j false s = completeJob j code 0 0 s := by
  simp [takePicture, h]

theorem takePicture_goesOn {j : Job} (h : checkCopy j.params = .goesOn) :
    takePicture j false s = startPicture j false s := by
  simp [takePicture, h]

theorem startPicture_off {j : Job} (fill : Bool) (h : clipRect (pictureX j.params) (pictureY j.params)
    (pictureWidth j.params) (pictureHeight j.params) = none) : startPicture j fill s = completeJob j .ok 1 0 s := by
  simp only [startPicture, h]
  rfl

theorem startPicture_on {j : Job} (fill : Bool) {r : Rect} (h : clipRect (pictureX j.params) (pictureY j.params)
    (pictureWidth j.params) (pictureHeight j.params) = some r) : startPicture j fill s = pictureBoundary { s with
      picture := { emptyEngine s with
        job := some j, work := .row, fill := fill, params := j.params, dest := resolveDest j.params s, clip := r,
        nextRow := r.y0, clipped := r.cuts (pictureWidth j.params) (pictureHeight j.params) } } := by
  simp only [startPicture, h]
  rfl

/-- A COPY that the free context takes at the POST. -/
theorem exec_post_copy (h : Linked s) (ho : s.exch.sessionOpen = true) (hk : (slot s k).state = .free)
    (hlen : s.exch.slots.length = 16) (hq : s.exch.queue = []) (hfree : pictureFree s = true)
    (hheld : pictureHeld s = false) (hkind : s.mem.read (0x0104 + 64 * k.val) = kindCopy) :
    exec (.post k) s = .next (takePicture (jobAtPost k s) false (takenAtPost k s)) := by
  rw [exec_post_picture h ho hk hlen hq hfree hheld (by rw [hkind]; decide), hkind, if_neg (by decide)]
  rfl

theorem takenAtPost_eq (hq : s.exch.queue = []) : takenAtPost k s = { s with exch := { s.exch with
    slots := s.exch.slots.set k.val ⟨.active, .ok, 0, s.exch.nextPost, 0, 0, 0⟩, nextPost := s.exch.nextPost + 1 } } := by
  rw [takenAtPost, ← hq]

end

/-- Settles O42: each check under the negation of those before it, then the clipping. -/
theorem copyChecksRunInOrder : Obligations.CopyChecksRunInOrder := by
  intro s k hinv h ho hk hq hfree hheld hkind at8 at16 at32 w hgt x y params bytes source zero badCode badStride badAlign
    badExtent offPanel
  have hparams : (jobAtPost k s).params = params := rfl
  obtain ⟨hspace, hformat, hdest, hlow, hhigh, hstride, hwidth, hheight, hx, hy⟩ :=
    copyFields s.mem (a := 0x011C + 64 * k.val) (b := 0x0100 + 64 * k.val) (by omega)
  have hbytes : copyPixelBytes params = bytes := by rw [copyPixelBytes, hformat]
  have hhost : copyIsHost params = true ↔ at8 0x1C = 0 := by rw [copyIsHost, hspace, beq_iff_eq]
  have hsource : copySource params = source := by
    rw [copySource, copyHostAddress, copyStagingOffset, hlow, hhigh]
    exact if_congr hhost rfl rfl
  have hends : ∀ code, checkCopy params = .ends code →
      EndsInTake s k code.endState code 0 (takePicture (jobAtPost k s) false (takenAtPost k s)) ∧
        (takePicture (jobAtPost k s) false (takenAtPost k s)).picture = s.picture := fun code hcheck => by
    obtain ⟨hend, hframe, -, -⟩ := completeJob_takenAtPost (k := k) hinv.slots code 0
    have hpicture := congrArg State.picture hframe
    rw [takePicture_ends (s := takenAtPost k s) (j := jobAtPost k s) hcheck]
    exact ⟨hend, hpicture⟩
  have hzero : pictureWidth params = 0 ∨ pictureHeight params = 0 ↔ zero := by rw [hwidth, hheight]
  have hcodes : (1 < copySpace params ∨ 1 < copyFormat params ∨ 1 < pictureDest params) ↔ badCode := by
    rw [hspace, hformat, hdest]
  have hstrides : copyStride params < pictureWidth params * copyPixelBytes params ↔ badStride := by
    rw [hstride, hwidth, hbytes]
  have haligns : copySource params % copyPixelBytes params ≠ 0 ∨ copyStride params % copyPixelBytes params ≠ 0 ↔
      badAlign := by rw [hsource, hstride, hbytes]
  have hextents : ¬badCode → (copyIsHost params = false ∧ 58112 < copySource params +
      (pictureHeight params - 1) * copyStride params + pictureWidth params * copyPixelBytes params ↔ badExtent) := by
    intro hcode
    have hstaging : copyIsHost params = false ↔ at8 0x1C = 1 := by
      rw [← Bool.not_eq_true, hhost]
      exact byte_eq_one_iff fun hspace => hcode (.inl hspace)
    rw [hstaging, hsource, hheight, hstride, hwidth, hbytes]
  have hgoesOn : ¬zero → ¬badCode → ¬badStride → ¬badAlign → ¬badExtent →
      takePicture (jobAtPost k s) false (takenAtPost k s) = startPicture (jobAtPost k s) false (takenAtPost k s) :=
    fun hz hcode hs halign hextent => takePicture_goesOn ((checkCopy_extent (hzero.not.mpr hz) (hcodes.not.mpr hcode)
      (hstrides.not.mpr hs) (haligns.not.mpr halign)).trans (if_neg ((hextents hcode).not.mpr hextent)))
  refine ⟨_, exec_post_copy h ho hk hinv.slots hq hfree hheld hkind, takePicture_frame _ _ _, fun hz => ?_,
    fun hz hbad => ?_, fun hz hcode hs halign => ?_, fun hz hcode hs halign hextent => ?_,
    fun hz hcode hs halign hextent hoff => ?_, fun hz hcode hs halign hextent hon => ?_⟩
  · exact hends .ok (checkCopy_zero (hzero.mpr hz))
  · exact hends .badParam (checkCopy_code (hzero.not.mpr hz) (hbad.imp hcodes.mpr hstrides.mpr))
  · exact hends .badAlign (checkCopy_align (hzero.not.mpr hz) (hcodes.not.mpr hcode) (hstrides.not.mpr hs) (haligns.mpr halign))
  · refine hends .badParam ((checkCopy_extent (hzero.not.mpr hz) (hcodes.not.mpr hcode) (hstrides.not.mpr hs)
      (haligns.not.mpr halign)).trans (if_pos ((hextents hcode).mpr hextent)))
  · obtain ⟨hend, hframe, -, -⟩ := completeJob_takenAtPost (k := k) hinv.slots .ok 1
    have hpicture := congrArg State.picture hframe
    have hclip : clipRect (pictureX params) (pictureY params) (pictureWidth params) (pictureHeight params) = none := by
      rw [hx, hy, hwidth, hheight]
      exact clipRect_none hoff
    rw [hgoesOn hz hcode hs halign hextent, startPicture_off (j := jobAtPost k s) false hclip]
    exact ⟨hend, hpicture⟩
  · obtain ⟨hw, hh⟩ := not_or.mp hz
    obtain ⟨r, hclip, hx0, hx1, hy0, hy1⟩ := clipRect_some (x := x) (y := y) hw hh hon
    have hclip' : clipRect (pictureX params) (pictureY params) (pictureWidth params) (pictureHeight params) = some r := by
      rw [hx, hy, hwidth, hheight]
      exact hclip
    have hjob : jobAtPost k s = ⟨k, kindCopy, s.mem.read (0x0106 + 64 * k.val) != 0, params, 0⟩ := by
      rw [jobAtPost, hkind]
    have hcuts : r.cuts (pictureWidth params) (pictureHeight params) =
        decide (r.x1 + 1 - r.x0 < w ∨ r.y1 + 1 - r.y0 < hgt) := by
      rw [Rect.cuts, Rect.width, Rect.height, Bool.decide_or, hwidth, hheight]
    have hresolve : resolveDest params (takenAtPost k s) = if at8 0x1E = 0 then backBuffer s else .standby := by
      rw [resolveDest, hdest]
      rfl
    have hboundary := startPicture_on (j := jobAtPost k s) (s := takenAtPost k s) false hclip'
    rw [hparams, hcuts, hresolve, hjob] at hboundary
    rw [hgoesOn hz hcode hs halign hextent, hjob]
    refine ⟨r, _, hboundary, hx0, hx1, hy0, hy1, ?_⟩
    rw [takenAtPost_eq hq]
    rfl

end Sys2Proof.Machine
end

section
/-! PROOFS. While the link is down no event changes the link (R20, R25): no message is sent, and the looks at the queue and
the failed reads leave its settings. -/

namespace Sys2Proof.Machine

/-- The link `l` is down and `l'` is still what it was. -/
def StaysDown (l l' : Link) : Prop := l.up = false ∧ l' = l

section
variable {l : Link} {s : State}

/-! ### Messages and records -/

theorem sendMessage_down (h : StaysDown l s.link) : StaysDown l (sendMessage s).link := by
  obtain ⟨hup, rfl⟩ := h
  exact ⟨hup, by simp [sendMessage, hup]⟩

theorem raise_down (c : Cause) (h : StaysDown l s.link) : StaysDown l (raise c s).link := by
  unfold raise
  dsimp only
  split
  · exact sendMessage_down h
  · exact h

theorem complete_down (k : Fin 16) (n : Bool) (code : ResultCode) (fl : Byte) (c : Nat) (h : StaysDown l s.link) :
    StaysDown l (complete k n code fl c s).link := by
  unfold complete
  dsimp only
  split
  · exact raise_down _ (by simpa using h)
  · simpa using h

theorem completeJob_down (j : Job) (code : ResultCode) (fl : Byte) (c : Nat) (h : StaysDown l s.link) :
    StaysDown l (completeJob j code fl c s).link := complete_down _ _ _ _ _ h

theorem advanceHead_down (n : Nat) (h : StaysDown l s.link) : StaysDown l (advanceHead n s).link := by
  unfold advanceHead testMark
  split
  · exact raise_down _ h
  · exact h

theorem recoveryTest_down (h : StaysDown l s.link) : StaysDown l (recoveryTest s).link := by
  unfold recoveryTest
  split
  · exact advanceHead_down _ (by rw [putRecords_eq]; exact h)
  · exact h

theorem handRecord_down (r : Rec) (h : StaysDown l s.link) : StaysDown l (handRecord r s).link := by
  unfold handRecord
  (repeat' split)
  · exact h
  · exact recoveryTest_down h
  · exact raise_down _ h
  · exact advanceHead_down 1 h

theorem wakeRecord_down (w : WakeSource) (h : StaysDown l s.link) : StaysDown l (wakeRecord w s).link := by
  unfold wakeRecord
  split
  · exact handRecord_down _ h
  · exact handRecord_down _ h

/-! ### The picture path -/

theorem finishPicture_down (code : ResultCode) (h : StaysDown l s.link) : StaysDown l (finishPicture code s).link := by
  unfold finishPicture
  split
  · exact h
  · exact completeJob_down _ _ _ _ h

theorem failPicture_down (h : StaysDown l s.link) : StaysDown l (failPicture s).link := by
  unfold failPicture
  split
  · exact h
  · exact finishPicture_down _ h

theorem issueReads_down (rs : List ReadPlan) (h : StaysDown l s.link) : StaysDown l (issueReads rs s).link := by
  induction rs generalizing s with
  | nil => exact h
  | cons r rs ih =>
    unfold issueReads
    (repeat' split)
    · exact h
    · exact failPicture_down h
    · exact ih h

theorem beginRow_down (h : StaysDown l s.link) : StaysDown l (beginRow s).link := by
  unfold beginRow
  dsimp only
  (repeat' split)
  · exact h
  · exact issueReads_down _ h
  · exact h

theorem pictureBoundary_down (h : StaysDown l s.link) : StaysDown l (pictureBoundary s).link := by
  unfold pictureBoundary
  (repeat' split)
  · exact h
  · exact finishPicture_down _ h
  · exact finishPicture_down _ h
  · exact h
  · exact beginRow_down h

theorem finishPresent_down (code : ResultCode) (c : Nat) (h : StaysDown l s.link) :
    StaysDown l (finishPresent code c s).link := by
  unfold finishPresent
  split
  · exact h
  · simp only [activity_keeps]
    exact completeJob_down _ _ _ _ h

theorem carryBoundary_down (c : Carry) (h : StaysDown l s.link) : StaysDown l (carryBoundary c s).link := by
  unfold carryBoundary
  dsimp only
  (repeat' split)
  · exact h
  · exact h
  · exact finishPresent_down _ _ h
  · exact finishPresent_down _ _ h
  · exact h
  · exact h

theorem swap_down (carry : Bool) (h : StaysDown l s.link) : StaysDown l (swap carry s).link := by
  unfold swap
  dsimp only
  split
  · exact carryBoundary_down _ h
  · exact finishPresent_down _ _ h

theorem panelTest_down (h : StaysDown l s.link) : StaysDown l (panelTest s).link := by
  have hstop : ∀ st, StaysDown l (stopPanel st s).link := fun st => by
    simp only [stopPanel, recompute_keeps, swapWaiting]
    split
    · exact h
    · exact swap_down _ h
  unfold panelTest
  (repeat' split)
  · simpa using h
  · exact h
  · exact h
  · exact hstop _
  · exact h
  · exact hstop _
  · exact h

theorem resumePictures_down (h : StaysDown l s.link) : StaysDown l (resumePictures s).link := by
  have hpicture : StaysDown l (resumePicture s).link := by
    unfold resumePicture
    split
    · exact pictureBoundary_down h
    · exact h
  unfold resumePictures resumeCarry
  (repeat' split)
  · exact hpicture
  · exact carryBoundary_down _ hpicture
  · exact hpicture

/-! ### The Power Manager -/

theorem enterStandby_down (h : StaysDown l s.link) : StaysDown l (enterStandby s).link := by
  have hpanel : ∀ u : State, StaysDown l u.link → StaysDown l (finishPanel true u).link := fun u hu => by
    unfold finishPanel
    (repeat' split)
    · exact hu
    · exact completeJob_down _ _ _ _ hu
    · exact hu
  simp only [enterStandby, recompute_keeps]
  exact hpanel _ (panelTest_down (handRecord_down _ h))

theorem wake_down (w : WakeSource) (h : StaysDown l s.link) : StaysDown l (wake w s).link := by
  have hrecord : StaysDown l (wakeRecord w { s with power.standby := false }).link := wakeRecord_down w h
  simp only [wake, scannerWake_keeps]
  refine resumePictures_down ?_
  simp only [recompute_keeps, idleRestart_keeps]
  refine panelTest_down ?_
  split <;> exact hrecord

theorem wakeSource_down (w : WakeSource) (h : StaysDown l s.link) : StaysDown l (wakeSource w s).link := by
  unfold wakeSource
  split
  · exact wake_down w h
  · exact h

theorem lingerRetime_down (h : StaysDown l s.link) : StaysDown l (lingerRetime s).link := by
  unfold lingerRetime
  (repeat' split)
  · exact h
  · exact enterStandby_down h
  · exact h

/-! ### The takes -/

theorem takePanel_down (j : Job) (h : StaysDown l s.link) : StaysDown l (takePanel j s).link := by
  have hwish : StaysDown l (applyWish (panelWish j.params) s).link := by
    unfold applyWish
    dsimp only
    split
    · exact wakeSource_down .host h
    · exact panelTest_down h
  unfold takePanel
  dsimp only
  split
  · exact completeJob_down _ _ _ _ hwish
  · exact hwish

theorem takeSettings_down (j : Job) (h : StaysDown l s.link) : StaysDown l (takeSettings j s).link := by
  unfold takeSettings
  (repeat' split)
  · simpa [takeIndicators] using h
  · unfold takeLight
    split
    · simpa using h
    · exact completeJob_down _ _ _ _ h
  · exact lingerRetime_down h
  · exact takePanel_down j h
  · exact completeJob_down _ _ _ _ h

theorem takePicture_down (j : Job) (fill : Bool) (h : StaysDown l s.link) :
    StaysDown l (takePicture j fill s).link := by
  have hstart : StaysDown l (startPicture j fill s).link := by
    unfold startPicture
    dsimp only
    split
    · exact completeJob_down _ _ _ _ h
    · exact pictureBoundary_down h
  unfold takePicture
  generalize (if fill then checkFill j.params else checkCopy j.params) = checked
  cases checked with
  | ends code => exact completeJob_down _ _ _ _ h
  | goesOn => exact hstart

theorem takePresent_down (j : Job) (h : StaysDown l s.link) : StaysDown l (takePresent j s).link := by
  unfold takePresent
  dsimp only
  split
  · exact h
  · exact swap_down _ h

theorem takeProfile_down (j : Job) (h : StaysDown l s.link) : StaysDown l (takeProfile j s).link := by
  unfold takeProfile
  dsimp only
  (repeat' split)
  · exact completeJob_down _ _ _ _ h
  · exact completeJob_down _ _ _ _ h
  · exact h

theorem oneTake_down {t : State} (ht : oneTake s = some t) (h : StaysDown l s.link) : StaysDown l t.link := by
  have hactivate : ∀ e, StaysDown l (activate e s).link := fun e => by simpa [activate] using h
  obtain ⟨-, e, -, rfl⟩ | ⟨-, -, e, -, rfl⟩ | ⟨-, e, -, rfl⟩ := oneTake_cases ht
  · exact takeSettings_down _ (hactivate e)
  · unfold takeByPicture
    dsimp only
    split
    · exact takePresent_down _ (hactivate e)
    · exact takePicture_down _ _ (hactivate e)
  · exact takeProfile_down _ (hactivate e)

theorem look_down (h : StaysDown l s.link) : StaysDown l (look s).link := by
  unfold look
  generalize s.exch.queue.length = n
  induction n generalizing s with
  | zero => exact h
  | succ n ih =>
    unfold lookFor
    split
    · exact h
    · next t ht => exact ih (oneTake_down ht h)

theorem failFetches_down (n : Nat) (h : StaysDown l s.link) : StaysDown l (failFetches n s).link := by
  induction n generalizing s with
  | zero => exact h
  | succ n ih =>
    cases hf : fetchesHostRow s with
    | false => rwa [failFetches_none _ hf]
    | true =>
      rw [failFetches_fetching _ hf]
      split
      · exact ih (look_down (failPicture_down h))
      · exact h

end

end Sys2Proof.Machine
end

section
/-! PROOFS. The link events: the link up, the changes of the configuration, and the loss and the reset of the link with the
order of read failure and session end (R12, R21, R25, R120). -/

namespace Sys2Proof.Machine

/-! ### The failed read (R114) -/

/-- A failed read ends the request with READ_ERROR, or stops abandoned work. -/
theorem failPicture_readFailed (s : State) : ReadFailed s (failPicture s) := by
  constructor
  · intro j hj habandon
    have hfails : failPicture s =
        complete j.slot j.notify .readError (clippedFlag s.picture.clipped) s.picture.pixels (stopPicture s) := by
      rw [failPicture, if_neg (by simp [habandon]), finishPicture, hj]
      exact stopPicture_completeJob _ _ _ _ _
    obtain ⟨messages, heq⟩ := complete_eq j.slot j.notify .readError (clippedFlag s.picture.clipped) s.picture.pixels
      (stopPicture s)
    rw [hfails, heq]
    rfl
  · rintro (hj | habandon)
    · simp [failPicture, finishPicture, hj, stopPicture, Picture.cleared, emptyEngine]
    · simp [failPicture, habandon, stopPicture, Picture.cleared, emptyEngine]

/-! ### How many failures a lost link can bring (R120, log entry 11) -/

/-- A look that takes a slot shortens the queue. -/
theorem look_eq_or_shorter (s : State) : look s = s ∨ (look s).exch.queue.length < s.exch.queue.length := by
  have hle : ∀ (n : Nat) (u : State), (lookFor n u).exch.queue.length ≤ u.exch.queue.length := fun n => by
    induction n with
    | zero => exact fun u => Nat.le_refl _
    | succ n ih =>
      intro u
      unfold lookFor
      split
      · exact Nat.le_refl _
      · next t ht => exact (ih t).trans (oneTake_queue_length ht).le
  cases ht : oneTake s with
  | none => exact .inl (look_of_oneTake_none ht)
  | some t =>
    have hshort := oneTake_queue_length ht
    obtain ⟨n, hn⟩ := Nat.exists_eq_succ_of_ne_zero (Nat.ne_zero_of_lt hshort)
    right
    rw [look, hn, lookFor, ht, ← hn]
    exact (hle n t).trans_lt hshort

/-- Where a HOST row is in its fetch after a failure and its look, the look has taken a slot. -/
theorem look_shorter_of_fetches {u : State} (hu : u.picture.work = .free) (h : fetchesHostRow (look u) = true) :
    (look u).exch.queue.length < u.exch.queue.length :=
  (look_eq_or_shorter u).resolve_left fun heq => by simp [heq, fetchesHostRow, hu] at h

/-- The queue's length bounds the failures, so more fuel than that changes nothing. -/
theorem failFetches_fuel {n m : Nat} {s : State}
    (h : fetchesHostRow s = true → s.exch.queue.length < n ∧ s.exch.queue.length < m) :
    failFetches n s = failFetches m s := by
  induction n generalizing m s with
  | zero =>
    have hf : fetchesHostRow s = false := by
      by_contra hf
      exact absurd (h (by simpa using hf)).1 (Nat.not_lt_zero _)
    rw [failFetches_none _ hf, failFetches_none _ hf]
  | succ n ih =>
    cases hf : fetchesHostRow s with
    | false => rw [failFetches_none _ hf, failFetches_none _ hf]
    | true =>
      obtain ⟨hn, hm⟩ := h hf
      obtain ⟨m, rfl⟩ := Nat.exists_eq_succ_of_ne_zero (Nat.ne_zero_of_lt hm)
      rw [failFetches_fetching _ hf, failFetches_fetching _ hf]
      split
      · refine ih fun hnext => ?_
        have hshort := look_shorter_of_fetches (failPicture_work _) hnext
        simp only [failPicture_queue] at hshort
        omega
      · rfl

/-! ### The session end with its reads given up -/

theorem giveUpReads_eq (s : State) : giveUpReads s = { s with picture := (giveUpReads s).picture } := by
  unfold giveUpReads
  split <;> rfl

theorem giveUpReads_picture_congr {s t : State} (h : s.picture = t.picture) :
    (giveUpReads s).picture = (giveUpReads t).picture := by
  simp only [giveUpReads, h]
  split
  · simp only [stopPicture, h]
  · exact h

/-- An OPEN session's end and the reads given up, field by field (R8, R25, R120). -/
theorem giveUpReads_endSession {s : State} (ho : s.exch.sessionOpen = true) : giveUpReads (endSession s) = { s with
    exch := { s.exch with sessionOpen := false, slots := s.exch.slots.map (fun r => { r with state := .free }),
                          queue := [], attention := 0, settingsJob := none },
    profile := { s.profile with staged := none, job := none },
    picture := endedEngine s,
    scanout := { s.scanout with presented := false, waiting := none,
                                carry := s.scanout.carry.map (fun c => { c with abandoned := true }) } } := by
  have hend : endSession s = closeSession s := by simp [endSession, ho]
  have hpicture : (giveUpReads (closeSession s)).picture = endedEngine s :=
    (giveUpReads_picture_congr (closeSession_picture s)).trans (giveUpReads_abandonPicture_picture s)
  rw [hend, giveUpReads_eq, hpicture, closeSession_eq]

theorem endedEngine_job (s : State) : (endedEngine s).job = none := by
  unfold endedEngine
  (repeat' split) <;> rfl

/-- After an OPEN session's end every slot is FREE (R8). -/
theorem slot_giveUpReads_endSession {s : State} (ho : s.exch.sessionOpen = true) (k : Fin 16) :
    (slot (giveUpReads (endSession s)) k).state = .free := by
  rw [giveUpReads_endSession ho, slot]
  simp only [List.getD_eq_getElem?_getD, List.getElem?_map]
  cases s.exch.slots[k.val]? <;> rfl

/-! ### The loss of the link -/

/-- The part with its link down, and nothing else changed. -/
def unlinked (s : State) : State := { s with link := { s.link with up := false } }

theorem linkLost_eq (s : State) :
    linkLost s = giveUpReads (endSession (failFetches (s.exch.queue.length + 1) (unlinked s))) := rfl

theorem unlinked_of_staysDown {l : Link} {s : State} (h : StaysDown { l with up := false } s.link) : unlinked s = s := by
  rw [unlinked, h.2]
  exact congrArg (fun l' => { s with link := l' }) h.2.symm

theorem exec_linkDown {s : State} (h : Running s) (hup : s.link.up = true) : exec .linkDown s = .next (linkLost s) := by
  have hlost : linkDown s = linkLost s := by simp [linkDown, hup]
  rw [← hlost]
  exact next_whenRunning h linkDown

theorem fetchesHostRow_iff {s : State} (ho : s.exch.sessionOpen = true) :
    fetchesHostRow s = true ↔ s.picture.work = .row ∧ s.picture.writing = false := by
  simp [fetchesHostRow, ho]

/-- A read that fails first: what the freed context takes meets the same loss of the link (R12, R120). -/
theorem linkLost_readFirst {s : State} (hf : fetchesHostRow s = true) (horder : Config.eitherOrder s.freeCount = true) :
    let u := failPicture { s with freeCount := s.freeCount + 1, link := { s.link with up := false } }
    linkLost s = linkLost { look u with link := { (look u).link with up := true } } := by
  intro u
  have hdown : StaysDown { s.link with up := false } (look u).link := look_down (failPicture_down ⟨rfl, rfl⟩)
  have hfuel : failFetches s.exch.queue.length (look u) = failFetches ((look u).exch.queue.length + 1) (look u) :=
    failFetches_fuel fun hnext => by
      have hshort := look_shorter_of_fetches (failPicture_work _) hnext
      simp only [failPicture_queue] at hshort
      exact ⟨hshort, Nat.lt_succ_self _⟩
  have hfails : failFetches (s.exch.queue.length + 1) (unlinked s) = failFetches s.exch.queue.length (look u) := by
    rw [failFetches_fetching (s := unlinked s) _ hf]
    exact if_pos horder
  have hagain : unlinked { look u with link := { (look u).link with up := true } } = look u :=
    unlinked_of_staysDown hdown
  rw [linkLost_eq, linkLost_eq, hfails, hfuel, hagain]

/-- A session end that is taken first, or with no row in its fetch: nothing fails (R120). -/
theorem linkLost_endFirst {s : State} (h : fetchesHostRow s = true → Config.eitherOrder s.freeCount = false) :
    ∃ n, linkLost s = giveUpReads (endSession { s with freeCount := n, link := { s.link with up := false } }) := by
  cases hf : fetchesHostRow s with
  | false => exact ⟨s.freeCount, by rw [linkLost_eq, failFetches_none (s := unlinked s) _ hf]; rfl⟩
  | true =>
    have horder : ¬Config.eitherOrder (unlinked s).freeCount = true := by simp [unlinked, h hf]
    exact ⟨s.freeCount + 1, by rw [linkLost_eq, failFetches_fetching (s := unlinked s) _ hf, if_neg horder]; rfl⟩

/-- Whatever fails before it, the loss of the link ends the session and leaves the rest of the link and frame memory. -/
theorem linkLost_open {s : State} (ho : s.exch.sessionOpen = true) :
    (linkLost s).link = { s.link with up := false } ∧ intx (linkLost s) = false ∧
    (linkLost s).exch.sessionOpen = false ∧ (linkLost s).exch.queue = [] ∧ (linkLost s).exch.attention = 0 ∧
    (∀ k, (slot (linkLost s) k).state = .free) ∧ (linkLost s).picture.job = none ∧
    (linkLost s).frames = s.frames := by
  let f := failFetches (s.exch.queue.length + 1) (unlinked s)
  have hopen : f.exch.sessionOpen = true := (by simp [f] : f.exch.sessionOpen = (unlinked s).exch.sessionOpen).trans ho
  have hlink : StaysDown { s.link with up := false } f.link := failFetches_down _ ⟨rfl, rfl⟩
  have hframes : f.frames = s.frames := (by simp [f] : f.frames = (unlinked s).frames)
  have hlost : linkLost s = giveUpReads (endSession f) := rfl
  rw [hlost]
  refine ⟨?_, ?_, ?_, ?_, ?_, slot_giveUpReads_endSession hopen, ?_, ?_⟩ <;> rw [giveUpReads_endSession hopen]
  · exact hlink.2
  · exact intx_of_no_attention rfl
  · exact endedEngine_job f
  · exact hframes

/-- With the session CLOSED nothing ends. -/
theorem endSession_of_closed {s : State} (hc : s.exch.sessionOpen = false) : endSession s = s := by
  simp [endSession, hc]

/-- The engine once the reads of abandoned work are given up (R120). -/
theorem giveUpReads_given (s : State) : giveUpReads s = { s with
    picture := if s.picture.work = .stopping ∧ s.picture.writing = false then emptyEngine s else s.picture } := by
  unfold giveUpReads
  split <;> rfl

/-- With the session CLOSED a lost link gives the reads up, and no more (R25). -/
theorem linkLost_closed {s : State} (hc : s.exch.sessionOpen = false) : linkLost s = { s with
    link := { s.link with up := false },
    picture := if s.picture.work = .stopping ∧ s.picture.writing = false then emptyEngine s else s.picture } := by
  have hf : fetchesHostRow (unlinked s) = false := by simp [fetchesHostRow, unlinked, hc]
  rw [linkLost_eq, failFetches_none _ hf, endSession_of_closed (s := unlinked s) hc, giveUpReads_given]
  rfl

/-- Settles O26: the stored settings; the session end field by field; and the order of read failure and session end. -/
theorem linkEventsAct : Obligations.LinkEventsAct := by
  refine ⟨fun s on config => ⟨fun h => next_whenRunning h linkUp, fun hdown => ?_, fun h => ⟨?_, ?_, ?_, ?_⟩⟩,
    fun s h ho => ⟨fun hup => ?_, ?_⟩, fun s h hclosed => ⟨fun hup => ?_, ?_⟩⟩
  · have hexec : exec .linkDown s = .next (whenRunning linkDown s) := rfl
    rw [hexec]
    simp [whenRunning, linkDown, hdown]
  · exact next_whenLinked h (fun s => { s with link := { s.link with msiEnable := on } })
  · exact next_whenLinked h (fun s => { s with link := { s.link with intxDisable := on } })
  · exact next_whenLinked h (fun s => { s with link := { s.link with
      windowsAssigned := config.windows, memoryDecoding := config.decoding, busMastering := config.busMastering } })
  · simp [intx, h.1, h.2, and_assoc]
  · obtain ⟨hlink, hintx, hopen, hqueue, hattention, hslots, hjob, hframes⟩ := linkLost_open ho
    refine ⟨_, exec_linkDown h hup, hlink, hintx, hopen, hqueue, hattention, hslots, hjob, hframes, ?_⟩
    split
    · next hfirst =>
      obtain ⟨hrow, hwriting, horder⟩ := hfirst
      refine ⟨_, failPicture_readFailed _, ?_⟩
      rw [linkLost_readFirst ((fetchesHostRow_iff ho).mpr ⟨hrow, hwriting⟩) horder]
      refine exec_linkDown ?_ rfl
      simpa [Running] using h
    · next hend =>
      obtain ⟨n, hlost⟩ := linkLost_endFirst (s := s) fun hf => by
        obtain ⟨hrow, hwriting⟩ := (fetchesHostRow_iff ho).mp hf
        simpa [hrow, hwriting] using hend
      rw [giveUpReads_endSession (s := { s with freeCount := n, link := { s.link with up := false } }) ho] at hlost
      refine ⟨?_, hslots, ?_⟩ <;> rw [hlost]
      exact ⟨rfl, rfl, rfl, rfl, rfl, rfl, rfl, rfl, rfl, rfl, rfl, rfl⟩
  · refine ⟨linkReset s, next_whenRunning h linkReset, ⟨?_, slot_giveUpReads_endSession ho, ?_⟩, ?_⟩
    · simp only [linkReset, giveUpReads_endSession ho]
    · rw [linkReset, giveUpReads_endSession ho]
      exact ⟨rfl, rfl, rfl, rfl, rfl, rfl, rfl, rfl, rfl, rfl, rfl, rfl⟩
    · simp only [linkReset, giveUpReads_endSession ho]
  · rw [exec_linkDown h hup, linkLost_closed hclosed]
  · have hreset : exec .linkReset s = .next (linkReset s) := next_whenRunning h linkReset
    rw [hreset, linkReset, endSession_of_closed hclosed, giveUpReads_given]

end Sys2Proof.Machine
end

section
/-! PROOFS. The power state and the band under the picture path's events, which may reload the linger timer and no more of
the Power Manager (R56, R135, R170). -/

namespace Sys2Proof.Machine

@[simp] theorem lingerActivity_state (a : Activity) (s : State) :
    (lingerActivity a s).power.standby = s.power.standby ∧ (lingerActivity a s).power.band = s.power.band ∧
    (lingerActivity a s).power.lingerMin = s.power.lingerMin := by
  unfold lingerActivity
  (repeat' split) <;> simp

@[simp] theorem activity_state (a : Activity) (s : State) :
    (activity a s).power.standby = s.power.standby ∧ (activity a s).power.band = s.power.band ∧
    (activity a s).power.lingerMin = s.power.lingerMin := by simp [activity]

@[simp] theorem finishPresent_state (code : ResultCode) (n : Nat) (s : State) :
    (finishPresent code n s).power.standby = s.power.standby ∧ (finishPresent code n s).power.band = s.power.band ∧
    (finishPresent code n s).power.lingerMin = s.power.lingerMin := by
  unfold finishPresent
  dsimp only
  split <;> simp

@[simp] theorem carryBoundary_state (c : Carry) (s : State) :
    (carryBoundary c s).power.standby = s.power.standby ∧ (carryBoundary c s).power.band = s.power.band ∧
    (carryBoundary c s).power.lingerMin = s.power.lingerMin := by
  unfold carryBoundary
  dsimp only
  (repeat' split) <;> simp

@[simp] theorem carryRowDone_state (s : State) :
    (carryRowDone s).power.standby = s.power.standby ∧ (carryRowDone s).power.band = s.power.band ∧
    (carryRowDone s).power.lingerMin = s.power.lingerMin := by
  unfold carryRowDone
  (repeat' split) <;> simp

@[simp] theorem resumePictures_state (s : State) :
    (resumePictures s).power.standby = s.power.standby ∧ (resumePictures s).power.band = s.power.band ∧
    (resumePictures s).power.lingerMin = s.power.lingerMin := by
  unfold resumePictures resumeCarry
  (repeat' split) <;> simp

@[simp] theorem swap_state (carry : Bool) (s : State) :
    (swap carry s).power.standby = s.power.standby ∧ (swap carry s).power.band = s.power.band ∧
    (swap carry s).power.lingerMin = s.power.lingerMin := by
  unfold swap
  dsimp only
  split <;> simp

@[simp] theorem swapWaiting_state (s : State) :
    (swapWaiting s).power.standby = s.power.standby ∧ (swapWaiting s).power.band = s.power.band ∧
    (swapWaiting s).power.lingerMin = s.power.lingerMin := by
  unfold swapWaiting
  split <;> simp

@[simp] theorem takePresent_state (j : Job) (s : State) :
    (takePresent j s).power.standby = s.power.standby ∧ (takePresent j s).power.band = s.power.band ∧
    (takePresent j s).power.lingerMin = s.power.lingerMin := by
  unfold takePresent
  dsimp only
  split <;> simp

@[simp] theorem panelTest_state (s : State) :
    (panelTest s).power.standby = s.power.standby ∧ (panelTest s).power.band = s.power.band ∧
    (panelTest s).power.lingerMin = s.power.lingerMin := by
  unfold panelTest stopPanel
  (repeat' split) <;> simp

@[simp] theorem stageExpiry_state (s : State) :
    (stageExpiry s).power.standby = s.power.standby ∧ (stageExpiry s).power.band = s.power.band ∧
    (stageExpiry s).power.lingerMin = s.power.lingerMin := by
  unfold stageExpiry panelOff
  (repeat' split) <;> simp

@[simp] theorem verticalBlank_state (s : State) :
    (verticalBlank s).power.standby = s.power.standby ∧ (verticalBlank s).power.band = s.power.band ∧
    (verticalBlank s).power.lingerMin = s.power.lingerMin := by
  unfold verticalBlank
  split <;> simp

@[simp] theorem takeByPicture_state (e : Entry) (s : State) :
    (takeByPicture e s).power.standby = s.power.standby ∧ (takeByPicture e s).power.band = s.power.band ∧
    (takeByPicture e s).power.lingerMin = s.power.lingerMin := by
  unfold takeByPicture
  dsimp only
  split <;> simp

/-- A supply sample does not move the power state (R167). -/
@[simp] theorem supplyDone_standby (code : BitVec 10) (s : State) :
    (supplyDone code s).power.standby = s.power.standby := by
  unfold supplyDone afterSupply sample changeBand
  dsimp only
  split <;> simp

/-! ### The entry into STANDBY and the wake (R172, R174) -/

theorem enterStandby_scanner (s : State) : (enterStandby s).scanner = { s.scanner with idlePasses := 0 } := by
  simp [enterStandby]

@[simp] theorem enterStandby_standby (s : State) : (enterStandby s).power.standby = true := by simp [enterStandby]

/-- The state in which the scanner takes its part in a wake, after the other blocks took theirs (R174). -/
def wokenBlocks (w : WakeSource) (s : State) : State :=
  let s1 := wakeRecord w { s with power.standby := false }
  let s2 := if s1.lines.ignOn then s1 else { s1 with power.lingerEnds := some (after s1 (wakeLoad s1)) }
  resumePictures (recompute (idleRestart (panelTest s2)))

theorem wake_eq (w : WakeSource) (s : State) : wake w s = scannerWake (wokenBlocks w s) := rfl

@[simp] theorem wokenBlocks_keeps (w : WakeSource) (s : State) :
    (wokenBlocks w s).scanner = s.scanner ∧ (wokenBlocks w s).composer = s.composer ∧
    (wokenBlocks w s).profile = s.profile ∧ (wokenBlocks w s).power.standby = false := by
  unfold wokenBlocks
  dsimp only
  split <;> simp

end Sys2Proof.Machine
end

section
/-! PROOFS. The ranges of the scanner, the integrators and the profiles (R32, R37, R38, R40, R45, R90) under the operations
of every block. -/

namespace Sys2Proof.Machine

section
variable {s t u : State}

/-! ### What the invariant says of one key -/

/-- A key within the scanner's ranges: its integrator does not pass T_press (R32), and in SLOW scan it is 0 at a key that is
UP or STUCK (R45). -/
def KeyFits (s : State) (k : KeyRec) : Prop :=
  k.integ ≤ pressThreshold s ∧ (s.scanner.mode = .slow → k.integ = 0 ∧ (k.state = .up ∨ k.state = .stuck))

theorem ScannerInv.fits (h : ScannerInv s) {k : KeyRec} (hk : k ∈ s.composer.keys) : KeyFits s k :=
  ⟨h.integ k hk, fun hm => (h.slow hm).2.2.2 k hk⟩

/-- A record read from the table is in it, or is the start value. -/
theorem keyOf_cases (keys : List KeyRec) (p : Fin 128) : keyOf keys p ∈ keys ∨ keyOf keys p = KeyRec.start := by
  unfold keyOf
  rw [List.getD_eq_getElem?_getD]
  cases hk : keys[p.val]? with
  | none => exact .inr rfl
  | some k => exact .inl (List.mem_of_getElem? hk)

theorem ScannerInv.key (h : ScannerInv s) (p : Fin 128) : KeyFits s (key s p) := by
  obtain hk | hk := keyOf_cases s.composer.keys p
  · exact h.fits hk
  · rw [Machine.key, hk]
    exact ⟨Nat.zero_le _, fun _ => ⟨rfl, .inl rfl⟩⟩

/-! ### What the invariant depends on -/

/-- The invariant depends on the profiles, the scanner, the table and the power state. -/
theorem ScannerInv.congr (h : ScannerInv s) (hactive : t.profile.active = s.profile.active)
    (hstaged : ∀ st, t.profile.staged = some st → ProfileRanges st.profile) (hscanner : t.scanner = s.scanner)
    (hkeys : ∀ k ∈ t.composer.keys, KeyFits s k) (hstandby : t.power.standby = s.power.standby) : ScannerInv t := by
  have hthreshold : pressThreshold t = pressThreshold s := by simp only [pressThreshold, hactive, hscanner]
  refine ⟨hactive ▸ h.active, hstaged, hscanner ▸ h.vib, ?_, fun k hk => hthreshold ▸ (hkeys k hk).1, hscanner ▸ h.chatter,
    hscanner ▸ h.window, hscanner ▸ h.idleFast, ?_, ?_⟩
  · rw [hactive, hscanner]
    exact h.adaptation
  · rw [hstandby, hscanner]
    exact h.active45
  · rw [hscanner]
    intro hm
    obtain ⟨hvib, hchatter, hwindow, -⟩ := h.slow hm
    exact ⟨hvib, hchatter, hwindow, fun k hk => (hkeys k hk).2 hm⟩

/-- An operation that leaves the profiles, the scanner, the table and the power state. -/
theorem ScannerInv.same (h : ScannerInv s) (hsame : t.profile = s.profile ∧ t.scanner = s.scanner ∧
    t.composer.keys = s.composer.keys ∧ t.power.standby = s.power.standby) : ScannerInv t := by
  obtain ⟨hprofile, hscanner, hkeys, hstandby⟩ := hsame
  exact h.congr (by rw [hprofile]) (hprofile ▸ h.staged) hscanner (fun _ hk => h.fits (hkeys ▸ hk)) hstandby

/-- An operation that changes the table alone. -/
theorem ScannerInv.setKeys (h : ScannerInv s) (hkeys : ∀ k ∈ t.composer.keys, KeyFits s k)
    (hsame : t.profile = s.profile ∧ t.scanner = s.scanner ∧ t.power.standby = s.power.standby) : ScannerInv t := by
  obtain ⟨hprofile, hscanner, hstandby⟩ := hsame
  exact h.congr (by rw [hprofile]) (hprofile ▸ h.staged) hscanner hkeys hstandby

theorem setKey_scannerInv {p : Fin 128} {k : KeyRec} (hk : KeyFits s k) (h : ScannerInv s) : ScannerInv (setKey p k s) := by
  refine h.setKeys (fun k' hk' => ?_) (by simp)
  obtain hk' | rfl := List.mem_or_eq_of_mem_set hk'
  · exact h.fits hk'
  · exact hk

/-- Another profile staged, or none, where the active one stays (R96, R98, R100). -/
theorem ScannerInv.setStaged (h : ScannerInv s) (hstaged : ∀ st, t.profile.staged = some st → ProfileRanges st.profile)
    (hsame : t.profile.active = s.profile.active ∧ t.scanner = s.scanner ∧ t.composer.keys = s.composer.keys ∧
      t.power.standby = s.power.standby) : ScannerInv t := by
  obtain ⟨hactive, hscanner, hkeys, hstandby⟩ := hsame
  exact h.congr hactive hstaged hscanner (fun _ hk => h.fits (hkeys ▸ hk)) hstandby

/-- FAST scan with the idle pass count 0, from a state within the ranges, keeps them whatever the power state becomes. -/
theorem ScannerInv.toFast (h : ScannerInv s) (hprofile : t.profile = s.profile) (hvib : t.scanner.vib = s.scanner.vib)
    (hmode : t.scanner.mode = .fast) (hidle : t.scanner.idlePasses = 0) (hwindow : t.scanner.windowPasses < 64)
    (hchatter : t.scanner.chatter ≤ 255) (hkeys : ∀ k ∈ t.composer.keys, k.integ ≤ pressThreshold s) : ScannerInv t := by
  have hthreshold : pressThreshold t = pressThreshold s := by simp only [pressThreshold, hprofile, hvib]
  refine ⟨hprofile ▸ h.active, hprofile ▸ h.staged, hvib ▸ h.vib, ?_, hthreshold ▸ hkeys, hchatter, hwindow,
    fun _ => by omega, fun _ => ⟨hmode, hidle⟩, fun hslow => by rw [hmode] at hslow; cases hslow⟩
  rw [hprofile, hvib]
  exact h.adaptation

/-! ### The Power Manager -/

theorem enterStandby_scannerInv (h : ScannerInv s) : ScannerInv (enterStandby s) := by
  have hs := enterStandby_scanner s
  refine ⟨by simpa using h.active, by simpa using h.staged, hs ▸ h.vib, ?_, ?_, hs ▸ h.chatter, hs ▸ h.window,
    fun _ => by simp [hs], (fun hactive => by simp at hactive), ?_⟩
  · simpa [hs] using h.adaptation
  · simpa [hs, pressThreshold] using h.integ
  · simpa [hs] using h.slow

/-- FAST scan from SLOW: STUCK keys at T_press, all others at 0, a fresh window (R43). -/
theorem switchToFast_scannerInv (h : ScannerInv s) : ScannerInv (switchToFast s) :=
  h.toFast rfl rfl rfl rfl (by simp) (by simp) fun k hk => by
    obtain ⟨k', -, rfl⟩ := List.mem_map.mp hk
    dsimp only
    split <;> omega

/-- The scanner's part in a wake, taken where the other blocks left the scanner, the table and the profiles (R46). -/
theorem scannerWake_scannerInv (h : ScannerInv s) (hsame : u.scanner = s.scanner ∧ u.composer = s.composer ∧
    u.profile = s.profile) : ScannerInv (scannerWake u) := by
  obtain ⟨hscanner, hcomposer, hprofile⟩ := hsame
  have hthreshold : pressThreshold u = pressThreshold s := by simp only [pressThreshold, hprofile, hscanner]
  have hwindow := h.window
  have hchatter := h.chatter
  unfold scannerWake
  split
  · refine h.toFast hprofile (by simp [hscanner]) rfl rfl (by simp) (by simp) fun k hk => ?_
    obtain ⟨k', -, rfl⟩ := List.mem_map.mp hk
    dsimp only
    split <;> omega
  · next hmode =>
    exact h.toFast hprofile (by simp [hscanner]) hmode rfl (by simpa [hscanner]) (by simpa [hscanner]) fun k hk =>
      h.integ k (hcomposer ▸ hk)

theorem wake_scannerInv (w : WakeSource) (h : ScannerInv s) : ScannerInv (wake w s) := by
  rw [wake_eq]
  exact scannerWake_scannerInv h (by simp)

theorem wakeSource_scannerInv (w : WakeSource) (h : ScannerInv s) : ScannerInv (wakeSource w s) := by
  unfold wakeSource
  split
  · exact wake_scannerInv w h
  · exact h

theorem wake_fast (w : WakeSource) (s : State) : (wake w s).scanner.mode = .fast := by
  rw [wake_eq, scannerWake]
  split
  · rfl
  · assumption

theorem wakeSource_fast (w : WakeSource) (hm : s.scanner.mode = .fast) : (wakeSource w s).scanner.mode = .fast := by
  unfold wakeSource
  split
  · exact wake_fast w s
  · exact hm

theorem ignitionOff_scannerInv (h : ScannerInv s) : ScannerInv (ignitionOff s) := by
  unfold ignitionOff
  (repeat' split)
  · exact h
  · exact enterStandby_scannerInv h
  · exact h.same ⟨rfl, rfl, rfl, rfl⟩

theorem lingerRetime_scannerInv (h : ScannerInv s) : ScannerInv (lingerRetime s) := by
  unfold lingerRetime
  (repeat' split)
  · exact h
  · exact enterStandby_scannerInv h
  · exact h.same ⟨rfl, rfl, rfl, rfl⟩

theorem lingerExpiry_scannerInv (h : ScannerInv s) : ScannerInv (lingerExpiry s) := by
  unfold lingerExpiry
  split
  · exact enterStandby_scannerInv h
  · exact h

theorem lingerExpiry_fast (hm : s.scanner.mode = .fast) : (lingerExpiry s).scanner.mode = .fast := by
  unfold lingerExpiry
  split
  · rw [enterStandby_scanner]
    exact hm
  · exact hm

/-! ### The Key Composer -/

@[simp] theorem repeatOnPress_keys (p : Fin 128) (s : State) : (repeatOnPress p s).composer.keys = s.composer.keys := by
  unfold repeatOnPress
  split <;> rfl

@[simp] theorem repeatOnLeave_keys (p : Fin 128) (s : State) : (repeatOnLeave p s).composer.keys = s.composer.keys := by
  unfold repeatOnLeave
  split <;> rfl

@[simp] theorem repeatFires_keys (s : State) : (repeatFires s).composer.keys = s.composer.keys := by
  unfold repeatFires
  dsimp only
  (repeat' split) <;> simp

theorem foldl_scannerInv {α : Type} {f : State → α → State} (hf : ∀ s a, ScannerInv s → ScannerInv (f s a)) (l : List α)
    (h : ScannerInv s) : ScannerInv (l.foldl f s) := by
  induction l generalizing s with
  | nil => exact h
  | cons a l ih => exact ih (hf s a h)

/-- In FAST scan a key takes any state, its integrator as it was. -/
theorem ScannerInv.restate (h : ScannerInv s) (hm : s.scanner.mode = .fast) {p : Fin 128} {k : KeyRec}
    (hk : k.integ = (Machine.key s p).integ) : KeyFits s k :=
  ⟨hk ▸ (h.key p).1, fun hslow => by rw [hm] at hslow; cases hslow⟩

theorem mute_scannerInv (p : Fin 128) (hm : s.scanner.mode = .fast) (h : ScannerInv s) : ScannerInv (mute p s) :=
  setKey_scannerInv (h.restate hm rfl) h

/-- A press decision in FAST scan: the key leaves UP with its integrator as it was (R51 to R55). -/
theorem pressAwake_scannerInv (p : Fin 128) (hm : s.scanner.mode = .fast) (h : ScannerInv s) : ScannerInv (pressAwake p s) := by
  unfold pressAwake
  (repeat' split)
  · exact (mute_scannerInv p hm h).same (by simp [pressSuppressed])
  · exact (mute_scannerInv p hm h).same (by simp [pressRollover])
  · have hdown : ScannerInv (setKey p { key s p with state := .down, downTime := 0, holdSeen := false } s) :=
      setKey_scannerInv (h.restate hm rfl) h
    exact hdown.same (by simp [pressOrdinary])

theorem pressCases_scannerInv (p : Fin 128) (hm : s.scanner.mode = .fast) (h : ScannerInv s) : ScannerInv (pressCases p s) := by
  have hwake := wakeSource_scannerInv (.key p) h
  have hfast := wakeSource_fast (.key p) hm
  unfold pressCases
  dsimp only
  (repeat' split)
  · exact mute_scannerInv p hfast hwake
  · exact pressAwake_scannerInv p hfast hwake
  · exact pressAwake_scannerInv p hm h

theorem pressCases_fast (p : Fin 128) (hm : s.scanner.mode = .fast) : (pressCases p s).scanner.mode = .fast := by
  have hfast := wakeSource_fast (.key p) hm
  unfold pressCases
  dsimp only
  (repeat' split) <;> simpa [mute]

theorem pressActivity_scannerInv (found : State) (h : ScannerInv s) : ScannerInv (pressActivity found s) := by
  have horder : ScannerInv (takeOrder s).2 := h.same ⟨rfl, rfl, rfl, rfl⟩
  unfold pressActivity
  dsimp only
  (repeat' split)
  · exact (lingerExpiry_scannerInv horder).same (by simp)
  · exact horder.same (by simp)
  · exact h.same (by simp)

theorem pressActivity_fast (found : State) (hm : s.scanner.mode = .fast) : (pressActivity found s).scanner.mode = .fast := by
  have hexpiry := lingerExpiry_fast (s := (takeOrder s).2) hm
  unfold pressActivity
  dsimp only
  (repeat' split) <;> simpa

/-- A press in FAST scan keeps the ranges and the mode. -/
theorem press_scannerInv (p : Fin 128) (h : ScannerInv s ∧ s.scanner.mode = .fast) :
    ScannerInv (press p s) ∧ (press p s).scanner.mode = .fast := by
  obtain ⟨h, hm⟩ := h
  unfold press
  split
  · exact ⟨pressActivity_scannerInv s (pressCases_scannerInv p hm h), pressActivity_fast s (pressCases_fast p hm)⟩
  · exact ⟨h, hm⟩

theorem release_scannerInv (p : Fin 128) (h : ScannerInv s) : ScannerInv (release p s) := by
  obtain ⟨hinteg, hslow⟩ := h.key p
  have hup : ∀ k : KeyRec, k.integ = (key s p).integ → k.state = .up → KeyFits s k := fun k hk hstate =>
    ⟨hk ▸ hinteg, fun hm => ⟨hk ▸ (hslow hm).1, .inl hstate⟩⟩
  unfold release
  split
  · exact h
  · have hset : ScannerInv (setKey p { key s p with state := .up, downTime := 0 } s) := setKey_scannerInv (hup _ rfl rfl) h
    exact hset.same (by simp)
  · exact setKey_scannerInv (hup _ rfl rfl) h
  · exact setKey_scannerInv (hup _ rfl rfl) h

theorem holdTest_scannerInv (p : Fin 128) (h : ScannerInv s) : ScannerInv (holdTest p s) := by
  have hset : ScannerInv (setKey p { key s p with holdSeen := true } s) := setKey_scannerInv (h.key p) h
  unfold holdTest
  dsimp only
  split
  · exact hset.same (by simp)
  · exact h

theorem stuckTest_scannerInv (p : Fin 128) (h : ScannerInv s) : ScannerInv (stuckTest p s) := by
  obtain ⟨hinteg, hslow⟩ := h.key p
  have hset : ScannerInv (setKey p { key s p with state := .stuck, downTime := 0 } s) :=
    setKey_scannerInv ⟨hinteg, fun hm => ⟨(hslow hm).1, .inr rfl⟩⟩ h
  unfold stuckTest
  dsimp only
  split
  · exact hset.same (by simp)
  · exact h

theorem advanceKey_scannerInv (p : Fin 128) (h : ScannerInv s) : ScannerInv (advanceKey p s) :=
  stuckTest_scannerInv p (holdTest_scannerInv p (setKey_scannerInv (h.key p) h))

theorem advanceDownTimes_scannerInv (h : ScannerInv s) : ScannerInv (advanceDownTimes s) := by
  have hmark : ScannerInv { s with composer.downAt := now s } := h.same ⟨rfl, rfl, rfl, rfl⟩
  exact foldl_scannerInv (fun _ p hs => advanceKey_scannerInv p hs) s.composer.held hmark

theorem repeatFires_scannerInv (h : ScannerInv s) : ScannerInv (repeatFires s) := h.same (by simp)

end

end Sys2Proof.Machine
end

section
/-! PROOFS. Every step keeps the ranges of the scanner, the integrators and the profiles (R32, R37, R38, R40, R42, R45, R90). -/

namespace Sys2Proof.Machine

section
variable {s t : State}

/-! ### The Profile Unit -/

theorem mem_mapFrom {α β : Type} {f : Nat → α → β} {n : Nat} {l : List α} {b : β} (hb : b ∈ mapFrom f n l) :
    ∃ i, ∃ a ∈ l, b = f i a := by
  induction l generalizing n with
  | nil => cases hb
  | cons a l ih =>
    obtain rfl | hb := List.mem_cons.mp hb
    · exact ⟨n, a, by simp, rfl⟩
    · obtain ⟨i, a', ha', rfl⟩ := ih hb
      exact ⟨i, a', by simp [ha'], rfl⟩

theorem finishProfile_staged (code : ResultCode) (s : State) :
    (finishProfile code s).profile.staged = none ∨ (finishProfile code s).profile = s.profile := by
  unfold finishProfile
  split
  · exact .inl (by simp)
  · exact .inr rfl

@[simp] theorem finishProfile_active (code : ResultCode) (s : State) :
    (finishProfile code s).profile.active = s.profile.active := by
  unfold finishProfile
  split <;> simp

/-- A staged profile that goes, or stays as it was, keeps the ranges. -/
theorem ScannerInv.staged_of (h : ScannerInv s) (ht : t.profile.staged = none ∨ t.profile = s.profile) (st : Staged)
    (hst : t.profile.staged = some st) : ProfileRanges st.profile := by
  obtain ht | ht := ht
  · rw [ht] at hst
    cases hst
  · exact h.staged st (ht ▸ hst)

theorem finishProfile_scannerInv (code : ResultCode) (h : ScannerInv s) : ScannerInv (finishProfile code s) :=
  h.setStaged (h.staged_of (finishProfile_staged code s)) (by simp)

/-- The swap of a profile within its ranges: V is 0 without adaptation, and every integrator is clamped to the new T_press,
or starts from 0 (R41, R98). -/
theorem scannerSwap_scannerInv (p : Profile) (hp : ProfileRanges p) (h : ScannerInv s) :
    ScannerInv (scannerSwap s.profile.active { s with profile.active := p }) := by
  refine ⟨hp, h.staged, ?_, fun hadapt => ?_, fun k hk => ?_, h.chatter, h.window, h.idleFast, h.active45, fun hm => ?_⟩
  · have := h.vib
    simp only [scannerSwap]
    split <;> omega
  · have hoff : p.adaptation = false := hadapt
    simp [scannerSwap, hoff]
  · obtain ⟨i, k', -, rfl⟩ := mem_mapFrom hk
    exact swapInteg_le _ _ _ _
  · obtain ⟨hvib, hchatter, hwindow, hkeys⟩ := h.slow hm
    refine ⟨by simp [scannerSwap, hvib], hchatter, hwindow, fun k hk => ?_⟩
    obtain ⟨i, k', hk', rfl⟩ := mem_mapFrom hk
    obtain ⟨hinteg, hstate⟩ := hkeys k' hk'
    exact ⟨by simp [swapInteg, hinteg], hstate⟩

theorem swapProfile_scannerInv {st : Staged} (hst : s.profile.staged = some st) (h : ScannerInv s) :
    ScannerInv (swapProfile st s) := by
  have hswap := scannerSwap_scannerInv st.profile (h.staged st hst) h
  have hrepeat : ScannerInv (stopRepeat (scannerSwap s.profile.active { s with profile.active := st.profile })) :=
    hswap.same ⟨rfl, rfl, rfl, rfl⟩
  exact finishProfile_scannerInv .ok (hrepeat.same (by simp))

theorem quietTest_scannerInv (h : ScannerInv s) : ScannerInv (quietTest s) := by
  unfold quietTest
  (repeat' split)
  · exact h
  · next hst _ => exact swapProfile_scannerInv hst h
  · exact h

theorem profileExpiry_scannerInv (h : ScannerInv s) : ScannerInv (profileExpiry s) := by
  unfold profileExpiry
  (repeat' split)
  · exact h
  · exact finishProfile_scannerInv _ h
  · exact h

/-! ### A profile image (R93 to R95) -/

theorem classesOfBytes_length {bs : List Byte} {cs : List KeyClass} (h : classesOfBytes bs = some cs) : cs.length = bs.length := by
  induction bs generalizing cs with
  | nil =>
    cases h
    rfl
  | cons b bs ih =>
    unfold classesOfBytes at h
    split at h
    · next hcs =>
      cases h
      simp [ih hcs]
    · cases h

theorem imageClasses_length {image : List Byte} {cs : List KeyClass} (hlen : image.length = 416)
    (h : imageClasses image = some cs) : cs.length = 128 := by
  rw [classesOfBytes_length h]
  simp [hlen]

theorem clampTo_range {lo hi : Nat} (h : lo ≤ hi) (v : Nat) : lo ≤ clampTo lo hi v ∧ clampTo lo hi v ≤ hi := by
  unfold clampTo
  omega

/-- Every number of an image is brought into its range (R95). -/
theorem imageProfile_ranges (image : List Byte) {cs : List KeyClass} (h : cs.length = 128) :
    ProfileRanges (imageProfile image cs) := by
  have hpress := clampTo_range (lo := 2) (hi := 12) (by omega) (param8 image 2).toNat
  refine ⟨hpress, ?_, ?_, clampTo_range (by omega) _, clampTo_range (by omega) _, clampTo_range (by omega) _, h, by
    simp [imageProfile]⟩
  · have hrelease := clampTo_range (Nat.zero_le (clampTo 2 12 (param8 image 2).toNat - 1)) (param8 image 3).toNat
    simp only [imageProfile]
    omega
  · simp only [imageProfile, clampOrZero]
    split
    · exact .inl rfl
    · exact .inr (clampTo_range (by omega) _)

theorem takeProfile_scannerInv (j : Job) (h : ScannerInv s) : ScannerInv (takeProfile j s) := by
  unfold takeProfile
  dsimp only
  split
  · exact h.same (by simp)
  · split
    · exact h.same (by simp)
    · next hcs =>
      have hlen := imageClasses_length (by simp [profileImage, Memory.reads]) hcs
      refine h.setStaged (fun st hst => ?_) ⟨rfl, rfl, rfl, rfl⟩
      cases hst
      exact imageProfile_ranges _ hlen

/-! ### The passes (R28, R42) -/

/-- Steps 1 to 5 of a FAST pass keep the ranges and the mode (R28, R32, R36). -/
theorem fastPassDecide_scannerInv (raw : BitVec 128) (hm : s.scanner.mode = .fast) (h : ScannerInv s) :
    ScannerInv (fastPassDecide raw s) ∧ (fastPassDecide raw s).scanner.mode = .fast := by
  let begun : State := { s with
    composer.keys := integrated (pressThreshold s) (samples raw s) s.composer.keys, scanner.passAt := now s,
    scanner.driven := true }
  have hbegun : ScannerInv begun := by
    refine ⟨h.active, h.staged, h.vib, h.adaptation, fun k hk => ?_, h.chatter, h.window, h.idleFast, h.active45,
      fun hslow => ?_⟩
    · obtain ⟨i, k', hk', rfl⟩ := mem_mapFrom hk
      have hinteg : k'.integ ≤ pressThreshold s := h.integ k' hk'
      change integrate (pressThreshold s) _ k'.integ ≤ pressThreshold s
      unfold integrate
      split <;> omega
    · have hslow' : s.scanner.mode = .slow := hslow
      rw [hm] at hslow'
      cases hslow'
  have hpress : ∀ (l : List (Fin 128)) (v : State), ScannerInv v ∧ v.scanner.mode = .fast →
      ScannerInv (l.foldl (fun v p => press p v) v) ∧ (l.foldl (fun v p => press p v) v).scanner.mode = .fast := by
    intro l
    induction l with
    | nil => exact fun _ hv => hv
    | cons p l ih => exact fun v hv => ih _ (press_scannerInv p hv)
  have hrelease := foldl_scannerInv (fun _ p hv => release_scannerInv p hv)
    (releases s.profile.active.releaseBase begun.composer.keys) hbegun
  obtain ⟨hdecided, hfast⟩ := hpress (presses (pressThreshold s) begun.composer.keys) _
    ⟨hrelease, (foldl_keeps _ (fun v => v.scanner.mode) (by simp) _ _).trans hm⟩
  refine ⟨⟨hdecided.active, hdecided.staged, hdecided.vib, hdecided.adaptation, fun k hk => ?_, Nat.min_le_left ..,
    hdecided.window, hdecided.idleFast, hdecided.active45, fun hslow => ?_⟩, hfast⟩
  · obtain ⟨i, k', hk', rfl⟩ := mem_mapFrom hk
    exact hdecided.integ k' hk'
  · have hslow' := hfast.symm.trans hslow
    cases hslow'

theorem nextVib_le {v : Nat} (hv : v ≤ 8) (adaptation : Bool) (c : Nat) : nextVib adaptation v c ≤ 8 := by
  unfold nextVib
  dsimp only
  (repeat' split) <;> omega

/-- The state with one more pass of the window counted (R28, step 6). -/
def windowCounted (s : State) : State := { s with scanner.windowPasses := s.scanner.windowPasses + 1 }

theorem countWindow_eq (s : State) :
    countWindow s = if windowFull (windowCounted s) then endWindow (windowCounted s) else windowCounted s := rfl

theorem windowFull_iff (s : State) : windowFull s = true ↔ 64 ≤ s.scanner.windowPasses := decide_eq_true_iff

/-- The state with the idle pass count of a pass in STANDBY (R28, step 7). -/
def idleCounted (s : State) : State :=
  { s with scanner.idlePasses := if quiet s then s.scanner.idlePasses + 1 else 0 }

theorem countIdle_standby (h : s.power.standby = true) :
    countIdle s = if slowDue (idleCounted s) then enterSlow (idleCounted s) else idleCounted s := if_pos h

/-- In ACTIVE there is no idle accounting (R45). -/
theorem countIdle_active (h : s.power.standby = false) : countIdle s = s := by simp [countIdle, h]

theorem slowDue_iff (s : State) :
    slowDue s = true ↔ s.power.standby = true ∧ s.scanner.mode = .fast ∧ 2000 ≤ s.scanner.idlePasses := by
  simp only [slowDue, Bool.and_eq_true, beq_iff_eq, decide_eq_true_eq, and_assoc]
  rfl

/-- The end of a window leaves V at most 8, every integrator at most the new T_press and the counts 0 (R38 to R40). -/
theorem endWindow_scannerInv (hprofile : t.profile = s.profile) (hvib : t.scanner.vib = s.scanner.vib)
    (hm : t.scanner.mode = .fast) (hidle : t.scanner.idlePasses = s.scanner.idlePasses)
    (hstandby : t.power.standby = s.power.standby) (h : ScannerInv s) (hfast : s.scanner.mode = .fast) :
    ScannerInv (endWindow t) := by
  refine ⟨hprofile ▸ h.active, hprofile ▸ h.staged, nextVib_le (hvib ▸ h.vib) _ _, fun hoff => ?_, fun k hk => ?_,
    Nat.zero_le _, by simp, fun _ => hidle ▸ h.idleFast hfast, fun ha => ?_, fun hslow => ?_⟩
  · have hoff' : t.profile.active.adaptation = false := hoff
    simp [nextVib, hoff']
  · obtain ⟨k', -, rfl⟩ := List.mem_map.mp hk
    exact Nat.min_le_right ..
  · exact ⟨hm, hidle ▸ (h.active45 (hstandby ▸ ha)).2⟩
  · have hslow' := hm.symm.trans hslow
    cases hslow'

/-- Window accounting in FAST scan keeps the ranges: before the 64th pass the count alone grows (R37). -/
theorem countWindow_scannerInv (hm : s.scanner.mode = .fast) (h : ScannerInv s) :
    ScannerInv (countWindow s) ∧ (countWindow s).scanner.mode = .fast := by
  rw [countWindow_eq]
  split
  · exact ⟨endWindow_scannerInv (s := s) rfl rfl hm rfl rfl h hm, hm⟩
  · next hfull =>
    have hless : (windowCounted s).scanner.windowPasses < 64 := by
      by_contra hmore
      exact hfull ((windowFull_iff _).mpr (by omega))
    exact ⟨⟨h.active, h.staged, h.vib, h.adaptation, h.integ, h.chatter, hless, h.idleFast, h.active45,
      fun hslow => by rw [windowCounted, hm] at hslow; cases hslow⟩, hm⟩

/-- Idle accounting: the entry into SLOW scan falls at a pass that found every key UP or STUCK (R45). -/
theorem countIdle_scannerInv (hm : s.scanner.mode = .fast) (h : ScannerInv s) : ScannerInv (countIdle s) := by
  cases hstandby : s.power.standby with
  | false => rwa [countIdle_active hstandby]
  | true =>
    have hactive : s.power.standby ≠ false := by simp [hstandby]
    rw [countIdle_standby hstandby]
    split
    · next hslow =>
      have hquiet : quiet s = true := by
        by_contra hq
        simp [slowDue_iff, idleCounted, hq] at hslow
      rw [quiet_iff] at hquiet
      refine ⟨h.active, h.staged, Nat.zero_le _, fun _ => rfl, fun k hk => ?_, Nat.zero_le _, by simp, by simp,
        fun ha => absurd ha hactive, fun _ => ⟨rfl, rfl, rfl, fun k hk => ?_⟩⟩
      · obtain ⟨k', -, rfl⟩ := List.mem_map.mp hk
        exact Nat.zero_le _
      · obtain ⟨k', hk', rfl⟩ := List.mem_map.mp hk
        exact ⟨rfl, hquiet k' hk'⟩
    · next hslow =>
      have hless : (idleCounted s).scanner.idlePasses < 2000 := by
        by_contra hfull
        exact hslow ((slowDue_iff _).mpr ⟨hstandby, hm, by omega⟩)
      exact ⟨h.active, h.staged, h.vib, h.adaptation, h.integ, h.chatter, h.window, fun _ => hless,
        fun ha => absurd ha hactive, fun hs => by rw [idleCounted, hm] at hs; cases hs⟩

theorem fastPass_scannerInv (raw : BitVec 128) (hm : s.scanner.mode = .fast) (h : ScannerInv s) :
    ScannerInv (fastPass raw s) := by
  obtain ⟨hdecide, hfast⟩ := fastPassDecide_scannerInv raw hm h
  obtain ⟨hwindow, hfast⟩ := countWindow_scannerInv hfast hdecide
  exact quietTest_scannerInv (countIdle_scannerInv hfast hwindow)

theorem slowBoundary_scannerInv (sw : Bool) (h : ScannerInv s) : ScannerInv (slowBoundary sw s) := by
  have horder : ScannerInv (takeOrder s).2 := h.same ⟨rfl, rfl, rfl, rfl⟩
  unfold slowBoundary
  dsimp only
  (repeat' split)
  · exact switchToFast_scannerInv (quietTest_scannerInv horder)
  · exact quietTest_scannerInv (switchToFast_scannerInv horder)
  · exact quietTest_scannerInv (switchToFast_scannerInv h)
  · exact quietTest_scannerInv h

theorem storeSamples_scannerInv (closed : List Bool) (h : ScannerInv s) : ScannerInv (storeSamples closed s) := by
  refine h.setKeys (fun k hk => ?_) (by simp)
  obtain ⟨i, k', hk', rfl⟩ := mem_mapFrom hk
  have hfits := h.fits hk'
  exact hfits

theorem slowPass_scannerInv (raw : BitVec 128) (h : ScannerInv s) : ScannerInv (slowPass raw s) := by
  have hbegun : ScannerInv { s with scanner.passAt := now s, scanner.driven := true } :=
    ⟨h.active, h.staged, h.vib, h.adaptation, h.integ, h.chatter, h.window, h.idleFast, h.active45, h.slow⟩
  have hreleased := foldl_scannerInv (fun _ p hv => release_scannerInv p hv)
    (stuckOpen (samples raw s) s.composer.keys) hbegun
  exact slowBoundary_scannerInv _ (storeSamples_scannerInv _ hreleased)

/-! ### The contexts -/

theorem takePanel_scannerInv (j : Job) (h : ScannerInv s) : ScannerInv (takePanel j s) := by
  have hwish : ScannerInv { s with scanout.wish := panelWish j.params } := h.same ⟨rfl, rfl, rfl, rfl⟩
  have happlied : ScannerInv (applyWish (panelWish j.params) s) := by
    unfold applyWish
    dsimp only
    split
    · exact wakeSource_scannerInv .host hwish
    · exact hwish.same (by simp)
  unfold takePanel
  dsimp only
  split
  · exact happlied.same (by simp)
  · exact happlied.same ⟨rfl, rfl, rfl, rfl⟩

theorem takeSettings_scannerInv (j : Job) (h : ScannerInv s) : ScannerInv (takeSettings j s) := by
  unfold takeSettings
  (repeat' split)
  · exact h.same (by simp)
  · exact h.same (by simp)
  · exact lingerRetime_scannerInv (h.same ⟨rfl, rfl, rfl, rfl⟩)
  · exact takePanel_scannerInv j h
  · exact h.same (by simp)

theorem look_scannerInv (h : ScannerInv s) : ScannerInv (look s) := by
  unfold look
  generalize s.exch.queue.length = n
  induction n generalizing s with
  | zero => exact h
  | succ n ih =>
    unfold lookFor
    split
    · exact h
    · next t ht =>
      refine ih ?_
      obtain ⟨-, e, -, rfl⟩ | ⟨-, -, e, -, rfl⟩ | ⟨-, e, -, rfl⟩ := oneTake_cases ht
      · exact takeSettings_scannerInv _ (h.same (by simp))
      · exact h.same (by simp)
      · exact takeProfile_scannerInv _ (h.same (by simp))

/-! ### The session and the tablet's writes -/

theorem endSession_staged (s : State) : (endSession s).profile.staged = none ∨ (endSession s).profile = s.profile := by
  unfold endSession
  split
  · exact .inl (by simp [closeSession_profile])
  · exact .inr rfl

theorem endSession_scannerInv (h : ScannerInv s) : ScannerInv (endSession s) :=
  h.setStaged (h.staged_of (endSession_staged s)) (by simp)

theorem sessionWrite_scannerInv (v : Word) (h : ScannerInv s) : ScannerInv (sessionWrite v s) := by
  unfold sessionWrite
  (repeat' split)
  · exact h
  · exact h.same (by simp)
  · exact h.same (by simp)
  · exact endSession_scannerInv h
  · exact h.same (by simp)

theorem cancelActive_scannerInv (k : Fin 16) (h : ScannerInv s) : ScannerInv (cancelActive k s) := by
  have hcancelling : ScannerInv (setSlotState k .cancelling s) := h.same (by simp)
  unfold cancelActive
  dsimp only
  (repeat' split)
  · exact hcancelling.same (by simp)
  · exact finishProfile_scannerInv _ hcancelling
  · exact hcancelling.same (by simp)
  · exact hcancelling

theorem postWrite_scannerInv (k : Fin 16) (h : ScannerInv s) : ScannerInv (postWrite k s) := by
  unfold postWrite
  split
  · exact look_scannerInv (h.same ⟨rfl, rfl, rfl, rfl⟩)
  · exact h.same (by simp)

theorem cancelWrite_scannerInv (k : Fin 16) (h : ScannerInv s) : ScannerInv (cancelWrite k s) := by
  unfold cancelWrite
  (repeat' split)
  · exact h.same (by simp)
  · exact h.same (by simp)
  · exact look_scannerInv (h.same (by simp))
  · exact look_scannerInv (cancelActive_scannerInv k h)
  all_goals exact h

theorem slotStateWrite_scannerInv (k : Fin 16) (v : Word) (h : ScannerInv s) : ScannerInv (slotStateWrite k v s) := by
  unfold slotStateWrite
  (repeat' split)
  · exact h.same (by simp)
  · exact postWrite_scannerInv k h
  · exact cancelWrite_scannerInv k h
  · exact h.same (by simp)

theorem exchangeWrite_scannerInv (w : BitVec 14) (be : BitVec 4) (v : Word) (h : ScannerInv s) :
    ScannerInv (exchangeWrite w be v s) := by
  unfold exchangeWrite
  split
  · exact h.same ⟨rfl, rfl, rfl, rfl⟩
  · exact h.same (by simp)
  · exact h
  · next g _ =>
    split
    · cases g with
      | session => exact sessionWrite_scannerInv v h
      | taken => exact h.same (by simp [guardedWrite])
      | mark => exact h.same (by simp [guardedWrite])
      | acknowledge => exact h.same (by simp [guardedWrite])
      | slotState k => exact slotStateWrite_scannerInv k v h
    · exact h.same (by simp)

/-! ### Lines, link and starts -/

theorem lineChange_scannerInv (line : Line) (b : Bool) (h : ScannerInv s) : ScannerInv (lineChange line b s) := by
  cases line with
  | ign =>
    have hline : ScannerInv { s with lines.ignOn := b } := h.same ⟨rfl, rfl, rfl, rfl⟩
    have hdrive : ScannerInv (deriveDrive (plainRecord .vehicle (if b then 1 else 2) { s with lines.ignOn := b })) := hline.same (by simp)
    simp only [lineChange, ignChange]
    cases b with
    | true =>
      have hstopped : ScannerInv { deriveDrive (plainRecord .vehicle 1 { s with lines.ignOn := true }) with
          power.lingerEnds := none } := hdrive.same ⟨rfl, rfl, rfl, rfl⟩
      have hon : ScannerInv (ignitionOn (deriveDrive (plainRecord .vehicle 1 { s with lines.ignOn := true }))) :=
        wakeSource_scannerInv .ignitionOn hstopped
      exact hon.same (by simp)
    | false => exact (ignitionOff_scannerInv hdrive).same (by simp)
  | park => exact h.same (by simp [lineChange, parkChange])
  | presence =>
    have hline : ScannerInv { s with lines.docked := b } := h.same ⟨rfl, rfl, rfl, rfl⟩
    simp only [lineChange, presenceChange]
    split
    · exact wakeSource_scannerInv _ hline
    · exact endSession_scannerInv hline
  | latch =>
    have hline : ScannerInv { s with lines.latchOpen := b } := h.same ⟨rfl, rfl, rfl, rfl⟩
    have hrec : ScannerInv (plainRecord .latch (if b then 1 else 2) { s with lines.latchOpen := b }) := hline.same (by simp)
    simp only [lineChange, latchChange]
    split
    · next hb => simpa [hb] using wakeSource_scannerInv .latch hrec
    · next hb => simpa [hb] using hrec

theorem lineExpiry_scannerInv (line : Line) (h : ScannerInv s) : ScannerInv (lineExpiry line s) := by
  have htimer : ScannerInv (setLineTimer line none s) := h.same (by simp)
  unfold lineExpiry
  dsimp only
  (repeat' split)
  · exact htimer
  · exact lineChange_scannerInv line _ htimer
  · exact h

theorem failFetches_scannerInv (n : Nat) (h : ScannerInv s) : ScannerInv (failFetches n s) := by
  induction n generalizing s with
  | zero => exact h
  | succ n ih =>
    have horder : ScannerInv (takeOrder s).2 := h.same ⟨rfl, rfl, rfl, rfl⟩
    have hfailed : ScannerInv (failPicture (takeOrder s).2) := horder.same (by simp)
    unfold failFetches
    dsimp only
    (repeat' split)
    · exact ih (look_scannerInv hfailed)
    · exact horder
    · exact h

theorem linkDown_scannerInv (h : ScannerInv s) : ScannerInv (linkDown s) := by
  have hlink : ScannerInv { s with link.up := false } := h.same ⟨rfl, rfl, rfl, rfl⟩
  unfold linkDown
  split
  · have hended := endSession_scannerInv (failFetches_scannerInv (s.exch.queue.length + 1) hlink)
    exact hended.same (by simp [linkLost])
  · exact h

theorem linkReset_scannerInv (h : ScannerInv s) : ScannerInv (linkReset s) := by
  have hended : ScannerInv (giveUpReads (endSession s)) := (endSession_scannerInv h).same (by simp)
  exact hended.same ⟨rfl, rfl, rfl, rfl⟩

theorem trip_scannerInv (h : ScannerInv s) : ScannerInv (trip s) :=
  (endSession_scannerInv h).same ⟨rfl, rfl, rfl, rfl⟩

/-- The scanner, the keys and the profiles at a start, the scanner's marks aside (R47, R71, R91). -/
theorem scannerInv_of_start {mark : Word} {driven : Bool} (hprofile : t.profile = ProfileUnit.start)
    (hscanner : t.scanner = { Scanner.start with passAt := mark, driven := driven })
    (hkeys : t.composer.keys = Composer.start.keys) : ScannerInv t :=
  scannerInv_reset.toFast hprofile (by rw [hscanner]; rfl) (by rw [hscanner]; rfl) (by rw [hscanner]; rfl)
    (by simp [hscanner, Scanner.start]) (by simp [hscanner, Scanner.start]) fun k hk => scannerInv_reset.integ k (hkeys ▸ hk)

theorem resetFunction_scannerInv (s : State) : ScannerInv (resetFunction s) :=
  scannerInv_of_start (mark := now s) (driven := s.scanner.driven) (by simp [resetFunction])
    (by simp [resetFunction, exchangeReset, now]) (by simp [resetFunction])

theorem controlWrite_scannerInv (v : Word) (h : ScannerInv s) : ScannerInv (controlWrite v s) := by
  unfold controlWrite
  dsimp only
  split
  · exact resetFunction_scannerInv _
  · exact h.same (by simp)

/-! ### Every step -/

/-- A command of the scanner acts only in FAST scan, or where its moment has come, which the ranges rule out for the two
rows that a pass takes itself (log entry 16). -/
theorem effect_scannerInv (c : Instr) (hfast : ∀ levels, c = .fastPass levels → s.scanner.mode = .fast)
    (hend : c ≠ .windowEnd) (hslow : c ≠ .slowScanEntry) (h : ScannerInv s) : ScannerInv (effect c s) := by
  cases c with
  | windowEnd => exact absurd rfl hend
  | slowScanEntry => exact absurd rfl hslow
  | fastPass levels => exact look_scannerInv (fastPass_scannerInv _ (hfast levels rfl) h)
  | slowPass levels => exact look_scannerInv (slowPass_scannerInv _ h)
  | exchangeMemoryWrite word be v => exact exchangeWrite_scannerInv word be v h
  | sessionOpen => exact sessionWrite_scannerInv 1 h
  | sessionClose => exact sessionWrite_scannerInv 2 h
  | post k => exact postWrite_scannerInv k h
  | cancel k => exact cancelWrite_scannerInv k h
  | interruptEnableWrite v => exact controlWrite_scannerInv v h
  | functionReset v => exact controlWrite_scannerInv (v ||| 2) h
  | registerWriteIgnored word be v =>
    simp only [effect, registerWrite]
    split
    · exact controlWrite_scannerInv v h
    · exact h
  | linkDown => exact linkDown_scannerInv h
  | linkReset => exact linkReset_scannerInv h
  | downTimeAdvance => exact advanceDownTimes_scannerInv h
  | hold p => exact holdTest_scannerInv p h
  | stuck p => exact stuckTest_scannerInv p h
  | repeatExpiry => exact repeatFires_scannerInv h
  | profileWaitExpiry => exact look_scannerInv (profileExpiry_scannerInv h)
  | clearingEnd =>
    refine look_scannerInv ?_
    unfold endClearing
    split
    · exact h.same ⟨rfl, rfl, rfl, rfl⟩
    · exact h
  | settingsCompletion | hostReadCompletion _ _ _ _ _ | hostReadTimeout _ | rowWriteComplete | carryCopyRowComplete
  | verticalBlankStart | panelStageExpiry | supplyConversionComplete _ => exact look_scannerInv (h.same (by simp))
  | qualificationExpiry line => exact look_scannerInv (lineExpiry_scannerInv line h)
  | lingerExpiry => exact look_scannerInv (lingerExpiry_scannerInv h)
  | survivalComparatorTrip => exact trip_scannerInv h
  | supplyDipStart | coldStart _ => exact scannerInv_of_start (mark := 0) (driven := false) rfl rfl rfl
  | free _ | attentionAcknowledge _ | journalTakenWrite _ | notifyMarkWrite _ | msiEnableChange _
  | interruptDisableChange _ | busMasteringChange _ | linkUp | conversionDue | ambientConversionComplete _ | lightTick
  | idleExpiry | lineEdge _ _ | dockTimeAdvance =>
    exact h.same (by simp [effect, startConversion])

/-- An event that has a moment answers the state it found, or its effect where the moment has come (log entry 3). -/
theorem ifDue_next {c : State → Bool} {f : State → State} (h : (.next (whenRunning (ifDue c f) s) : Result) = .next t) :
    t = s ∨ (c s = true ∧ t = f s) := by
  cases h
  unfold whenRunning ifDue
  (repeat' split)
  · exact .inl rfl
  · exact .inr ⟨by assumption, rfl⟩
  · exact .inl rfl

/-- A FAST pass acts in FAST scan alone, and within the ranges a window end and a SLOW scan entry are never due of
themselves: the pass has made them (log entry 16). -/
theorem exec_scannerInv {c : Instr} (h : ScannerInv s) (ht : exec c s = .next t) : ScannerInv t := by
  by_cases hc : (∃ levels, c = .fastPass levels) ∨ c = .windowEnd ∨ c = .slowScanEntry
  · obtain ⟨levels, rfl⟩ | rfl | rfl := hc <;> obtain rfl | ⟨hdue, rfl⟩ := ifDue_next ht
    case inl.inr =>
      simp only [fastDue, Bool.and_eq_true, beq_iff_eq] at hdue
      exact look_scannerInv (s := fastPass (rawOfLevels levels) s) (fastPass_scannerInv _ hdue.1 h)
    case inr.inl.inr =>
      have := h.window
      simp only [Bool.and_eq_true, windowFull_iff] at hdue
      omega
    case inr.inr.inr =>
      have := h.idleFast ((slowDue_iff s).mp hdue).2.1
      have := ((slowDue_iff s).mp hdue).2.2
      omega
    all_goals exact h
  · simp only [not_or, not_exists] at hc
    obtain ⟨hpass, hend, hslow⟩ := hc
    obtain rfl | rfl := exec_next ht
    · exact h
    · exact effect_scannerInv c (fun levels hl => absurd hl (hpass levels)) hend hslow h

/-- Settles O7: the front command runs on the queue's rest, and every command keeps the ranges. -/
theorem stepKeepsScannerRanges : Obligations.StepKeepsScannerRanges := by
  intro s t h ht
  unfold step at ht
  split at ht
  · cases ht
    exact h
  · next c rest _ =>
    have hrest : ScannerInv { s with pending := rest } := h.same ⟨rfl, rfl, rfl, rfl⟩
    exact exec_scannerInv hrest ht

end

end Sys2Proof.Machine
end

section
/-! PROOFS. The end of a chatter window and the entry into SLOW scan, as rows of their own and at the end of a FAST pass
(R37 to R40, R45). -/

namespace Sys2Proof.Machine

section
variable {s : State}

/-! ### Events that have a moment (log entry 3) -/

theorem next_ifDue {c : State → Bool} (h : Running s) (hc : c s = true) (f : State → State) :
    (.next (whenRunning (ifDue c f) s) : Result) = .next (f s) := by
  rw [next_whenRunning h, ifDue, if_pos hc]

theorem next_notDue {c : State → Bool} (hc : c s = false) (f : State → State) :
    (.next (whenRunning (ifDue c f) s) : Result) = .next s := by
  simp [whenRunning, ifDue, hc]

theorem exec_windowEnd (h : Running s) (hm : s.scanner.mode = .fast) (hfull : 64 ≤ s.scanner.windowPasses) :
    exec .windowEnd s = .next (endWindow s) :=
  next_ifDue h (by simp [hm, (windowFull_iff s).mpr hfull]) endWindow

theorem exec_windowEnd_early (hless : s.scanner.windowPasses < 64) : exec .windowEnd s = .next s := by
  have hfull : windowFull s = false := by
    rw [← Bool.not_eq_true, windowFull_iff]
    omega
  exact next_notDue (by simp [hfull]) endWindow

theorem exec_slowScanEntry (h : Running s) (hslow : slowDue s = true) : exec .slowScanEntry s = .next (enterSlow s) :=
  next_ifDue h hslow enterSlow

/-! ### The accountings of a pass (R28) -/

theorem countWindow_last (h : s.scanner.windowPasses = 63) : countWindow s = endWindow (windowCounted s) := by
  rw [countWindow_eq, if_pos ((windowFull_iff _).mpr (by simp [windowCounted, h]))]

theorem countWindow_before (h : s.scanner.windowPasses < 63) : countWindow s = windowCounted s := by
  rw [countWindow_eq, if_neg]
  rw [windowFull_iff, windowCounted]
  exact Nat.not_le.mpr (Nat.succ_lt_succ h)

theorem idleCounted_quiet (h : quiet s = true) :
    idleCounted s = { s with scanner := { s.scanner with idlePasses := s.scanner.idlePasses + 1 } } := by
  simp [idleCounted, h]

theorem idleCounted_engaged (h : quiet s = false) :
    idleCounted s = { s with scanner := { s.scanner with idlePasses := 0 } } := by
  simp [idleCounted, h]

theorem countIdle_entry (hs : s.power.standby = true) (hdue : slowDue (idleCounted s) = true) :
    countIdle s = enterSlow (idleCounted s) := by rw [countIdle_standby hs, if_pos hdue]

/-- Before the 2000th idle pass the count alone moves (R45). -/
theorem countIdle_before (hs : s.power.standby = true) (hless : (idleCounted s).scanner.idlePasses < 2000) :
    countIdle s = idleCounted s := by
  rw [countIdle_standby hs, if_neg]
  rw [slowDue_iff]
  rintro ⟨-, -, hfull⟩
  omega

/-- A table with a key that is DOWN or MUTED is not quiet (R45). -/
theorem quiet_of_engaged (h : ∃ k ∈ s.composer.keys, k.state = .down ∨ k.state = .muted) : quiet s = false := by
  rw [← Bool.not_eq_true, quiet_iff]
  intro hquiet
  obtain ⟨k, hk, hstate⟩ := h
  rcases hquiet k hk with hk' | hk' <;> simp [hk'] at hstate

/-! ### V (R38 to R40) -/

/-- With adaptation V jumps up to the raw value, falls by one toward it, or stays. -/
theorem nextVib_adapting (v c : Nat) : (v < min 8 (c / 4) → nextVib true v c = min 8 (c / 4)) ∧
    (min 8 (c / 4) < v → nextVib true v c = v - 1) ∧ (v = min 8 (c / 4) → nextVib true v c = v) := by
  simp only [nextVib, if_true]
  refine ⟨fun h => if_pos h, fun h => ?_, fun h => ?_⟩
  · rw [if_neg (by omega), if_pos h]
  · rw [if_neg (by omega), if_neg (by omega)]

/-- The vibration level as the tablet reads it (section 1.8.1). -/
theorem readWord_vib (s : State) : byteOf (readWord s 0x003C) 2 = BitVec.ofNat 8 s.scanner.vib :=
  (byteOf_pack8 s.light.output s.light.keyLight s.scanner.vib s.composer.held.length).2.2.1

/-- Settles O29: each row by its moment, and each accounting of a pass by its count. -/
theorem windowEndAndSlowEntry : Obligations.WindowEndAndSlowEntry := by
  refine ⟨fun s h hm => ⟨fun hfull => ?_, exec_windowEnd_early, fun hlast => ?_, countWindow_before⟩,
    fun s h hm => ⟨fun hs hfull => ?_, fun hearly => ?_, fun hs hkeys hlast => ?_, fun hs hkeys hless => ?_, fun hs hkeys => ?_,
      countIdle_active⟩⟩
  · refine ⟨_, exec_windowEnd h hm hfull, rfl, rfl, fun hadapt => ?_, fun hadapt => ?_, fun hadapt => ?_, fun hoff => ?_,
      readWord_vib _, rfl⟩
    · simpa [hadapt] using (nextVib_adapting s.scanner.vib s.scanner.chatter).1
    · simpa [hadapt] using (nextVib_adapting s.scanner.vib s.scanner.chatter).2.1
    · simpa [hadapt] using (nextVib_adapting s.scanner.vib s.scanner.chatter).2.2
    · simp [nextVib, hoff]
  · rw [countWindow_last hlast, exec_windowEnd (s := { s with scanner := { s.scanner with windowPasses := 64 } }) h hm (Nat.le_refl 64)]
    rfl
  · exact exec_slowScanEntry h ((slowDue_iff s).mpr ⟨hs, hm, hfull⟩)
  · refine next_notDue ?_ enterSlow
    rw [← Bool.not_eq_true, slowDue_iff]
    rintro ⟨hs, -, hfull⟩
    rcases hearly with hactive | hless
    · simp [hs] at hactive
    · omega
  · have hcounted : idleCounted s = { s with scanner := { s.scanner with idlePasses := 2000 } } := by
      rw [idleCounted_quiet ((quiet_iff s).mpr hkeys), hlast]
    have hdue : slowDue (idleCounted s) = true := by
      rw [hcounted, slowDue_iff]
      exact ⟨hs, hm, Nat.le_refl 2000⟩
    rw [countIdle_entry hs hdue, ← hcounted]
    exact exec_slowScanEntry (s := idleCounted s) h hdue
  · have hcounted := idleCounted_quiet ((quiet_iff s).mpr hkeys)
    rw [countIdle_before hs, hcounted]
    rw [hcounted]
    exact Nat.succ_lt_succ hless
  · have hcounted := idleCounted_engaged (quiet_of_engaged hkeys)
    rw [countIdle_before hs, hcounted]
    rw [hcounted]
    exact Nat.zero_lt_succ _

end

end Sys2Proof.Machine
end

section
/-! PROOFS. The Key State Table position by position: the samples of a pass, and what the decisions handed over leave of each
key (R29, R30, R33 to R35). -/

namespace Sys2Proof.Machine

section
variable {s : State}

/-! ### A table of 128 keys read by position (R27, R48) -/

theorem mem_positions (p : Fin 128) : p ∈ positions :=
  List.mem_map.mpr ⟨p.val, List.mem_range.mpr p.isLt, Fin.ofNat_val_eq_self p⟩

theorem positions_getElem? {i : Nat} (hi : i < 128) : positions[i]? = some ⟨i, hi⟩ := by
  simp [positions, hi, Fin.ofNat, Nat.mod_eq_of_lt hi]

theorem keyOf_eq_getElem {keys : List KeyRec} {p : Fin 128} (h : p.val < keys.length) : keyOf keys p = keys[p.val] := by
  rw [keyOf, List.getD_eq_getElem]

/-- What is computed of each key with its index is computed of each position with its record. -/
theorem mapFrom_eq_positions {β : Type} (f : Nat → KeyRec → β) {keys : List KeyRec} (h : keys.length = 128) :
    mapFrom f 0 keys = positions.map fun p => f p.val (keyOf keys p) := by
  refine List.ext_getElem? fun i => ?_
  rw [mapFrom_getElem?, List.getElem?_map, Nat.zero_add]
  by_cases hi : i < 128
  · have hk := keyOf_eq_getElem (keys := keys) (p := ⟨i, hi⟩) (by omega)
    rw [positions_getElem? hi, List.getElem?_eq_getElem (by omega)]
    simp [hk]
  · rw [List.getElem?_eq_none (by omega), List.getElem?_eq_none (by simp [positions]; omega)]
    rfl

theorem keyOf_mapFrom (f : Nat → KeyRec → KeyRec) {keys : List KeyRec} (h : keys.length = 128) (p : Fin 128) :
    keyOf (mapFrom f 0 keys) p = f p.val (keyOf keys p) := by
  rw [mapFrom_eq_positions f h, keyOf, List.getD_eq_getElem?_getD, List.getElem?_map, positions_getElem? p.isLt]
  rfl

theorem forall_keys_iff {P : KeyRec → Prop} {keys : List KeyRec} (h : keys.length = 128) :
    (∀ k ∈ keys, P k) ↔ ∀ p, P (keyOf keys p) := by
  constructor
  · intro hall p
    rw [keyOf_eq_getElem (by omega)]
    exact hall _ (List.getElem_mem _)
  · intro hall k hk
    obtain ⟨i, hi, rfl⟩ := List.mem_iff_getElem.mp hk
    rw [← keyOf_eq_getElem (p := ⟨i, by omega⟩) hi]
    exact hall _

/-! ### Samples (R29, R30) -/

theorem ghosted_iff (raw : BitVec 128) (p : Nat) : ghosted raw p = true ↔ rectangle raw p := by
  simp only [ghosted, rectangle, List.any_eq_true, List.mem_range, Bool.and_eq_true, bne_iff_ne]
  constructor
  · rintro ⟨d', hd, ⟨hne, hcol⟩, c', hc, ⟨hne', hrow⟩, hraw⟩
    exact ⟨d', c', hd, hc, hne, hne', hrow, hcol, hraw⟩
  · rintro ⟨d', c', hd, hc, hne, hne', hrow, hcol, hraw⟩
    exact ⟨d', hd, ⟨hne, hcol⟩, c', hc, ⟨hne', hrow⟩, hraw⟩

theorem sampleOf_iff (raw : BitVec 128) (cls : KeyClass) (st : KeyState) (p : Nat) :
    sampleOf raw cls st p = true ↔ raw.getLsbD p = true ∧ cls ≠ .none ∧ (st = .up → ¬rectangle raw p) := by
  unfold sampleOf
  split
  · next hnone => simp [hnone]
  · next hcls =>
    split
    · next hraw =>
      split
      · next hup => simp [hraw, hcls, hup, ← ghosted_iff]
      · next hup => simp [hraw, hcls, hup]
    · next hraw => simp [hraw]

/-- The sample of a position is closed as R29 and R30 say. -/
theorem samples_iff (raw : BitVec 128) (h : s.composer.keys.length = 128) (p : Fin 128) :
    (samples raw s).getD p.val false = true ↔ closedSample raw s p := by
  rw [samples, mapFrom_eq_positions _ h, List.getD_eq_getElem?_getD, List.getElem?_map, positions_getElem? p.isLt]
  exact sampleOf_iff raw _ _ _

theorem key_storeSamples (closed : List Bool) (h : s.composer.keys.length = 128) (p : Fin 128) :
    key (storeSamples closed s) p = { key s p with prev := closed.getD p.val false } :=
  keyOf_mapFrom (fun i k => { k with prev := closed.getD i false }) h p

/-! ### Release decisions (R57, R58) -/

@[simp] theorem setKey_length (p : Fin 128) (k : KeyRec) (s : State) :
    (setKey p k s).composer.keys.length = s.composer.keys.length := List.length_set

/-- A key after its own record is written, or another's. -/
theorem key_setKey (p q : Fin 128) (k : KeyRec) (h : s.composer.keys.length = 128) :
    key (setKey p k s) q = if q = p then k else key s q := by
  split
  · next hq => rw [hq, key_setKey_same p k s h]
  · next hq => exact key_setKey_other k s hq

theorem key_congr {t : State} (h : t.composer.keys = s.composer.keys) (p : Fin 128) : key t p = key s p := by
  simp only [key, h]

/-- A release decision leaves its key UP (R57, R58), with its integrator as it was, and every other key. -/
theorem release_key (p q : Fin 128) (h : s.composer.keys.length = 128) :
    (release p s).composer.keys.length = 128 ∧ (key (release p s) q).integ = (key s q).integ ∧
    (key (release p s) q).state = if q = p then .up else (key s q).state := by
  have hset : ∀ k : KeyRec, k.integ = (key s p).integ → k.state = .up → ∀ t : State,
      t.composer.keys = (setKey p k s).composer.keys → t.composer.keys.length = 128 ∧
        (key t q).integ = (key s q).integ ∧ (key t q).state = if q = p then .up else (key s q).state := by
    intro k hinteg hstate t ht
    rw [key_congr ht, ht, key_setKey p q k h]
    refine ⟨by simpa using h, ?_, ?_⟩ <;> split <;> simp [*]
  unfold release
  split
  · next hup =>
    refine ⟨h, rfl, ?_⟩
    split
    · next hq => rw [hq, hup]
    · rfl
  · exact hset { key s p with state := .up, downTime := 0 } rfl rfl _ (by simp)
  · exact hset { key s p with state := .up } rfl rfl _ rfl
  · exact hset { key s p with state := .up } rfl rfl _ rfl

/-- The release decisions of a pass leave their keys UP, and every other key (R35). -/
theorem foldl_release_key (l : List (Fin 128)) (q : Fin 128) (h : s.composer.keys.length = 128) :
    (l.foldl (fun s p => release p s) s).composer.keys.length = 128 ∧
    (key (l.foldl (fun s p => release p s) s) q).integ = (key s q).integ ∧
    (key (l.foldl (fun s p => release p s) s) q).state = if q ∈ l then .up else (key s q).state := by
  induction l generalizing s with
  | nil => exact ⟨h, rfl, rfl⟩
  | cons p l ih =>
    obtain ⟨hlen, hinteg, hstate⟩ := release_key p q h
    obtain ⟨hlen', hinteg', hstate'⟩ := ih hlen
    refine ⟨hlen', hinteg'.trans hinteg, ?_⟩
    rw [List.foldl_cons, hstate', hstate]
    by_cases hq : q = p <;> simp [hq]

/-- A release that finds no DOWN key writes the table alone (R58). -/
theorem release_table {p : Fin 128} (h : (key s p).state ≠ .down) :
    release p s = { s with composer := { s.composer with keys := (release p s).composer.keys } } := by
  unfold release
  split
  · rfl
  · next hdown => exact absurd hdown h
  · rfl
  · rfl

theorem foldl_release_table (l : List (Fin 128)) (hlen : s.composer.keys.length = 128)
    (h : ∀ p, (key s p).state ≠ .down) : l.foldl (fun s p => release p s) s =
      { s with composer := { s.composer with keys := (l.foldl (fun s p => release p s) s).composer.keys } } := by
  induction l generalizing s with
  | nil => rfl
  | cons p l ih =>
    have hkept : ∀ q, (key (release p s) q).state ≠ .down := fun q => by
      rw [(release_key p q hlen).2.2]
      split
      · simp
      · exact h q
    have hrest := ih (release_key p p hlen).1 hkept
    rw [List.foldl_cons, hrest, release_table (h p)]

end

end Sys2Proof.Machine
end

section
/-! PROOFS. The SLOW pass: samples stored, open STUCK keys released, the switch to FAST and the quiet test at its boundary
(R42 to R44, R97, R99). -/

namespace Sys2Proof.Machine

section
variable {s : State}

/-! ### The moment of a SLOW pass (R42) -/

theorem slowPassDue_iff (s : State) : slowPassDue s = true ↔ s.scanner.mode = .slow ∧
    s.power.dockTime ≠ s.scanner.passAt ∧ (s.power.dockTime - s.scanner.passAt).toNat % 32 = 0 := by
  simp only [slowPassDue, now, Bool.and_eq_true, beq_iff_eq, bne_iff_ne, and_assoc]
  exact and_congr_right fun _ => and_congr_right fun _ => decide_eq_true_iff

theorem exec_slowPass (h : Running s) (hdue : slowPassDue s = true) (levels : BitVec 128) :
    exec (.slowPass levels) s = .next (look (slowPass (~~~levels) s)) :=
  next_ifDue h hdue fun s => look (slowPass (rawOfLevels levels) s)

/-! ### The keys of a SLOW pass (R42, R44) -/

/-- A SLOW pass before its boundary. -/
def slowScanned (raw : BitVec 128) (s : State) : State :=
  storeSamples (samples raw s) ((stuckOpen (samples raw s) s.composer.keys).foldl (fun s p => release p s)
    { s with scanner := { s.scanner with passAt := s.power.dockTime, driven := true } })

theorem slowPass_eq (raw : BitVec 128) (s : State) :
    slowPass raw s = slowBoundary (switchTest (samples raw s) s.composer.keys) (slowScanned raw s) := rfl

/-- With every key UP or STUCK a SLOW pass writes the scanner's marks and the table alone before its boundary. -/
theorem slowScanned_table (raw : BitVec 128) (hlen : s.composer.keys.length = 128)
    (h : ∀ p, (key s p).state = .up ∨ (key s p).state = .stuck) : slowScanned raw s = { s with
      scanner := { s.scanner with passAt := s.power.dockTime, driven := true },
      composer := { s.composer with keys := (slowScanned raw s).composer.keys } } := by
  have hdown : ∀ p, (key s p).state ≠ .down := fun p => by rcases h p with hp | hp <;> simp [hp]
  have hreleased := foldl_release_table (stuckOpen (samples raw s) s.composer.keys)
    (s := { s with scanner := { s.scanner with passAt := s.power.dockTime, driven := true } }) hlen hdown
  simp only [slowScanned]
  rw [hreleased]
  rfl

/-- What a SLOW pass leaves of each key: its sample, and UP where a STUCK key is open (R42, R44). -/
theorem slowScanned_key (raw : BitVec 128) (hlen : s.composer.keys.length = 128)
    (h : ∀ p, (key s p).state = .up ∨ (key s p).state = .stuck) (p : Fin 128) :
    (slowScanned raw s).composer.keys.length = 128 ∧
    ((key (slowScanned raw s) p).prev = true ↔ closedSample raw s p) ∧
    (key (slowScanned raw s) p).integ = (key s p).integ ∧
    (key (slowScanned raw s) p).state = if (key (slowScanned raw s) p).prev then (key s p).state else .up := by
  obtain ⟨hlen', hinteg, hstate⟩ := foldl_release_key (stuckOpen (samples raw s) s.composer.keys) p
    (s := { s with scanner := { s.scanner with passAt := s.power.dockTime, driven := true } }) hlen
  have hkey := key_storeSamples (samples raw s) hlen' p
  have hopen : p ∈ stuckOpen (samples raw s) s.composer.keys ↔
      (key s p).state = .stuck ∧ (samples raw s).getD p.val false = false := by
    simp [stuckOpen, mem_positions, key]
  rw [slowScanned, hkey]
  refine ⟨by simpa [mapFrom_length] using hlen', samples_iff raw hlen p, hinteg, ?_⟩
  rw [hstate]
  simp only [hopen]
  change (if (key s p).state = .stuck ∧ (samples raw s).getD p.val false = false then KeyState.up else (key s p).state) = _
  cases (samples raw s).getD p.val false with
  | true => simp
  | false => rcases h p with hp | hp <;> simp [hp]

/-- The switch test finds a closed sample at an UP position (R43). -/
theorem switchTest_iff (raw : BitVec 128) (hlen : s.composer.keys.length = 128) :
    switchTest (samples raw s) s.composer.keys = true ↔ ∃ p, (key s p).state = .up ∧ closedSample raw s p := by
  rw [switchTest, mapFrom_eq_positions _ hlen, List.any_map, List.any_eq_true]
  constructor
  · rintro ⟨p, -, hp⟩
    simp only [Function.comp, id, Bool.and_eq_true, beq_iff_eq, samples_iff raw hlen] at hp
    exact ⟨p, hp.2, hp.1⟩
  · rintro ⟨p, hup, hclosed⟩
    refine ⟨p, mem_positions p, ?_⟩
    simp only [Function.comp, id, Bool.and_eq_true, beq_iff_eq, samples_iff raw hlen]
    exact ⟨hclosed, hup⟩

/-! ### The boundary of a SLOW pass (R97, R99) -/

/-- With nothing staged the quiet test changes nothing (R97). -/
theorem quietTest_unstaged (h : s.profile.staged = none) : quietTest s = s := by simp [quietTest, h]

theorem slowBoundary_unstaged (h : s.profile.staged = none) : slowBoundary true s = switchToFast s := by
  have hquiet : quietTest (switchToFast s) = switchToFast s := quietTest_unstaged h
  simp [slowBoundary, h, hquiet]

/-- A quiet table with a staged profile meets the switch in either order (R99, log entry 11). -/
theorem slowBoundary_staged (h : s.profile.staged ≠ none) (hquiet : quiet s = true) : slowBoundary true s =
    (if Config.eitherOrder s.freeCount then switchToFast (quietTest { s with freeCount := s.freeCount + 1 })
      else quietTest (switchToFast { s with freeCount := s.freeCount + 1 })) := by
  have hstaged : s.profile.staged.isSome = true := Option.isSome_iff_ne_none.mpr h
  simp only [slowBoundary, hstaged, hquiet]
  rfl

/-- Every key after the switch: a STUCK key at T_press, any other at 0 (R43). -/
theorem key_switchToFast (s : State) (p : Fin 128) : key (switchToFast s) p =
    { key s p with integ := if (key s p).state = .stuck then pressThreshold s else 0 } := by
  simp only [key, keyOf, switchToFast, List.getD_eq_getElem?_getD, List.getElem?_map]
  cases s.composer.keys[p.val]? with
  | none => rfl
  | some k => rfl

/-- Settles O30: the pass before its boundary key by key, then the boundary by the switch test and the staged profile. -/
theorem slowPassSwitchesAndReleases : Obligations.SlowPassSwitchesAndReleases := by
  refine ⟨fun s levels h hlen hmode => ⟨fun hnot hgrid hkeys => ?_, fun hearly => ?_⟩,
    fun s => ⟨rfl, List.length_map .., key_switchToFast s⟩⟩
  · have hexec := exec_slowPass h ((slowPassDue_iff s).mpr ⟨hmode, hnot, hgrid⟩) levels
    have htable := slowScanned_table (~~~levels) hlen hkeys
    have hkey := slowScanned_key (~~~levels) hlen hkeys
    have hprofile : (slowScanned (~~~levels) s).profile = s.profile := by rw [htable]
    rw [slowPass_eq] at hexec
    refine ⟨slowScanned (~~~levels) s, htable, fun p => (hkey p).2, fun hopen => ?_, fun hclosed => ?_⟩
    · have hswitch : switchTest (samples (~~~levels) s) s.composer.keys = false := by
        rwa [← Bool.not_eq_true, switchTest_iff _ hlen]
      rw [hswitch] at hexec
      refine ⟨hexec, fun hunstaged => ?_⟩
      rw [hexec, slowBoundary, if_neg (by simp), quietTest_unstaged (hprofile ▸ hunstaged)]
    · rw [(switchTest_iff _ hlen).mpr hclosed] at hexec
      refine ⟨fun hunstaged => ?_, fun hstaged => ?_⟩
      · rw [hexec, slowBoundary_unstaged (hprofile ▸ hunstaged)]
      · have hquiet : quiet (slowScanned (~~~levels) s) = true := by
          rw [quiet_iff, forall_keys_iff (hkey 0).1]
          intro p
          have hstate := (hkey p).2.2.2
          rw [key] at hstate
          rw [hstate]
          split
          · exact hkeys p
          · exact .inl rfl
        have hcount : (slowScanned (~~~levels) s).freeCount = s.freeCount := by rw [htable]
        rw [hexec, slowBoundary_staged (hprofile ▸ hstaged) hquiet, hcount]
  · refine next_notDue ?_ fun s => look (slowPass (rawOfLevels levels) s)
    rw [← Bool.not_eq_true, slowPassDue_iff]
    rintro ⟨-, hnot, hgrid⟩
    rcases hearly with hsame | hoff
    · exact hnot hsame
    · exact hoff hgrid

end

end Sys2Proof.Machine
end

section
/-! PROOFS. What the press decisions of a FAST pass leave of the scanner and of each key (R33, R35, R46, R51 to R56). -/

namespace Sys2Proof.Machine

section
variable {s : State}

/-! ### The scanner under a press in FAST scan (R46, R172) -/

/-- The scanner differs in its idle pass count alone. -/
def IdleCountOnly (s t : State) : Prop := t.scanner = { s.scanner with idlePasses := t.scanner.idlePasses }

theorem IdleCountOnly.refl (s : State) : IdleCountOnly s s := rfl

theorem IdleCountOnly.trans {t u : State} (h : IdleCountOnly s t) (h' : IdleCountOnly t u) : IdleCountOnly s u := by
  unfold IdleCountOnly at *
  rw [h', h]

theorem IdleCountOnly.fast {t : State} (h : IdleCountOnly s t) (hm : s.scanner.mode = .fast) : t.scanner.mode = .fast := by
  rw [h]
  exact hm

theorem IdleCountOnly.of_eq {t : State} (h : t.scanner = s.scanner) : IdleCountOnly s t := by rw [IdleCountOnly, h]

/-- In FAST scan a wake sets the idle pass count to 0, and leaves the scanner and the keys else (R46). -/
theorem wakeSource_idleCountOnly (w : WakeSource) (hm : s.scanner.mode = .fast) :
    IdleCountOnly s (wakeSource w s) ∧ (wakeSource w s).composer = s.composer := by
  unfold wakeSource
  split
  · have hmode : (wokenBlocks w s).scanner.mode = .fast := by simpa using hm
    rw [wake_eq, scannerWake, hmode]
    exact ⟨by simp [IdleCountOnly], by simp⟩
  · exact ⟨.refl s, rfl⟩

theorem lingerExpiry_idleCountOnly (s : State) : IdleCountOnly s (lingerExpiry s) := by
  unfold lingerExpiry
  split
  · rw [IdleCountOnly, enterStandby_scanner]
  · rfl

theorem pressCases_idleCountOnly (p : Fin 128) (hm : s.scanner.mode = .fast) : IdleCountOnly s (pressCases p s) := by
  have hwake := (wakeSource_idleCountOnly (.key p) hm).1
  unfold pressCases
  dsimp only
  (repeat' split)
  · exact hwake.trans (.of_eq (by simp [mute]))
  · exact hwake.trans (.of_eq (by simp))
  · exact .of_eq (by simp)

theorem pressActivity_idleCountOnly (found s : State) : IdleCountOnly s (pressActivity found s) := by
  have hexpiry := lingerExpiry_idleCountOnly (takeOrder s).2
  unfold pressActivity
  dsimp only
  (repeat' split)
  · exact hexpiry.trans (.of_eq (by simp))
  · exact .of_eq (by simp [takeOrder])
  · exact .of_eq (by simp)

theorem press_idleCountOnly (p : Fin 128) (hm : s.scanner.mode = .fast) : IdleCountOnly s (press p s) := by
  unfold press
  split
  · exact (pressCases_idleCountOnly p hm).trans (pressActivity_idleCountOnly s _)
  · rfl

theorem foldl_press_idleCountOnly (l : List (Fin 128)) (hm : s.scanner.mode = .fast) :
    IdleCountOnly s (l.foldl (fun s p => press p s) s) := by
  induction l generalizing s with
  | nil => rfl
  | cons p l ih =>
    have hpress := press_idleCountOnly p hm
    exact hpress.trans (ih (hpress.fast hm))

/-! ### The keys under a press in FAST scan (R51 to R55) -/

/-- The table after one key has left UP: its integrator and every other key are as they were. -/
def LeftUp (p : Fin 128) (s t : State) : Prop := ∃ k : KeyRec, k.integ = (key s p).integ ∧ k.state ≠ .up ∧
  t.composer.keys = (setKey p k s).composer.keys

theorem LeftUp.of_keys {p : Fin 128} {t u : State} (h : LeftUp p s t) (hkeys : u.composer.keys = t.composer.keys) :
    LeftUp p s u := by
  obtain ⟨k, hinteg, hstate, ht⟩ := h
  exact ⟨k, hinteg, hstate, hkeys.trans ht⟩

theorem mute_leftUp (p : Fin 128) (s : State) : LeftUp p s (mute p s) :=
  ⟨{ key s p with state := .muted }, rfl, by simp, rfl⟩

theorem pressAwake_leftUp (p : Fin 128) (s : State) : LeftUp p s (pressAwake p s) := by
  unfold pressAwake
  (repeat' split)
  · exact (mute_leftUp p s).of_keys (by simp [pressSuppressed])
  · exact (mute_leftUp p s).of_keys (by simp [pressRollover])
  · exact ⟨{ key s p with state := .down, downTime := 0, holdSeen := false }, rfl, by simp, by simp [pressOrdinary]⟩

theorem pressCases_leftUp (p : Fin 128) (hm : s.scanner.mode = .fast) : LeftUp p s (pressCases p s) := by
  have hwake := (wakeSource_idleCountOnly (.key p) hm).2
  have hwoken : ∀ {t}, LeftUp p (wakeSource (.key p) s) t → LeftUp p s t := fun h => by
    simpa only [LeftUp, key, setKey, hwake] using h
  unfold pressCases
  dsimp only
  (repeat' split)
  · exact hwoken (mute_leftUp p _)
  · exact hwoken (pressAwake_leftUp p _)
  · exact pressAwake_leftUp p s

theorem pressActivity_keys (found s : State) : (pressActivity found s).composer.keys = s.composer.keys := by
  unfold pressActivity
  dsimp only
  (repeat' split) <;> simp [takeOrder]

theorem press_leftUp {p : Fin 128} (hm : s.scanner.mode = .fast) (hup : (key s p).state = .up) : LeftUp p s (press p s) := by
  rw [press, if_pos hup]
  exact (pressCases_leftUp p hm).of_keys (pressActivity_keys s _)

theorem LeftUp.key {p : Fin 128} {t : State} (h : LeftUp p s t) (hlen : s.composer.keys.length = 128) (q : Fin 128) :
    t.composer.keys.length = 128 ∧ (key t q).integ = (key s q).integ ∧ (key t p).state ≠ .up ∧
    (q ≠ p → (Machine.key t q).state = (Machine.key s q).state) := by
  obtain ⟨k, hinteg, hstate, ht⟩ := h
  have hkey := fun q => (key_congr ht q).trans (key_setKey p q k hlen)
  rw [hkey q, hkey p, ht]
  refine ⟨by simpa using hlen, ?_, by simpa using hstate, fun hq => by rw [if_neg hq]⟩
  split
  · next hq => rw [hq, hinteg]
  · rfl

/-- The press decisions of a pass: an UP key that is handed over leaves UP, and every other key stays (R33, R35). -/
theorem foldl_press_key (l : List (Fin 128)) (q : Fin 128) (hm : s.scanner.mode = .fast)
    (hlen : s.composer.keys.length = 128) :
    (l.foldl (fun s p => press p s) s).composer.keys.length = 128 ∧
    (key (l.foldl (fun s p => press p s) s) q).integ = (key s q).integ ∧
    ((key s q).state = .up → q ∈ l → (key (l.foldl (fun s p => press p s) s) q).state ≠ .up) ∧
    ((key s q).state ≠ .up ∨ q ∉ l → (key (l.foldl (fun s p => press p s) s) q).state = (key s q).state) := by
  induction l generalizing s with
  | nil => exact ⟨hlen, rfl, by simp, by simp⟩
  | cons p l ih =>
    have hfast := (press_idleCountOnly p hm).fast hm
    by_cases hup : (key s p).state = .up
    · obtain ⟨hlen', hinteg, hleft, hother⟩ := (press_leftUp hm hup).key hlen q
      obtain ⟨hlength, hinteg', hpressed, hkept⟩ := ih hfast hlen'
      refine ⟨hlength, hinteg'.trans hinteg, fun hqup hq => ?_, fun hq => ?_⟩
      · by_cases hqp : q = p
        · subst hqp
          simpa only [List.foldl_cons, hkept (.inl hleft)] using hleft
        · exact hpressed (by rw [hother hqp, hqup]) (by simpa [hqp] using hq)
      · have hqp : q ≠ p := by
          rintro rfl
          simp [hup] at hq
        rw [← hother hqp]
        refine hkept (hq.imp (fun h => by rwa [hother hqp]) fun h hmem => h (List.mem_cons_of_mem p hmem))
    · have hsame : press p s = s := by rw [press, if_neg hup]
      simp only [List.foldl_cons, hsame]
      obtain ⟨hlength, hinteg', hpressed, hkept⟩ := ih hm hlen
      refine ⟨hlength, hinteg', fun hqup hq => hpressed hqup ?_, fun hq => hkept (hq.imp_right fun h hmem =>
        h (List.mem_cons_of_mem p hmem))⟩
      rcases List.mem_cons.mp hq with rfl | hq
      · exact absurd hqup hup
      · exact hq

end

end Sys2Proof.Machine
end

section
/-! PROOFS. A FAST pass before its accountings: the integrators, the decisions, the chatter count, and the blocks that a pass
without an expiry or a wake leaves (R28 to R36, R175). -/

namespace Sys2Proof.Machine

section
variable {s : State}

/-! ### A press that meets no linger expiry and wakes nothing (R52, R56, R170, R175) -/

/-- No press decision taken here meets a linger expiry or wakes the part, in this millisecond. -/
structure NoExpiryNoWake (s : State) : Prop where
  notDue : due s s.power.lingerEnds = false ∨ s.power.lingerSources.getLsbD 0 = false
  noWake : s.power.standby = false ∨ s.power.keyWake = false
  lingerTime : s.power.lingerMin ≤ 240

/-- What KEY activity may change: the linger timer, the idle timer and the levels that follow it (R56, R149). -/
def ActivityOnly (s t : State) : Prop := t.scanner = s.scanner ∧ t.picture = s.picture ∧ t.scanout = s.scanout ∧
  t.power = { s.power with lingerEnds := t.power.lingerEnds } ∧
  t.light = { s.light with
    idle := t.light.idle, idleEnds := t.light.idleEnds, target := t.light.target, output := t.light.output,
    keyLight := t.light.keyLight }

theorem ActivityOnly.of_eq {t : State} (h : t.scanner = s.scanner ∧ t.picture = s.picture ∧ t.scanout = s.scanout ∧
    t.power = s.power ∧ t.light = s.light) : ActivityOnly s t := by
  obtain ⟨hscanner, hpicture, hscanout, hpower, hlight⟩ := h
  exact ⟨hscanner, hpicture, hscanout, by rw [hpower], by rw [hlight]⟩

theorem ActivityOnly.trans {t u : State} (h : ActivityOnly s t) (h' : ActivityOnly t u) : ActivityOnly s u := by
  obtain ⟨hscanner, hpicture, hscanout, hpower, hlight⟩ := h
  obtain ⟨hscanner', hpicture', hscanout', hpower', hlight'⟩ := h'
  refine ⟨hscanner'.trans hscanner, hpicture'.trans hpicture, hscanout'.trans hscanout, ?_, ?_⟩
  · rw [hpower', hpower]
  · rw [hlight', hlight]

/-- A timer that runs out n ms from now, n at most 2^31, has not run out (R166). -/
theorem dueAt_after {n : Nat} (hpos : 0 < n) (hlt : n ≤ 2 ^ 31) : dueAt s (after s n) = false := by
  have hms : (ms n).toNat = n := by
    rw [ms, BitVec.toNat_ofNat, Nat.mod_eq_of_lt (by omega)]
  have hsub : now s - (now s + ms n) = -ms n := by bv_omega
  rw [dueAt, reached, after, hsub, BitVec.toNat_neg, hms, decide_eq_false_iff_not]
  omega

theorem wakeLoad_range (h : s.power.lingerMin ≤ 240) : 0 < wakeLoad s ∧ wakeLoad s ≤ 2 ^ 31 := by
  unfold wakeLoad
  split <;> omega

theorem recompute_activityOnly (s : State) : ActivityOnly s (recompute s) := by
  refine ⟨by simp, by simp, by simp, by simp, ?_⟩
  unfold recompute
  dsimp only
  split <;> rfl

theorem idleRestart_activityOnly (s : State) : ActivityOnly s (idleRestart s) := by
  have hload : ActivityOnly s (idleLoad s) := ⟨rfl, rfl, rfl, rfl, rfl⟩
  unfold idleRestart
  split
  · exact .of_eq ⟨rfl, rfl, rfl, rfl, rfl⟩
  · exact hload
  · exact hload.trans (recompute_activityOnly _)

theorem idleActivity_activityOnly (a : Activity) (s : State) : ActivityOnly s (idleActivity a s) := by
  unfold idleActivity
  split
  · exact idleRestart_activityOnly s
  · exact .of_eq ⟨rfl, rfl, rfl, rfl, rfl⟩

/-- A linger timer after activity is as it was, or newly loaded (R170). -/
theorem lingerActivity_cases (a : Activity) (s : State) : lingerActivity a s = s ∨
    lingerActivity a s = { s with power.lingerEnds := some (after s (wakeLoad s)) } := by
  unfold lingerActivity
  (repeat' split)
  · exact .inr rfl
  · exact .inl rfl
  · exact .inl rfl

theorem activity_activityOnly (a : Activity) (s : State) : ActivityOnly s (activity a s) := by
  refine (idleActivity_activityOnly a s).trans ?_
  rw [activity]
  rcases lingerActivity_cases a (idleActivity a s) with h | h
  · rw [h]
    exact .of_eq ⟨rfl, rfl, rfl, rfl, rfl⟩
  · rw [h]
    exact ⟨rfl, rfl, rfl, rfl, rfl⟩

/-- After activity no expiry is due that was not due before (R170). -/
theorem activity_noExpiryNoWake (a : Activity) (h : NoExpiryNoWake s) : NoExpiryNoWake (activity a s) := by
  have hpower : (idleActivity a s).power = s.power := by simp
  have hidle : NoExpiryNoWake (idleActivity a s) :=
    ⟨by simpa [due, dueAt, now, hpower] using h.notDue, by simpa using h.noWake, by simpa using h.lingerTime⟩
  rw [activity]
  rcases lingerActivity_cases a (idleActivity a s) with hs | hs
  · rwa [hs]
  · rw [hs]
    obtain ⟨hpos, hlt⟩ := wakeLoad_range hidle.lingerTime
    exact ⟨.inl (dueAt_after hpos hlt), hidle.noWake, hidle.lingerTime⟩

/-- With neither an expiry nor a wake a press is its case and its activity (R51, R56). -/
theorem press_calm {p : Fin 128} (h : NoExpiryNoWake s) (hup : (key s p).state = .up) :
    press p s = activity .key (pressAwake p s) := by
  have hcases : pressCases p s = pressAwake p s := by
    rw [pressCases, if_neg]
    rcases h.noWake with hw | hw <;> simp [hw]
  have hmeets : expiryMeetsPress s = false := by
    have hbit : selects s.power.lingerSources .key = s.power.lingerSources.getLsbD 0 := rfl
    rw [expiryMeetsPress, hbit]
    rcases h.notDue with hd | hd <;> simp only [hd, Bool.and_false, Bool.false_and]
  rw [press, if_pos hup, hcases, pressActivity, if_neg (by simp [hmeets])]

theorem press_activityOnly (p : Fin 128) (h : NoExpiryNoWake s) :
    ActivityOnly s (press p s) ∧ NoExpiryNoWake (press p s) := by
  by_cases hup : (key s p).state = .up
  · have hawake : ActivityOnly s (pressAwake p s) := .of_eq (by simp)
    have hcalm : NoExpiryNoWake (pressAwake p s) :=
      ⟨by simpa [due, dueAt, now] using h.notDue, by simpa using h.noWake, by simpa using h.lingerTime⟩
    rw [press_calm h hup]
    exact ⟨hawake.trans (activity_activityOnly _ _), activity_noExpiryNoWake _ hcalm⟩
  · rw [press, if_neg hup]
    exact ⟨.of_eq ⟨rfl, rfl, rfl, rfl, rfl⟩, h⟩

theorem foldl_press_activityOnly (l : List (Fin 128)) (h : NoExpiryNoWake s) :
    ActivityOnly s (l.foldl (fun s p => press p s) s) := by
  induction l generalizing s with
  | nil => exact .of_eq ⟨rfl, rfl, rfl, rfl, rfl⟩
  | cons p l ih =>
    obtain ⟨hpress, hcalm⟩ := press_activityOnly p h
    exact hpress.trans (ih hcalm)

/-! ### The parts of a FAST pass (R28) -/

/-- A FAST pass once its integrators are moved (R32). -/
def passIntegrated (raw : BitVec 128) (s : State) : State :=
  { s with
    scanner := { s.scanner with passAt := s.power.dockTime, driven := true },
    composer := { s.composer with keys := integrated (pressThreshold s) (samples raw s) s.composer.keys } }

/-- A FAST pass once its releases are taken (R35). -/
def passReleased (raw : BitVec 128) (s : State) : State :=
  (releases s.profile.active.releaseBase (passIntegrated raw s).composer.keys).foldl (fun s p => release p s)
    (passIntegrated raw s)

/-- A FAST pass once its decisions are taken (R35). -/
def passDecided (raw : BitVec 128) (s : State) : State :=
  (presses (pressThreshold s) (passIntegrated raw s).composer.keys).foldl (fun s p => press p s) (passReleased raw s)

/-- The positions that chatter in a pass (R36). -/
def passChatter (raw : BitVec 128) (s : State) : Nat :=
  chatterCount s.profile.active.releaseBase (pressThreshold s) (samples raw s) s.profile.active.classes s.composer.keys

theorem fastPassDecide_eq (raw : BitVec 128) (s : State) : fastPassDecide raw s = storeSamples (samples raw s)
    { passDecided raw s with
      scanner := { (passDecided raw s).scanner with
        chatter := min 255 ((passDecided raw s).scanner.chatter + passChatter raw s) } } := rfl

/-- The integrator of a key moves with its sample alone (R32). -/
theorem key_passIntegrated (raw : BitVec 128) (hlen : s.composer.keys.length = 128) (p : Fin 128) :
    key (passIntegrated raw s) p =
      { key s p with integ := integrate (pressThreshold s) ((samples raw s).getD p.val false) (key s p).integ } :=
  keyOf_mapFrom (fun i k => { k with integ := integrate (pressThreshold s) ((samples raw s).getD i false) k.integ }) hlen p

theorem passReleased_keeps (raw : BitVec 128) (s : State) : (passReleased raw s).scanner = (passIntegrated raw s).scanner ∧
    (passReleased raw s).picture = s.picture ∧ (passReleased raw s).scanout = s.scanout ∧
    (passReleased raw s).power = s.power ∧ (passReleased raw s).light = s.light := by
  and_intros <;> exact foldl_keeps _ _ (by simp) _ _

theorem passDecided_idleCountOnly (raw : BitVec 128) (hm : s.scanner.mode = .fast) :
    IdleCountOnly (passIntegrated raw s) (passDecided raw s) := by
  have hreleased := (passReleased_keeps raw s).1
  exact (IdleCountOnly.of_eq hreleased).trans (foldl_press_idleCountOnly _ (by rw [hreleased]; exact hm))

theorem passDecided_activityOnly (raw : BitVec 128) (h : NoExpiryNoWake s) :
    ActivityOnly (passIntegrated raw s) (passDecided raw s) := by
  obtain ⟨hscanner, hpicture, hscanout, hpower, hlight⟩ := passReleased_keeps raw s
  have hcalm : NoExpiryNoWake (passReleased raw s) :=
    ⟨by simpa [due, dueAt, now, hpower] using h.notDue, by simpa [hpower] using h.noWake, by simpa [hpower] using h.lingerTime⟩
  exact (ActivityOnly.of_eq ⟨hscanner, hpicture, hscanout, hpower, hlight⟩).trans (foldl_press_activityOnly _ hcalm)

/-! ### The keys of a FAST pass (R32 to R35) -/

/-- The decisions leave every integrator; an UP key leaves UP where its press is due, and any other becomes UP where its
release is due (R33 to R35). -/
theorem key_passDecided (raw : BitVec 128) (hm : s.scanner.mode = .fast) (hlen : s.composer.keys.length = 128)
    (p : Fin 128) :
    (passDecided raw s).composer.keys.length = 128 ∧
    (key (passDecided raw s) p).integ = (key (passIntegrated raw s) p).integ ∧
    ((key s p).state = .up →
      ((key (passDecided raw s) p).state ≠ .up ↔ pressThreshold s ≤ (key (passIntegrated raw s) p).integ)) ∧
    ((key s p).state ≠ .up → (key (passDecided raw s) p).state =
      if (key (passIntegrated raw s) p).integ ≤ s.profile.active.releaseBase then .up else (key s p).state) := by
  have hlength : (passIntegrated raw s).composer.keys.length = 128 := by
    simpa [passIntegrated, integrated, mapFrom_length] using hlen
  have hstate : (key (passIntegrated raw s) p).state = (key s p).state := by rw [key_passIntegrated raw hlen]
  have hrel : p ∈ releases s.profile.active.releaseBase (passIntegrated raw s).composer.keys ↔
      (key s p).state ≠ .up ∧ (key (passIntegrated raw s) p).integ ≤ s.profile.active.releaseBase := by
    rw [← hstate]
    simp [releases, releaseDue, mem_positions, key]
  have hpre : p ∈ presses (pressThreshold s) (passIntegrated raw s).composer.keys ↔
      (key s p).state = .up ∧ pressThreshold s ≤ (key (passIntegrated raw s) p).integ := by
    rw [← hstate]
    simp [presses, pressDue, mem_positions, key]
  obtain ⟨hlen₁, hinteg₁, hstate₁⟩ := foldl_release_key (releases s.profile.active.releaseBase
    (passIntegrated raw s).composer.keys) p hlength
  have hfast : (passReleased raw s).scanner.mode = .fast := by
    rw [(passReleased_keeps raw s).1]
    exact hm
  obtain ⟨hlen₂, hinteg₂, hpressed, hkept⟩ := foldl_press_key (s := passReleased raw s) (presses (pressThreshold s)
    (passIntegrated raw s).composer.keys) p hfast hlen₁
  simp only [hstate, hrel] at hstate₁
  refine ⟨hlen₂, hinteg₂.trans hinteg₁, fun hup => ?_, fun hnot => ?_⟩
  · have hup₁ : (key (passReleased raw s) p).state = .up  :=
      hstate₁.trans ((if_neg fun h => h.1 hup).trans hup)
    refine ⟨fun hleft => ?_, fun hdue => hpressed hup₁ (hpre.mpr ⟨hup, hdue⟩)⟩
    by_contra hless
    exact hleft ((hkept (.inr fun hmem => hless (hpre.mp hmem).2)).trans hup₁)
  · have hkept₂ := hkept (.inr fun hmem => hnot (hpre.mp hmem).1)
    refine hkept₂.trans (hstate₁.trans ?_)
    simp [hnot]

theorem key_fastPassDecide (raw : BitVec 128) (hm : s.scanner.mode = .fast) (hlen : s.composer.keys.length = 128)
    (p : Fin 128) : key (fastPassDecide raw s) p =
      { key (passDecided raw s) p with prev := (samples raw s).getD p.val false } := by
  rw [fastPassDecide_eq]
  exact key_storeSamples _ (key_passDecided raw hm hlen p).1 p

/-- The table of a FAST pass, key by key (R29, R30, R32 to R34). -/
theorem fastPassDecide_key (raw : BitVec 128) (hm : s.scanner.mode = .fast) (hlen : s.composer.keys.length = 128)
    (p : Fin 128) :
    ((key (fastPassDecide raw s) p).prev = true ↔ closedSample raw s p) ∧
    (key (fastPassDecide raw s) p).integ = (if (key (fastPassDecide raw s) p).prev
      then min (pressThreshold s) ((key s p).integ + 1) else (key s p).integ - 1) ∧
    ((key s p).state = .up →
      ((key (fastPassDecide raw s) p).state ≠ .up ↔ pressThreshold s ≤ (key (fastPassDecide raw s) p).integ)) ∧
    ((key s p).state ≠ .up → (key (fastPassDecide raw s) p).state =
      if (key (fastPassDecide raw s) p).integ ≤ s.profile.active.releaseBase then .up else (key s p).state) := by
  obtain ⟨-, hinteg, hup, hnot⟩ := key_passDecided raw hm hlen p
  rw [key_fastPassDecide raw hm hlen, hinteg]
  refine ⟨samples_iff raw hlen p, ?_, hup, hnot⟩
  rw [key_passIntegrated raw hlen]
  rfl

/-! ### Broken and shorted lines (R180) -/

/-- A raw sample is closed where its level is low (R27). -/
theorem rawSample_iff {levels : BitVec 128} {n : Nat} (hn : n < 128) :
    (~~~levels).getLsbD n = true ↔ levels.getLsbD n = false := by
  rw [BitVec.getLsbD_not, decide_eq_true hn, Bool.true_and, Bool.not_eq_true']

/-- A position that reads high is not closed (R27). -/
theorem not_closedSample_of_high {levels : BitVec 128} {p : Fin 128} (h : levels.getLsbD p.val = true) :
    ¬closedSample (~~~levels) s p := by
  rintro ⟨hraw, -, -⟩
  rw [rawSample_iff p.isLt, h] at hraw
  cases hraw

/-- A position whose whole drive line reads low is closed, unless it is masked (R29, R30, R180). -/
theorem closedSample_of_low {levels : BitVec 128} {p : Fin 128} (hcls : classOf s p ≠ .none)
    (hlow : ∀ c, c < 16 → levels.getLsbD (16 * (p.val / 16) + c) = false)
    (hmask : (key s p).state ≠ .up ∨ ∀ q : Fin 128, q.val / 16 ≠ p.val / 16 → levels.getLsbD q.val = true) :
    closedSample (~~~levels) s p := by
  have hp := p.isLt
  have hraw : levels.getLsbD p.val = false := by
    have hline := hlow (p.val % 16) (Nat.mod_lt _ (by decide))
    rwa [Nat.div_add_mod] at hline
  refine ⟨(rawSample_iff hp).mpr hraw, hcls, fun hup hrect => ?_⟩
  obtain ⟨d', c', hd, -, hne, -, -, hother, -⟩ := hrect
  have hlt : d' * 16 + p.val % 16 < 128 := by omega
  have hline : (d' * 16 + p.val % 16) / 16 = d' := by omega
  have hhigh := hmask.resolve_left (not_not_intro hup) ⟨_, hlt⟩ (hline.trans_ne hne)
  rw [rawSample_iff hlt, hhigh] at hother
  cases hother

/-! ### The chatter count (R36) -/

theorem passChatter_eq (raw : BitVec 128) (hlen : s.composer.keys.length = 128) : passChatter raw s =
    (positions.filter fun p => classOf s p != .none && (samples raw s).getD p.val false != (key s p).prev &&
      decide (s.profile.active.releaseBase < (key s p).integ) && decide ((key s p).integ < pressThreshold s)).length := by
  rw [passChatter, chatterCount, mapFrom_eq_positions _ hlen, List.filter_map, List.length_map]
  rfl

/-! ### The pass whole -/

theorem fastDue_iff (s : State) : fastDue s = true ↔ s.scanner.mode = .fast ∧ s.scanner.passAt ≠ s.power.dockTime := by
  rw [fastDue, Bool.and_eq_true, beq_iff_eq, bne_iff_ne, ne_comm]
  rfl

theorem exec_fastPass (h : Running s) (hdue : fastDue s = true) (levels : BitVec 128) : exec (.fastPass levels) s =
    .next (look (quietTest (countIdle (countWindow (fastPassDecide (~~~levels) s))))) :=
  next_ifDue h hdue fun s => look (fastPass (rawOfLevels levels) s)

/-- In ACTIVE, with nothing staged and before a window's last pass, the accountings count the pass alone (R28). -/
theorem accountings_active (hstaged : s.profile.staged = none) (hless : s.scanner.windowPasses < 63)
    (hactive : s.power.standby = false) : quietTest (countIdle (countWindow s)) = windowCounted s := by
  have hcounted : (windowCounted s).power.standby = false := hactive
  rw [countWindow_before hless, countIdle_active hcounted]
  exact quietTest_unstaged (s := windowCounted s) hstaged

/-- The scanner of a FAST pass before its accountings (R36). -/
theorem fastPassDecide_scanner (raw : BitVec 128) (hm : s.scanner.mode = .fast) :
    (fastPassDecide raw s).scanner = { s.scanner with
      passAt := s.power.dockTime, driven := true, idlePasses := (fastPassDecide raw s).scanner.idlePasses,
      chatter := min 255 (s.scanner.chatter + passChatter raw s) } := by
  have hdecided : (passDecided raw s).scanner = { s.scanner with
      passAt := s.power.dockTime, driven := true, idlePasses := (passDecided raw s).scanner.idlePasses } :=
    passDecided_idleCountOnly raw hm
  have hscanner : (fastPassDecide raw s).scanner = { (passDecided raw s).scanner with
      chatter := min 255 ((passDecided raw s).scanner.chatter + passChatter raw s) } := rfl
  rw [hscanner, hdecided]

/-- Settles O27: the pass in its parts, each key by its own sample, and what neither an expiry nor a wake touches. -/
theorem fastPassJudgesEveryKey : Obligations.FastPassJudgesEveryKey := by
  intro s levels hheld hpower h hm hnot
  have hlen := hheld.table
  have hexec := exec_fastPass h ((fastDue_iff s).mpr ⟨hm, hnot⟩) levels
  have hkey := fastPassDecide_key (~~~levels) hm hlen
  have hdecided := fun p => key_passDecided (~~~levels) hm hlen p
  have hprev : ∀ p, (samples (~~~levels) s).getD p.val false = (key (fastPassDecide (~~~levels) s) p).prev := fun p => by
    rw [key_fastPassDecide _ hm hlen]
  have hinteg : ∀ p, (key (passIntegrated (~~~levels) s) p).integ = (key (fastPassDecide (~~~levels) s) p).integ := fun p => by
    rw [key_fastPassDecide _ hm hlen, (hdecided p).2.1]
  have hscanner := fastPassDecide_scanner (~~~levels) hm
  refine ⟨fastPassDecide (~~~levels) s, hexec, fun hstaged hless hactive => ?_, hkey, fun p hhigh => ?_,
    fun p hcls hlow hmask => (hkey p).1.mpr (closedSample_of_low hcls hlow hmask), ?_, ?_, ?_, by simp, by simp, by simp,
    by simp, fun hdue hwake => ?_⟩
  · have hcount : (fastPassDecide (~~~levels) s).scanner.windowPasses = s.scanner.windowPasses := by rw [hscanner]
    rw [hexec, accountings_active (by simpa using hstaged) (hcount ▸ hless) hactive, windowCounted, hcount]
  · rw [← Bool.not_eq_true, (hkey p).1]
    refine not_closedSample_of_high ?_
    have hline := hhigh (p.val / 16) (by omega)
    rwa [Nat.div_add_mod] at hline
  · have hreleased : releases s.profile.active.releaseBase (passIntegrated (~~~levels) s).composer.keys =
        positions.filter fun p => (key s p).state != .up &&
          decide ((key (fastPassDecide (~~~levels) s) p).integ ≤ s.profile.active.releaseBase) := by
      refine List.filter_congr fun p _ => ?_
      rw [← hinteg, ← key, key_passIntegrated _ hlen, releaseDue]
    have hpressed : presses (pressThreshold s) (passIntegrated (~~~levels) s).composer.keys =
        positions.filter fun p => (key s p).state == .up &&
          decide (s.profile.active.pressBase + s.scanner.vib ≤ (key (fastPassDecide (~~~levels) s) p).integ) := by
      refine List.filter_congr fun p _ => ?_
      rw [← hinteg, ← key, key_passIntegrated _ hlen, pressDue]
      rfl
    refine ⟨passIntegrated (~~~levels) s, rfl, ?_, fun p => ?_, ?_⟩
    · simpa [passIntegrated, integrated, mapFrom_length] using hlen
    · rw [← hinteg, key_passIntegrated _ hlen]
    · rw [← hreleased, ← hpressed]
      refine ⟨rfl, ?_, fun p => ?_⟩
      · rw [fastPassDecide_eq, storeSamples]
        simpa [mapFrom_length] using (hdecided 0).1
      · rw [← hprev, key_fastPassDecide _ hm hlen]
        rfl
  · rw [hscanner, passChatter_eq _ hlen]
    simp only [hprev]
    rfl
  · have hrunning : s.power.held = false := h
    rw [pins, if_neg (by simp [hrunning]), hscanner]
  · obtain ⟨hidle, hpicture, hscanout, hpower', hlight⟩ :=
      passDecided_activityOnly (~~~levels) ⟨hdue, hwake, hpower.lingerTime⟩
    have hcount : (passDecided (~~~levels) s).scanner.idlePasses = s.scanner.idlePasses := by rw [hidle]; rfl
    exact ⟨hcount, hpicture, hscanout, hpower', hlight⟩

end

end Sys2Proof.Machine
end

section
/-! PROOFS. The entry into STANDBY: an activity event at the timers, the swap of a waiting PRESENT, the PANEL slot that waits
for ON, and the dark output (R130, R135, R136, R146, R149, R170, R172). -/

namespace Sys2Proof.Machine

section
variable {s t u : State}

/-! ### An activity event at the two timers (R149, R170) -/

theorem idleRestart_timer (s : State) : (s.light.idle = .off → idleRestart s = s) ∧
    (s.light.idle ≠ .off → (idleRestart s).light.idle = .running ∧
      (idleRestart s).light.idleEnds = s.power.dockTime + ms (s.light.settings.idleTimeout * 1000)) := by
  unfold idleRestart
  split
  · next h => exact ⟨fun _ => rfl, fun hne => absurd h hne⟩
  · next h => exact ⟨fun hoff => by simp [h] at hoff, fun _ => ⟨rfl, rfl⟩⟩
  · next h => exact ⟨fun hoff => by simp [h] at hoff, fun _ => by simp [idleLoad, after, now]⟩

theorem idleActivity_timer (a : Activity) (s : State) :
    if s.light.settings.idleSources.getLsbD a.bit = true ∧ s.light.idle ≠ .off then
      (idleActivity a s).light.idle = .running ∧
        (idleActivity a s).light.idleEnds = s.power.dockTime + ms (s.light.settings.idleTimeout * 1000)
    else (idleActivity a s).light.idle = s.light.idle ∧ (idleActivity a s).light.idleEnds = s.light.idleEnds := by
  obtain ⟨hoff, hrun⟩ := idleRestart_timer s
  unfold idleActivity selects
  split
  · next h =>
    rw [if_pos h.1]
    exact hrun h.2
  · next h =>
    split
    · next hselected =>
      have hidle : s.light.idle = .off := by
        by_contra hne
        exact h ⟨hselected, hne⟩
      rw [hoff hidle]
      exact ⟨rfl, rfl⟩
    · exact ⟨rfl, rfl⟩

theorem lingerActivity_power (a : Activity) (s : State) : (lingerActivity a s).power = { s.power with
    lingerEnds := if s.power.lingerSources.getLsbD a.bit then s.power.lingerEnds.map fun _ => after s (wakeLoad s)
      else s.power.lingerEnds } := by
  unfold lingerActivity selects
  split
  · next hends =>
    split
    · simp [hends]
    · rfl
  · next hends => rw [hends, Option.map_none, ite_self, ← hends]

theorem activity_taken (a : Activity) (s : State) : ActivityTaken a.bit s (activity a s) := by
  have hpower : (idleActivity a s).power = s.power := by simp
  have hlinger := lingerActivity_power a (idleActivity a s)
  have hlight : (activity a s).light = (idleActivity a s).light := by simp [activity]
  have htimer := idleActivity_timer a s
  refine ⟨?_, (activity_activityOnly a s).2.2.2.2, ?_⟩
  · rw [activity, hlinger, hpower]
    simp only [after, now, wakeLoad, hpower]
  · rw [hlight]
    exact htimer

/-! ### The swap of a waiting PRESENT (R135, R136) -/

/-- A swap with carry puts the copy at its first row boundary (R136). -/
theorem swap_carry (s : State) : swap true s = { s with scanout := { s.scanout with
    front := s.scanout.front.other, waiting := none, carry := some ⟨0, !pauses s, false, false⟩ } } := by
  have hpauses : pauses { s with scanout.front := s.scanout.front.other, scanout.waiting := none } = pauses s := rfl
  simp only [swap, carryBoundary, if_true, Config.panelHeight, hpauses]
  cases pauses s <;> simp

/-- A PRESENT without carry is complete with its swap (R135). -/
theorem swap_done {j : Job} (hj : s.picture.job = some j) : ∃ x, swap false s = activity .picture x ∧ ∃ messages,
    x = { s with
      picture := { s.picture with job := none },
      scanout := { s.scanout with front := s.scanout.front.other, waiting := none, presented := true },
      exch := { s.exch with
        slots := s.exch.slots.set j.slot.val (completedSlot s j.slot .done .ok 0 0),
        attention := if j.notify then s.exch.attention ||| Cause.bit .slot else s.exch.attention },
      link := { s.link with messages := messages } } := by
  obtain ⟨messages, hdone⟩ := complete_eq j.slot j.notify .ok 0 0 { s with
    picture := { s.picture with job := none },
    scanout := { s.scanout with front := s.scanout.front.other, waiting := none } }
  refine ⟨_, ?_, messages, rfl⟩
  simp only [swap, finishPresent, hj, completeJob, hdone]
  rfl

/-- The notify choice of a completion raises SLOT (R20). -/
theorem slotRaised {n : Bool} (a : BitVec 3) (h : n = true) : (if n then a ||| Cause.bit .slot else a).getLsbD 1 = true := by
  simp [h, Cause.bit]

theorem swap_swapped {j : Job} (carry : Bool) (hj : s.picture.job = some j) (hlen : s.exch.slots.length = 16) :
    Swapped carry j s (swap carry s) := by
  cases carry with
  | true =>
    rw [swap_carry]
    refine ⟨rfl, ?_, by rw [if_pos rfl, ← hj], fun h => by simp at h, fun _ => ⟨rfl, rfl, rfl, rfl⟩⟩
    simp only [Bool.not_true, Bool.or_false, if_true]
    rfl
  | false =>
    obtain ⟨x, hswap, messages, hx⟩ := swap_done hj
    have hslot : slot x j.slot = completedSlot s j.slot .done .ok 0 0 := by
      rw [hx]
      exact slot_setSlot_same j.slot _ s hlen
    have hscanout : (activity .picture x).scanout = x.scanout := by simp
    rw [hswap]
    refine ⟨by simp [hx], ?_, by simp [hx], fun _ => ⟨?_, fun hn => ?_, ?_⟩, fun h => by simp at h⟩
    · rw [hscanout, hx]
      simp only [Bool.not_false, Bool.or_true]
      rfl
    · simpa [slot] using hslot
    · have hraised := slotRaised s.exch.attention hn
      simpa [hx] using hraised
    · have htaken := activity_taken .picture x
      rw [hx] at htaken ⊢
      exact htaken

/-- A swap completes the PRESENT's slot alone (R134). -/
theorem swap_slot_other {j : Job} (carry : Bool) (hj : s.picture.job = some j) {k : Fin 16} (hk : k ≠ j.slot) :
    slot (swap carry s) k = slot s k := by
  cases carry with
  | true => rw [swap_carry]; rfl
  | false =>
    obtain ⟨x, hswap, messages, hx⟩ := swap_done hj
    have hslot : slot x k = slot s k := by
      rw [hx]
      exact slot_setSlot_other _ s hk
    rw [hswap]
    simpa [slot] using hslot

/-! ### What follows a swap in the same event -/

/-- From `s` to `t` the Panel Port, the engine, the timers and the power state have stayed. -/
def LevelsOnly (s t : State) : Prop := t.frames = s.frames ∧ t.scanout = s.scanout ∧ t.picture = s.picture ∧
  t.power = s.power ∧
  t.light = { s.light with target := t.light.target, output := t.light.output, keyLight := t.light.keyLight }

theorem LevelsOnly.trans (h : LevelsOnly s t) (h' : LevelsOnly t u) : LevelsOnly s u := by
  obtain ⟨hframes, hscanout, hpicture, hpower, hlight⟩ := h
  obtain ⟨hframes', hscanout', hpicture', hpower', hlight'⟩ := h'
  exact ⟨hframes'.trans hframes, hscanout'.trans hscanout, hpicture'.trans hpicture, hpower'.trans hpower,
    by rw [hlight', hlight]⟩

theorem recompute_levelsOnly (s : State) : LevelsOnly s (recompute s) := by
  refine ⟨by simp, by simp, by simp, by simp, ?_⟩
  unfold recompute
  dsimp only
  split <;> rfl

theorem ActivityTaken.later {n : Nat} (h : ActivityTaken n s t) (hlater : LevelsOnly t u) : ActivityTaken n s u := by
  obtain ⟨hpower, hlight, htimer⟩ := h
  obtain ⟨-, -, -, hpower', hlight'⟩ := hlater
  refine ⟨hpower'.trans hpower, by rw [hlight', hlight], ?_⟩
  rw [hlight']
  exact htimer

theorem Swapped.later {carry : Bool} {j : Job} (h : Swapped carry j s t) (hlater : LevelsOnly t u)
    (hslot : slot u j.slot = slot t j.slot)
    (hattention : t.exch.attention.getLsbD 1 = true → u.exch.attention.getLsbD 1 = true) : Swapped carry j s u := by
  obtain ⟨hframes, hscanout, hpicture, hdone, hcopy⟩ := h
  obtain ⟨hframes', hscanout', hpicture', hpower', hlight'⟩ := id hlater
  refine ⟨hframes'.trans hframes, hscanout'.trans hscanout, hpicture'.trans hpicture, fun hc => ?_, fun hc => ?_⟩
  · obtain ⟨hslotDone, hnotify, htaken⟩ := hdone hc
    exact ⟨hslot.trans hslotDone, fun hn => hattention (hnotify hn), htaken.later hlater⟩
  · obtain ⟨hslotKept, hpower, hidle, hends⟩ := hcopy hc
    rw [hlight']
    exact ⟨hslot.trans hslotKept, hpower'.trans hpower, hidle, hends⟩

end

end Sys2Proof.Machine
end

section
/-! PROOFS. The entry into STANDBY in its parts: the record, the power state, the panel, the PANEL slot that waits for ON, the
dark output and the idle pass count (R45, R123, R126, R130, R146, R172). -/

namespace Sys2Proof.Machine

section
variable {s : State}

/-! ### The PANEL slot that waits for a wish (R130) -/

/-- The PANEL slot that waits for the wish reached is DONE, and leaves its context. -/
theorem finishPanel_done {wish : Bool} {j : Job} (hj : s.exch.settingsJob = some j)
    (hwaits : j.kind = kindPanel ∧ panelWish j.params = wish) : ∃ messages, finishPanel wish s = { s with
      exch := { s.exch with
        settingsJob := none, slots := s.exch.slots.set j.slot.val (completedSlot s j.slot .done .ok 0 0),
        attention := if j.notify then s.exch.attention ||| Cause.bit .slot else s.exch.attention },
      link := { s.link with messages := messages } } := by
  obtain ⟨messages, hdone⟩ := complete_eq j.slot j.notify .ok 0 0 { s with exch.settingsJob := none }
  refine ⟨messages, ?_⟩
  simp only [finishPanel, hj, if_pos hwaits, completeJob, hdone]
  rfl

theorem finishPanel_other {wish : Bool}
    (h : ∀ j, s.exch.settingsJob = some j → ¬(j.kind = kindPanel ∧ panelWish j.params = wish)) : finishPanel wish s = s := by
  unfold finishPanel
  split
  · rfl
  · next j hj => rw [if_neg (h j hj)]

/-- A PANEL request completes its own slot alone. -/
theorem finishPanel_slot (wish : Bool) (s : State) {k : Fin 16} (hk : ∀ j, s.exch.settingsJob = some j → k ≠ j.slot) :
    slot (finishPanel wish s) k = slot s k := by
  cases hj : s.exch.settingsJob with
  | none => rw [finishPanel_other (by simp [hj])]
  | some j =>
    by_cases hwaits : j.kind = kindPanel ∧ panelWish j.params = wish
    · obtain ⟨messages, hdone⟩ := finishPanel_done hj hwaits
      rw [hdone]
      exact slot_setSlot_other _ s (hk j hj)
    · rw [finishPanel_other fun j' hj' => by rwa [← Option.some.inj (hj.symm.trans hj')]]

/-- No completion clears SLOT (R20). -/
theorem finishPanel_attention (wish : Bool) (s : State) (h : s.exch.attention.getLsbD 1 = true) :
    (finishPanel wish s).exch.attention.getLsbD 1 = true := by
  cases hj : s.exch.settingsJob with
  | none => rwa [finishPanel_other (by simp [hj])]
  | some j =>
    by_cases hwaits : j.kind = kindPanel ∧ panelWish j.params = wish
    · obtain ⟨messages, hdone⟩ := finishPanel_done hj hwaits
      rw [hdone]
      dsimp only
      split
      · simp [Cause.bit]
      · exact h
    · rwa [finishPanel_other fun j' hj' => by rwa [← Option.some.inj (hj.symm.trans hj')]]

/-! ### The panel test where the panel is not wanted (R123, R126, R135) -/

theorem panelTest_unwanted (h : wanted s = false) : (s.scanout.panel = .on → panelTest s = stopPanel .disable s) ∧
    (s.scanout.panel = .starting → panelTest s = stopPanel (undoStage s.scanout.stage) s) ∧
    (s.scanout.panel = .stopping ∨ s.scanout.panel = .off → panelTest s = s) := by
  refine ⟨fun hp => by simp [panelTest, hp, h], fun hp => by simp [panelTest, hp, h], fun hp => ?_⟩
  rcases hp with hp | hp <;> simp [panelTest, hp, h]

/-- A stop sequence with no PRESENT waiting. -/
theorem stopPanel_unwaited (st : Stage) (h : s.scanout.waiting = none) :
    stopPanel st s = recompute (enterStage .stopping st s) := by
  have hwaiting : (enterStage .stopping st s).scanout.waiting = none := h
  rw [stopPanel, swapWaiting, hwaiting]

/-- A stop sequence swaps the PRESENT that waits (R135). -/
theorem stopPanel_waited {carry : Bool} (st : Stage) (h : s.scanout.waiting = some carry) :
    stopPanel st s = recompute (swap carry (enterStage .stopping st s)) := by
  have hwaiting : (enterStage .stopping st s).scanout.waiting = some carry := h
  rw [stopPanel, swapWaiting, hwaiting]

/-- A stop sequence completes the slot of a PRESENT in work alone. -/
theorem stopPanel_slot (st : Stage) {k : Fin 16} (hwaits : s.scanout.waiting.isSome = true → s.picture.job.isSome = true)
    (hk : ∀ j, s.picture.job = some j → k ≠ j.slot) : slot (stopPanel st s) k = slot s k := by
  cases hw : s.scanout.waiting with
  | none =>
    rw [stopPanel_unwaited st hw]
    simp [slot, enterStage]
  | some carry =>
    obtain ⟨j, hj⟩ := Option.isSome_iff_exists.mp (hwaits (by simp [hw]))
    have hslot := swap_slot_other (s := enterStage .stopping st s) carry hj (hk j hj)
    rw [stopPanel_waited st hw]
    simpa [slot, enterStage] using hslot

theorem panelTest_slot {k : Fin 16} (h : wanted s = false)
    (hwaits : s.scanout.waiting.isSome = true → s.picture.job.isSome = true)
    (hk : ∀ j, s.picture.job = some j → k ≠ j.slot) : slot (panelTest s) k = slot s k := by
  obtain ⟨hon, hstarting, hrest⟩ := panelTest_unwanted h
  cases hp : s.scanout.panel with
  | on => rw [hon hp, stopPanel_slot _ hwaits hk]
  | starting => rw [hstarting hp, stopPanel_slot _ hwaits hk]
  | stopping => rw [hrest (.inl hp)]
  | off => rw [hrest (.inr hp)]

/-! ### The entry into STANDBY in its parts (R172) -/

/-- The entry once its record is written and its power state is STANDBY. -/
def standbyHanded (s : State) : State :=
  { plainRecord .power 0 s with power := { s.power with standby := true, lingerEnds := none } }

/-- The panel of the state found, once it has turned to the stop stage `st` in STANDBY. -/
def standbyStopping (st : Stage) (s : State) : State :=
  { s with
    power := { s.power with standby := true, lingerEnds := none },
    scanout := { s.scanout with panel := .stopping, stage := some st, stageEnds := after s st.time } }

/-- The record aside, what is handed over is the state found, in STANDBY (R76). -/
theorem standbyHanded_eq (s : State) : ∃ mem journal attention messages, standbyHanded s = { s with
    mem := mem, journal := journal, exch := { s.exch with attention := attention },
    link := { s.link with messages := messages },
    power := { s.power with standby := true, lingerEnds := none } } := by
  obtain ⟨mem, journal, attention, messages, hrecord, -⟩ := plainRecord_journalOnly .power 0 s
  exact ⟨mem, journal, attention, messages, by rw [standbyHanded, hrecord]⟩

theorem standbyHanded_keeps (s : State) : (standbyHanded s).picture = s.picture ∧ (standbyHanded s).scanout = s.scanout ∧
    (standbyHanded s).scanner = s.scanner ∧ (standbyHanded s).exch.slots = s.exch.slots ∧
    (standbyHanded s).exch.settingsJob = s.exch.settingsJob ∧
    (standbyHanded s).power = { s.power with standby := true, lingerEnds := none } ∧ wanted (standbyHanded s) = false := by
  obtain ⟨mem, journal, attention, messages, hhanded⟩ := standbyHanded_eq s
  rw [hhanded]
  exact ⟨rfl, rfl, rfl, rfl, rfl, rfl, rfl⟩

theorem enterStandby_eq (s : State) : enterStandby s = { recompute (finishPanel true (panelTest (standbyHanded s))) with
    scanner := { s.scanner with idlePasses := 0 } } := by
  have hpower : (plainRecord .power 0 s).power = s.power := by simp
  have hscanner : (recompute (finishPanel true (panelTest (standbyHanded s)))).scanner = s.scanner := by
    simp [(standbyHanded_keeps s).2.2.1]
  rw [← hscanner, standbyHanded, ← hpower]
  rfl

theorem enterStandby_levelsOnly (s : State) : LevelsOnly (panelTest (standbyHanded s)) (enterStandby s) := by
  have hlight : (finishPanel true (panelTest (standbyHanded s))).light = (panelTest (standbyHanded s)).light := by simp
  have hfinish : LevelsOnly (panelTest (standbyHanded s)) (finishPanel true (panelTest (standbyHanded s))) :=
    ⟨by simp, by simp, by simp, by simp, by rw [hlight]⟩
  rw [enterStandby_eq]
  exact hfinish.trans (recompute_levelsOnly _)

theorem enterStandby_exch (s : State) : (enterStandby s).exch = (finishPanel true (panelTest (standbyHanded s))).exch := by
  simp [enterStandby_eq]

/-- In STANDBY the target is 0, and the output and the key light follow at once (R146 to R148). -/
theorem enterStandby_dark (s : State) :
    (enterStandby s).light.output = 0 ∧ (enterStandby s).light.target = 0 ∧ (enterStandby s).light.keyLight = 0 := by
  obtain ⟨-, -, -, -, -, hpower, -⟩ := standbyHanded_keeps s
  have hdark : dark (finishPanel true (panelTest (standbyHanded s))) = true := by simp [dark, hpower]
  have hlevel : targetLevel (finishPanel true (panelTest (standbyHanded s))) = 0 := by simp [targetLevel, hdark]
  rw [enterStandby_eq]
  simp [recompute, immediate, hdark, hlevel, setOutput, keyLightLevel]

/-! ### The picture path at the entry (R126, R135) -/

/-- Where the panel is stopping or OFF, the picture path stays. -/
theorem enterStandby_stays (hpanel : s.scanout.panel = .stopping ∨ s.scanout.panel = .off) :
    LevelsOnly { s with power := { s.power with standby := true, lingerEnds := none } } (enterStandby s) := by
  obtain ⟨-, hscanout, -, -, -, -, hunwanted⟩ := standbyHanded_keeps s
  have hrest := (panelTest_unwanted hunwanted).2.2 (by rwa [hscanout])
  have hlevels := enterStandby_levelsOnly s
  obtain ⟨mem, journal, attention, messages, hhanded⟩ := standbyHanded_eq s
  rw [hrest, hhanded] at hlevels
  exact hlevels

/-- A stop sequence that begins with no PRESENT waiting leaves the rest of the picture path. -/
theorem enterStandby_unwaited {st : Stage} (hstop : panelTest (standbyHanded s) = stopPanel st (standbyHanded s))
    (hw : s.scanout.waiting = none) : LevelsOnly (standbyStopping st s) (enterStandby s) := by
  obtain ⟨mem, journal, attention, messages, hhanded⟩ := standbyHanded_eq s
  have hw' : (standbyHanded s).scanout.waiting = none := by rw [hhanded]; exact hw
  have hlevels := enterStandby_levelsOnly s
  rw [hstop, stopPanel_unwaited st hw'] at hlevels
  have hall := (recompute_levelsOnly _).trans hlevels
  rw [hhanded] at hall
  exact hall

/-- A stop sequence that begins with a PRESENT waiting swaps it (R135). -/
theorem enterStandby_waited (h : ExchangeInv s) {st : Stage}
    (hstop : panelTest (standbyHanded s) = stopPanel st (standbyHanded s)) {carry : Bool} {j : Job}
    (hw : s.scanout.waiting = some carry) (hj : s.picture.job = some j) :
    Swapped carry j (standbyStopping st s) (enterStandby s) := by
  obtain ⟨hpicture, hscanout, -, hslots, hsettings, -⟩ := standbyHanded_keeps s
  have hswapped : Swapped carry j (enterStage .stopping st (standbyHanded s))
      (swap carry (enterStage .stopping st (standbyHanded s))) :=
    swap_swapped carry (by rw [← hj, ← hpicture]; rfl) (by rw [← h.slots, ← hslots]; rfl)
  have hstopped := hstop.trans (stopPanel_waited st (hscanout ▸ hw))
  have hother : ∀ i, (panelTest (standbyHanded s)).exch.settingsJob = some i → j.slot ≠ i.slot := by
    intro i hi
    have hapart := ((h.apart i).1 (by simpa [hsettings] using hi)).1
    rw [hj] at hapart
    simpa [holds] using hapart
  have hslot := finishPanel_slot true (panelTest (standbyHanded s)) hother
  have hattention := finishPanel_attention true (panelTest (standbyHanded s))
  have hlevels := enterStandby_levelsOnly s
  have hexch := enterStandby_exch s
  rw [hstopped] at hslot hattention hlevels hexch
  have hall := hswapped.later ((recompute_levelsOnly _).trans hlevels)
    (by rw [slot, hexch, ← slot, hslot]; simp [slot]) (fun ha => by rw [hexch]; exact hattention (by simpa using ha))
  obtain ⟨mem, journal, attention, messages, hhanded⟩ := standbyHanded_eq s
  rw [hhanded] at hall
  exact hall

/-- A swap leaves the power state, where the linger timer is stopped (R170). -/
theorem Swapped.power {carry : Bool} {j : Job} {t : State} (h : Swapped carry j s t) (hlinger : s.power.lingerEnds = none) :
    t.power = s.power := by
  obtain ⟨-, -, -, hdone, hcopy⟩ := h
  cases carry with
  | true => exact (hcopy rfl).2.1
  | false =>
    obtain ⟨-, -, hpower, -⟩ := hdone rfl
    rw [hpower, hlinger, Option.map_none, ite_self, ← hlinger]

/-- Where a stop sequence begins: the power state and the stage. -/
theorem enterStandby_stopping (h : ExchangeInv s) {st : Stage}
    (hstop : panelTest (standbyHanded s) = stopPanel st (standbyHanded s)) :
    (enterStandby s).power = { s.power with standby := true, lingerEnds := none } ∧
    (enterStandby s).scanout.panel = .stopping ∧ (enterStandby s).scanout.stage = some st ∧
    (enterStandby s).scanout.stageEnds = s.power.dockTime + ms st.time := by
  cases hw : s.scanout.waiting with
  | none =>
    obtain ⟨-, hscanout, -, hpower, -⟩ := enterStandby_unwaited hstop hw
    rw [hscanout]
    exact ⟨hpower, rfl, rfl, rfl⟩
  | some carry =>
    obtain ⟨j, hj⟩ := Option.isSome_iff_exists.mp (h.waiting (by simp [hw]))
    have hswapped := enterStandby_waited h hstop hw hj
    have hpower := hswapped.power rfl
    obtain ⟨-, hscanout, -⟩ := hswapped
    rw [hscanout]
    exact ⟨hpower, rfl, rfl, rfl⟩

/-! ### The entry whole (R172) -/

/-- The PANEL slot at an entry into STANDBY (R130). -/
theorem enterStandby_panelSlot (h : ExchangeInv s) {j : Job} (hj : s.exch.settingsJob = some j) :
    (j.kind = kindPanel ∧ j.params.getD 0 0 ≠ 0 → (enterStandby s).exch.settingsJob = none ∧
      slot (enterStandby s) j.slot = completedSlot s j.slot .done .ok 0 0 ∧
      (j.notify = true → (enterStandby s).exch.attention.getLsbD 1 = true)) ∧
    (¬(j.kind = kindPanel ∧ j.params.getD 0 0 ≠ 0) → (enterStandby s).exch.settingsJob = some j ∧
      slot (enterStandby s) j.slot = slot s j.slot) := by
  obtain ⟨hpicture, hscanout, -, hslots, hsettings, hpower, hunwanted⟩ := standbyHanded_keeps s
  have hwish : (j.kind = kindPanel ∧ panelWish j.params = true) ↔ (j.kind = kindPanel ∧ j.params.getD 0 0 ≠ 0) := by
    rw [panelWish, bne_iff_ne, param8]
  have hjob : (panelTest (standbyHanded s)).exch.settingsJob = some j := by simpa [hsettings] using hj
  have hapart : ∀ i, (standbyHanded s).picture.job = some i → j.slot ≠ i.slot := by
    intro i hi
    have hholds := ((h.apart j).1 hj).1
    rw [← hpicture, hi] at hholds
    exact fun he => by simp [holds, he] at hholds
  have hslot : slot (panelTest (standbyHanded s)) j.slot = slot s j.slot := by
    rw [panelTest_slot hunwanted (by rw [hpicture, hscanout]; exact h.waiting) hapart, slot, hslots, ← slot]
  have hcompleted : completedSlot (panelTest (standbyHanded s)) j.slot .done .ok 0 0 =
      completedSlot s j.slot .done .ok 0 0 := by
    rw [completedSlot, hslot]
    simp [completedSlot, hscanout, hpower]
  have hlen : (panelTest (standbyHanded s)).exch.slots.length = 16 := by simpa [hslots] using h.slots
  rw [slot, enterStandby_exch, ← slot]
  refine ⟨fun hwaits => ?_, fun hother => ?_⟩
  · obtain ⟨messages, hdone⟩ := finishPanel_done hjob (hwish.mpr hwaits)
    rw [hdone, ← hcompleted]
    exact ⟨rfl, slot_setSlot_same j.slot _ (panelTest (standbyHanded s)) hlen, slotRaised _⟩
  · rw [finishPanel_other fun i hi => ?_]
    · exact ⟨hjob, hslot⟩
    · rw [hjob] at hi
      cases hi
      rwa [hwish]

/-- The entry from a panel that is ON or STARTING. -/
theorem enterStandby_entered_stopping (h : ExchangeInv s) {st : Stage}
    (hpanel : s.scanout.panel = .on ∧ st = .disable ∨ s.scanout.panel = .starting ∧ st = undoStage s.scanout.stage) :
    StandbyEntered s (enterStandby s) := by
  obtain ⟨-, hscanout, -, -, -, -, hunwanted⟩ := standbyHanded_keeps s
  obtain ⟨hon, hstarting, -⟩ := panelTest_unwanted hunwanted
  have hstop : panelTest (standbyHanded s) = stopPanel st (standbyHanded s) := by
    rw [hscanout] at hon hstarting
    rcases hpanel with ⟨hp, rfl⟩ | ⟨hp, rfl⟩
    · exact hon hp
    · exact hstarting hp
  obtain ⟨houtput, htarget, hkey⟩ := enterStandby_dark s
  obtain ⟨hpower, hstopping, hstage, hends⟩ := enterStandby_stopping h hstop
  have hundone : ∀ {found}, s.scanout.panel = .starting → s.scanout.stage = found →
      (enterStandby s).scanout.panel = .stopping ∧ (enterStandby s).scanout.stage = some (undoStage found) ∧
      (enterStandby s).scanout.stageEnds = s.power.dockTime + ms (undoStage found).time := by
    rintro found hp rfl
    rcases hpanel with ⟨hp', -⟩ | ⟨-, rfl⟩
    · simp [hp'] at hp
    · exact ⟨hstopping, hstage, hends⟩
  refine ⟨hpower, houtput, htarget, hkey, enterStandby_scanner s, by simp, by simp, by simp, by simp, by simp, by simp,
    by simp, fun hp => ?_, fun hp => ⟨hundone hp, hundone hp, hundone hp⟩, fun carry j _ hw hj => ?_, fun hw => ?_,
    fun hp => ?_, fun j hj => enterStandby_panelSlot h hj⟩
  · have hst : st = .disable := by
      rcases hpanel with ⟨-, hst⟩ | ⟨hp', -⟩
      · exact hst
      · simp [hp] at hp'
    subst hst
    exact ⟨hstopping, hstage, hends⟩
  · rw [hstopping, hstage, hends]
    exact enterStandby_waited h hstop hw hj
  · have hnone : s.scanout.waiting = none := hw.resolve_right (not_not_intro (hpanel.imp And.left And.left))
    obtain ⟨-, hkept, hpicture, -, hlight⟩ := enterStandby_unwaited hstop hnone
    rw [hstopping, hstage, hends, hlight]
    exact ⟨hkept, hpicture, rfl, rfl⟩
  · rcases hpanel with ⟨hp', -⟩ | ⟨hp', -⟩ <;> simp [hp'] at hp

/-- The entry into STANDBY, by what it finds of the panel (R172). -/
theorem enterStandby_entered (h : ExchangeInv s) : StandbyEntered s (enterStandby s) := by
  have hrest : s.scanout.panel = .stopping ∨ s.scanout.panel = .off → StandbyEntered s (enterStandby s) := by
    intro hp
    obtain ⟨houtput, htarget, hkey⟩ := enterStandby_dark s
    obtain ⟨-, hscanout, hpicture, hpower, hlight⟩ := enterStandby_stays hp
    refine ⟨hpower, houtput, htarget, hkey, enterStandby_scanner s, by simp, by simp, by simp, by simp, by simp, by simp,
      by simp, fun ho => ?_, fun hs => ?_, fun carry j hstops => ?_, fun _ => ?_, fun _ => hscanout,
      fun j hj => enterStandby_panelSlot h hj⟩
    · simp [ho] at hp
    · simp [hs] at hp
    · rcases hstops with hs | hs <;> simp [hs] at hp
    · rw [hscanout, hlight]
      exact ⟨rfl, hpicture, rfl, rfl⟩
  cases hp : s.scanout.panel with
  | on => exact enterStandby_entered_stopping h (.inl ⟨hp, rfl⟩)
  | starting => exact enterStandby_entered_stopping h (.inr ⟨hp, rfl⟩)
  | stopping => exact hrest (.inl hp)
  | off => exact hrest (.inr hp)

/-- A record handed over is written where it can be (R76, R77). -/
theorem handRecord_writes (r : Rec) (s : State) : Writes [r] s (handRecord r s) := by
  intro hwf hwritable
  obtain ⟨hrecord, hhead⟩ := handRecord_written_at r hwf hwritable
  refine ⟨hhead, fun i hi => ?_⟩
  obtain rfl : i = 0 := by simpa using hi
  simpa using hrecord

theorem Writes.of_eq {rs : List Rec} {t u : State} (h : Writes rs s t) (hmem : u.mem = t.mem)
    (hjournal : u.journal = t.journal) : Writes rs s u := by
  intro hwf hwritable
  rw [hmem, hjournal]
  exact h hwf hwritable

/-- The record of an entry into STANDBY (R172). -/
theorem enterStandby_writes (s : State) : Writes [⟨.power, none, 0, snapshot s, 0, 0⟩] s (enterStandby s) :=
  (handRecord_writes _ s).of_eq (by simp [enterStandby, plainRecord]) (by simp [enterStandby, plainRecord])

end

end Sys2Proof.Machine
end

section
/-! PROOFS. A wake from STANDBY: the two timers with their fresh loads, the panel by the wish, the end of the pauses, and the
scan (R46, R118, R123, R136, R146, R149, R170, R173, R174). -/

namespace Sys2Proof.Machine

section
variable {s t u : State}

/-! ### Timers that activity does not move (R149, R170) -/

/-- The linger timer is stopped, or newly loaded with the wake load. -/
def LingerFresh (s : State) : Prop := s.power.lingerEnds = none ∨ s.power.lingerEnds = some (after s (wakeLoad s))

/-- The idle timer is OFF, or newly loaded. -/
def IdleFresh (s : State) : Prop := s.light.idle = .off ∨
  s.light.idle = .running ∧ s.light.idleEnds = after s (s.light.settings.idleTimeout * 1000)

/-- What activity events keep of the timers: a fresh linger timer, and whether the idle timer is OFF. -/
structure TimersKept (s t : State) : Prop where
  power : LingerFresh s → t.power = s.power
  settings : t.light.settings = s.light.settings
  idleOff : s.light.idle = .off → t.light.idle = .off ∧ t.light.idleEnds = s.light.idleEnds
  idleOn : s.light.idle ≠ .off → t.light.idle ≠ .off

theorem LingerFresh.of_power (h : LingerFresh s) (hpower : t.power = s.power) : LingerFresh t := by
  simpa only [LingerFresh, after, now, wakeLoad, hpower] using h

theorem TimersKept.trans (h : TimersKept s t) (h' : TimersKept t u) : TimersKept s u := by
  refine ⟨fun hf => ?_, h'.settings.trans h.settings, fun hoff => ?_, fun hon => h'.idleOn (h.idleOn hon)⟩
  · have hpower := h.power hf
    exact (h'.power (hf.of_power hpower)).trans hpower
  · obtain ⟨hidle, hends⟩ := h.idleOff hoff
    obtain ⟨hidle', hends'⟩ := h'.idleOff hidle
    exact ⟨hidle', hends'.trans hends⟩

theorem TimersKept.of_eq (hpower : t.power = s.power) (hlight : t.light = s.light) : TimersKept s t :=
  ⟨fun _ => hpower, by rw [hlight], fun hoff => by rw [hlight]; exact ⟨hoff, rfl⟩, fun hon => by rwa [hlight]⟩

theorem TimersKept.after (h : TimersKept t u) (hsame : t.power = s.power ∧ t.light = s.light) : TimersKept s u :=
  (TimersKept.of_eq hsame.1 hsame.2).trans h

theorem recompute_timersKept (s : State) : TimersKept s (recompute s) :=
  ⟨fun _ => by simp, by simp, fun hoff => by simp [hoff], fun hon => by simpa using hon⟩

theorem activity_timersKept (a : Activity) (s : State) : TimersKept s (activity a s) := by
  obtain ⟨hpower, hlight, htimer⟩ := activity_taken a s
  obtain ⟨-, -, -, hlinger, -⟩ := activity_activityOnly a s
  refine ⟨fun hfresh => ?_, by rw [hlight], fun hoff => ?_, fun hon => ?_⟩
  · have hends : (activity a s).power.lingerEnds = s.power.lingerEnds := by
      rw [hpower]
      rcases hfresh with hnone | hsome
      · simp [hnone]
      · simp [hsome, after, now, wakeLoad]
    rw [hlinger, hends]
  · rw [if_neg fun h => h.2 hoff] at htimer
    rwa [hoff] at htimer
  · split at htimer
    · simp [htimer.1]
    · rwa [htimer.1]

/-- Activity does not move a fresh idle timer. -/
theorem activity_light (a : Activity) (h : IdleFresh s) : (activity a s).light = s.light := by
  have hrestart : (idleRestart s).light = s.light := by
    rcases h with hoff | ⟨hrun, hends⟩
    · rw [(idleRestart_timer s).1 hoff]
    · have hload : (idleLoad s).light = s.light := by rw [idleLoad, ← hends, ← hrun]
      simpa [idleRestart, hrun] using hload
  have hidle : (idleActivity a s).light = s.light := by
    unfold idleActivity
    split
    · exact hrestart
    · rfl
  simpa [activity] using hidle

/-! ### The timers under the picture path (R135) -/

theorem finishPresent_timersKept (code : ResultCode) (n : Nat) (s : State) : TimersKept s (finishPresent code n s) := by
  unfold finishPresent
  split
  · exact .of_eq rfl rfl
  · exact (TimersKept.of_eq (by simp) (by simp)).trans (activity_timersKept _ _)

theorem finishPresent_light (code : ResultCode) (n : Nat) (h : IdleFresh s) : (finishPresent code n s).light = s.light := by
  unfold finishPresent
  split
  · rfl
  · rw [activity_light]
    · simp
    · simpa [IdleFresh, after, now] using h

theorem carryBoundary_timersKept (c : Carry) (s : State) : TimersKept s (carryBoundary c s) := by
  have hfinish := fun code => (finishPresent_timersKept code Config.panelHeight { s with scanout.carry := none }).after
    (s := s) ⟨rfl, rfl⟩
  unfold carryBoundary
  split
  · exact .of_eq rfl rfl
  · split
    · split
      · exact .of_eq rfl rfl
      · exact hfinish _
    · split <;> exact .of_eq rfl rfl

theorem carryBoundary_light (c : Carry) (h : IdleFresh s) : (carryBoundary c s).light = s.light := by
  have hfinish := fun code => finishPresent_light (s := { s with scanout.carry := none }) code Config.panelHeight h
  unfold carryBoundary
  split
  · rfl
  · split
    · split
      · rfl
      · exact hfinish _
    · split <;> rfl

theorem swap_timersKept (carry : Bool) (s : State) : TimersKept s (swap carry s) := by
  unfold swap
  dsimp only
  split
  · exact (carryBoundary_timersKept _ _).after ⟨rfl, rfl⟩
  · exact (finishPresent_timersKept _ _ _).after ⟨rfl, rfl⟩

theorem swapWaiting_timersKept (s : State) : TimersKept s (swapWaiting s) := by
  unfold swapWaiting
  split
  · exact .of_eq rfl rfl
  · exact swap_timersKept _ s

theorem stopPanel_timersKept (st : Stage) (s : State) : TimersKept s (stopPanel st s) :=
  ((swapWaiting_timersKept (enterStage .stopping st s)).trans (recompute_timersKept _)).after ⟨rfl, rfl⟩

theorem startPanel_timersKept (s : State) : TimersKept s (startPanel s) :=
  (recompute_timersKept (enterStage .starting .rails s)).after ⟨rfl, rfl⟩

theorem panelTest_timersKept (s : State) : TimersKept s (panelTest s) := by
  unfold panelTest
  (repeat' split)
  · exact startPanel_timersKept s
  · exact .of_eq rfl rfl
  · exact .of_eq rfl rfl
  · exact stopPanel_timersKept _ s
  · exact .of_eq rfl rfl
  · exact stopPanel_timersKept _ s
  · exact .of_eq rfl rfl

theorem resumePictures_timersKept (s : State) : TimersKept s (resumePictures s) := by
  have hcarry : TimersKept (resumePicture s) (resumePictures s) := by
    unfold resumePictures resumeCarry
    (repeat' split)
    · exact .of_eq rfl rfl
    · exact carryBoundary_timersKept _ _
    · exact .of_eq rfl rfl
  exact hcarry.after (by simp)

/-- Where the idle timer is fresh the levels stay while the picture path is resumed. -/
theorem resumePictures_light (h : IdleFresh s) : (resumePictures s).light = s.light := by
  have hpicture : (resumePicture s).light = s.light := by simp
  unfold resumePictures resumeCarry
  (repeat' split)
  · exact hpicture
  · rw [carryBoundary_light]
    · exact hpicture
    · simpa [IdleFresh, after, now] using h
  · exact hpicture

/-! ### The panel and the carry copy at a wake (R123, R136) -/

theorem resumePictures_panel (s : State) : (resumePictures s).scanout.panel = s.scanout.panel ∧
    (resumePictures s).scanout.stage = s.scanout.stage ∧ (resumePictures s).scanout.stageEnds = s.scanout.stageEnds := by
  have hpicture : (resumePicture s).scanout = s.scanout := by simp
  have hfinish : ∀ code n (s : State), (finishPresent code n s).scanout.panel = s.scanout.panel ∧
      (finishPresent code n s).scanout.stage = s.scanout.stage ∧
      (finishPresent code n s).scanout.stageEnds = s.scanout.stageEnds := by
    intro code n s
    unfold finishPresent
    split <;> simp
  have hcarry : ∀ c (s : State), (carryBoundary c s).scanout.panel = s.scanout.panel ∧
      (carryBoundary c s).scanout.stage = s.scanout.stage ∧
      (carryBoundary c s).scanout.stageEnds = s.scanout.stageEnds := by
    intro c s
    unfold carryBoundary
    split
    · exact ⟨rfl, rfl, rfl⟩
    · split
      · split
        · exact ⟨rfl, rfl, rfl⟩
        · exact hfinish _ _ { s with scanout.carry := none }
      · split <;> exact ⟨rfl, rfl, rfl⟩
  rw [← hpicture]
  unfold resumePictures resumeCarry
  (repeat' split)
  · exact ⟨rfl, rfl, rfl⟩
  · exact hcarry _ _
  · exact ⟨rfl, rfl, rfl⟩

/-- In CRANK or STANDBY nothing goes on (R118, R136). -/
theorem resumePictures_paused (h : pauses s = true) : resumePictures s = s := by
  have hpicture : resumePicture s = s := by simp [resumePicture, h]
  rw [resumePictures, hpicture, resumeCarry]
  split
  · rfl
  · simp [h]

/-- With no carry copy the engine alone goes on (R118). -/
theorem resumePictures_noCarry (h : s.scanout.carry = none) : resumePictures s = resumePicture s := by
  have hcarry : (resumePicture s).scanout.carry = none := by simpa using h
  rw [resumePictures, resumeCarry, hcarry]

/-- A carry copy within its rows goes on with its row (R136). -/
theorem resumePictures_carry {c : Carry} (h : s.scanout.carry = some c) (hpauses : pauses s = false) :
    (c.inRow = true → (resumePictures s).scanout.carry = some c) ∧
    (c.inRow = false → c.stopping = false → c.row < 800 →
      (resumePictures s).scanout.carry = some { c with inRow := true }) := by
  have hcarry : (resumePicture s).scanout.carry = some c := by simpa using h
  have hpauses' : pauses (resumePicture s) = false := by simpa [pauses] using hpauses
  rw [resumePictures, resumeCarry, hcarry]
  refine ⟨fun hrow => ?_, fun hrow hstop hless => ?_⟩
  · simpa [hrow] using h
  · simp [hrow, hpauses', carryBoundary, hstop, Config.panelHeight, Nat.not_le.mpr hless]

theorem panelTest_start (hoff : s.scanout.panel = .off) (hw : wanted s = true) :
    (panelTest s).scanout.panel = .starting ∧ (panelTest s).scanout.stage = some .rails ∧
    (panelTest s).scanout.stageEnds = s.power.dockTime + ms 20 := by
  simp [panelTest, hoff, hw, startPanel, enterStage, after, now, Stage.time]

theorem panelTest_rest (h : s.scanout.panel = .off ∧ wanted s = false ∨ s.scanout.panel = .stopping) : panelTest s = s := by
  rcases h with ⟨hoff, hw⟩ | hstopping
  · simp [panelTest, hoff, hw]
  · simp [panelTest, hstopping]

/-- With no PRESENT waiting the panel test moves the panel and the levels alone. -/
theorem panelTest_unwaited (h : s.scanout.waiting = none) : (panelTest s).picture = s.picture ∧
    (panelTest s).exch = s.exch ∧ (panelTest s).link = s.link ∧ (panelTest s).scanout.carry = s.scanout.carry := by
  unfold panelTest
  (repeat' split)
  · simp [startPanel, enterStage]
  · exact ⟨rfl, rfl, rfl, rfl⟩
  · exact ⟨rfl, rfl, rfl, rfl⟩
  · rw [stopPanel_unwaited _ h]
    simp [enterStage]
  · exact ⟨rfl, rfl, rfl, rfl⟩
  · rw [stopPanel_unwaited _ h]
    simp [enterStage]
  · exact ⟨rfl, rfl, rfl, rfl⟩

/-! ### The stages of a wake (R174) -/

/-- A wake once its record is written and the linger timer is loaded. -/
def wokenTimers (w : WakeSource) (s : State) : State :=
  let s1 := wakeRecord w { s with power.standby := false }
  if s1.lines.ignOn then s1 else { s1 with power.lingerEnds := some (after s1 (wakeLoad s1)) }

/-- A wake once the panel and the idle timer have followed, before the picture path goes on. -/
def wokenLevels (w : WakeSource) (s : State) : State := recompute (idleRestart (panelTest (wokenTimers w s)))

theorem wokenBlocks_eq (w : WakeSource) (s : State) : wokenBlocks w s = resumePictures (wokenLevels w s) := rfl

theorem wakeRecord_journalOnly (w : WakeSource) (s : State) : JournalOnly s (wakeRecord w s) := by
  unfold wakeRecord
  split
  · exact handRecord_journalOnly _ s
  · exact handRecord_journalOnly _ s

/-- The record aside, the state found, in ACTIVE, with the linger timer by IGN (R170). -/
theorem wokenTimers_eq (w : WakeSource) (s : State) : ∃ mem journal attention messages, RingOnly s.mem mem ∧
    wokenTimers w s = { s with
      mem := mem, journal := journal, exch := { s.exch with attention := attention },
      link := { s.link with messages := messages },
      power := { s.power with
        standby := false, lingerEnds := if s.lines.ignOn then s.power.lingerEnds else some (after s (wakeLoad s)) } } := by
  have hring : RingOnly s.mem (wakeRecord w { s with power.standby := false }).mem := wakeRecord_ring w (RingOnly.refl s.mem)
  obtain ⟨mem, journal, attention, messages, hrecord, -⟩ := wakeRecord_journalOnly w { s with power.standby := false }
  rw [hrecord] at hring
  refine ⟨mem, journal, attention, messages, hring, ?_⟩
  rw [wokenTimers, hrecord]
  cases s.lines.ignOn <;> simp [after, now, wakeLoad]

end

end Sys2Proof.Machine
end

section
/-! PROOFS. The wake from STANDBY block by block, and LINGER_EXPIRY with it (R46, R118, R136, R149, R170, R172 to R174). -/

namespace Sys2Proof.Machine

section
variable {s t : State} (w : WakeSource)

/-! ### The scan at a wake (R46) -/

theorem wokenBlocks_dockTime (s : State) : (wokenBlocks w s).power.dockTime = s.power.dockTime := by
  have hpower : (wake w s).power = (wokenBlocks w s).power := by simp [wake_eq]
  rw [← hpower]
  simp

theorem wake_fromFast (hm : s.scanner.mode = .fast) :
    (wake w s).scanner = { s.scanner with idlePasses := 0 } ∧ (wake w s).composer = s.composer := by
  have hmode : (wokenBlocks w s).scanner.mode = .fast := by simpa using hm
  rw [wake_eq, scannerWake, hmode]
  simp

/-- From SLOW scan a due pass is made FAST in this millisecond, and else the next one is (R46, log entry 18). -/
theorem wake_fromSlow (hm : s.scanner.mode = .slow) : (wake w s).scanner.idlePasses = 0 ∧
    (wake w s).scanner.passAt = if slowPassDue s then s.scanner.passAt else s.power.dockTime := by
  have hscanner : (wokenBlocks w s).scanner = s.scanner := by simp
  have hnow : now (wokenBlocks w s) = s.power.dockTime := wokenBlocks_dockTime w s
  have hdue : slowPassDue (wokenBlocks w s) = slowPassDue s := by rw [slowPassDue, hscanner, hnow]; rfl
  rw [wake_eq, scannerWake, hscanner, hm]
  simp [hdue, hnow, switchToFast]

theorem wake_idlePasses (s : State) : (wake w s).scanner.idlePasses = 0 := by
  cases hm : s.scanner.mode with
  | fast => rw [(wake_fromFast w hm).1]
  | slow => exact (wake_fromSlow w hm).1

theorem wake_fastDue (s : State) : fastDue (wake w s) = true ↔ (wake w s).scanner.passAt ≠ s.power.dockTime := by
  have hdock : (wake w s).power.dockTime = s.power.dockTime := by simp
  rw [fastDue_iff, hdock]
  exact and_iff_right (wake_fast w s)

/-! ### The timers at a wake (R149, R170) -/

theorem idleRestart_timersKept (s : State) : TimersKept s (idleRestart s) := by
  obtain ⟨hoff, hrun⟩ := idleRestart_timer s
  obtain ⟨-, -, -, -, hlight⟩ := idleRestart_activityOnly s
  refine ⟨fun _ => by simp, by rw [hlight], fun h => by rw [hoff h]; exact ⟨h, rfl⟩, fun h => by simp [(hrun h).1]⟩

theorem wokenLevels_timersKept (s : State) : TimersKept (wokenTimers w s) (wokenLevels w s) :=
  ((panelTest_timersKept _).trans (idleRestart_timersKept _)).trans (recompute_timersKept _)

theorem wokenBlocks_timersKept (s : State) : TimersKept (wokenTimers w s) (wokenBlocks w s) :=
  (wokenLevels_timersKept w s).trans (resumePictures_timersKept _)

theorem wokenTimers_keeps (s : State) : (wokenTimers w s).light = s.light ∧ (wokenTimers w s).scanout = s.scanout ∧
    (wokenTimers w s).power.dockTime = s.power.dockTime ∧ (wokenTimers w s).power.standby = false ∧
    (wokenTimers w s).power.band = s.power.band ∧ (wokenTimers w s).lines = s.lines := by
  obtain ⟨mem, journal, attention, messages, -, htimers⟩ := wokenTimers_eq w s
  rw [htimers]
  exact ⟨rfl, rfl, rfl, rfl, rfl, rfl⟩

/-- The idle timer runs afresh, unless it is OFF (R149, R174). -/
theorem wokenLevels_idle (s : State) : IdleFresh (wokenLevels w s) ∧ (s.light.idle ≠ .off →
    (wokenLevels w s).light.idle = .running ∧
    (wokenLevels w s).light.idleEnds = s.power.dockTime + ms (s.light.settings.idleTimeout * 1000)) := by
  obtain ⟨hlight, -, hdock, -⟩ := wokenTimers_keeps w s
  have hkept := panelTest_timersKept (wokenTimers w s)
  have hall := wokenLevels_timersKept w s
  obtain ⟨-, hrun⟩ := idleRestart_timer (panelTest (wokenTimers w s))
  have hsettings : (panelTest (wokenTimers w s)).light.settings = s.light.settings := by rw [hkept.settings, hlight]
  have hrunning : s.light.idle ≠ .off → (wokenLevels w s).light.idle = .running ∧
      (wokenLevels w s).light.idleEnds = s.power.dockTime + ms (s.light.settings.idleTimeout * 1000) := by
    intro hon
    obtain ⟨hidle, hends⟩ := hrun (hkept.idleOn (by rwa [hlight]))
    rw [hsettings, (panelTest_fields _).1, hdock] at hends
    exact ⟨by simpa [wokenLevels] using hidle, by simpa [wokenLevels] using hends⟩
  refine ⟨?_, hrunning⟩
  by_cases hoff : s.light.idle = .off
  · exact .inl (hall.idleOff (by rwa [hlight])).1
  · obtain ⟨hidle, hends⟩ := hrunning hoff
    have hdock' : (wokenLevels w s).power.dockTime = s.power.dockTime := by simp [wokenLevels, hdock]
    refine .inr ⟨hidle, ?_⟩
    rw [hends, after, now, hdock', hall.settings, hlight]

theorem targetLevel_congr (hlight : t.light = s.light) (hpanel : t.scanout.panel = s.scanout.panel) (hlines : t.lines = s.lines)
    (hband : t.power.band = s.power.band) (hstandby : t.power.standby = s.power.standby) : targetLevel t = targetLevel s := by
  have hbase : baseLevel t = baseLevel s := by
    rw [baseLevel, hlight]
    rfl
  have hdark : dark t = dark s := by rw [dark, hpanel, hstandby, ← dark]
  simp only [targetLevel, hbase, hdark, hlight, hlines, hband]

/-- The target is the level of the state reached (R146). -/
theorem wokenBlocks_target (s : State) : (wokenBlocks w s).light.target = targetLevel (wokenBlocks w s) := by
  have hlight := resumePictures_light (wokenLevels_idle w s).1
  have hlevel : targetLevel (wokenBlocks w s) = targetLevel (wokenLevels w s) :=
    targetLevel_congr hlight (resumePictures_panel _).1 (by simp [wokenBlocks_eq]) (by simp [wokenBlocks_eq])
      (by simp [wokenBlocks_eq])
  rw [hlevel, wokenBlocks_eq, hlight, wokenLevels, recompute_target, targetLevel_recompute]

/-- The linger timer by IGN (R170). -/
theorem wokenBlocks_linger (s : State) : (s.lines.ignOn = true → s.power.lingerEnds = none →
      (wokenBlocks w s).power.lingerEnds = none) ∧
    (s.lines.ignOn = false → (wokenBlocks w s).power.lingerEnds = some (after s (wakeLoad s))) := by
  obtain ⟨mem, journal, attention, messages, -, htimers⟩ := wokenTimers_eq w s
  have hkept := (wokenBlocks_timersKept w s).power
  refine ⟨fun hign hnone => ?_, fun hign => ?_⟩
  · have hends : (wokenTimers w s).power.lingerEnds = none := by simp [htimers, hign, hnone]
    rw [hkept (.inl hends), hends]
  · have hends : (wokenTimers w s).power.lingerEnds = some (after s (wakeLoad s)) := by simp [htimers, hign]
    have hload : after (wokenTimers w s) (wakeLoad (wokenTimers w s)) = after s (wakeLoad s) := by rw [htimers]; rfl
    rw [hkept (.inr (hends.trans (by rw [hload]))), hends]

/-! ### The panel and the pauses at a wake (R118, R123, R136) -/

theorem wokenLevels_scanout (s : State) : (wokenLevels w s).scanout = (panelTest (wokenTimers w s)).scanout := by
  simp [wokenLevels]

theorem wokenBlocks_panel (s : State) :
    (s.scanout.panel = .off → s.scanout.wish = true → (wokenBlocks w s).scanout.panel = .starting ∧
      (wokenBlocks w s).scanout.stage = some .rails ∧ (wokenBlocks w s).scanout.stageEnds = s.power.dockTime + ms 20) ∧
    (s.scanout.panel = .off ∧ s.scanout.wish = false ∨ s.scanout.panel = .stopping →
      (wokenBlocks w s).scanout.panel = s.scanout.panel ∧ (wokenBlocks w s).scanout.stage = s.scanout.stage ∧
      (wokenBlocks w s).scanout.stageEnds = s.scanout.stageEnds) := by
  obtain ⟨-, hscanout, hdock, hstandby, -⟩ := wokenTimers_keeps w s
  obtain ⟨hpanel, hstage, hends⟩ := resumePictures_panel (wokenLevels w s)
  have hwanted : wanted (wokenTimers w s) = s.scanout.wish := by simp [wanted, hstandby, hscanout]
  rw [wokenBlocks_eq, hpanel, hstage, hends, wokenLevels_scanout]
  refine ⟨fun hoff hwish => ?_, fun hrest => ?_⟩
  · rw [← hdock]
    exact panelTest_start (by rwa [hscanout]) (hwanted.trans hwish)
  · rw [panelTest_rest (by rwa [hscanout, hwanted]), hscanout]
    exact ⟨rfl, rfl, rfl⟩

/-- With no PRESENT waiting the picture path is found as it was. -/
theorem wokenLevels_keeps (hw : s.scanout.waiting = none) :
    (wokenLevels w s).picture = s.picture ∧
    (wokenLevels w s).exch = { s.exch with attention := (wokenLevels w s).exch.attention } ∧
    (wokenLevels w s).link = { s.link with messages := (wokenLevels w s).link.messages } ∧
    (wokenLevels w s).frames = s.frames ∧ (wokenLevels w s).scanout.frame = s.scanout.frame ∧
    (wokenLevels w s).power.dockTime = s.power.dockTime ∧ (wokenLevels w s).scanout.carry = s.scanout.carry ∧
    (pauses (wokenLevels w s) = (s.power.band == .crank)) ∧
    (s.mem.wf = true → ∀ a, 0x1500 ≤ a → (wokenLevels w s).mem.read a = s.mem.read a) := by
  obtain ⟨-, hscanout, hdock, hstandby, hband, -⟩ := wokenTimers_keeps w s
  obtain ⟨hpicture, hexch, hlink, hcarry⟩ := panelTest_unwaited (s := wokenTimers w s) (by rwa [hscanout])
  obtain ⟨mem, journal, attention, messages, hring, htimers⟩ := wokenTimers_eq w s
  have hexch' : (wokenLevels w s).exch = (wokenTimers w s).exch := by simp [wokenLevels, hexch]
  have hlink' : (wokenLevels w s).link = (wokenTimers w s).link := by simp [wokenLevels, hlink]
  have hmem : (wokenLevels w s).mem = (wokenTimers w s).mem := by simp [wokenLevels]
  rw [hexch', hlink', hmem, wokenLevels_scanout, hcarry, pauses]
  refine ⟨?_, by rw [htimers], by rw [htimers], ?_, ?_, ?_, by rw [hscanout], ?_, fun hwf a ha => ?_⟩
  · have hfound : (wokenTimers w s).picture = s.picture := by rw [htimers]
    simp [wokenLevels, hpicture, hfound]
  · have hfound : (wokenTimers w s).frames = s.frames := by rw [htimers]
    simp [wokenLevels, hfound]
  · simp [hscanout]
  · simp [wokenLevels, hdock]
  · simp [wokenLevels, hstandby, hband]
  · rw [htimers]
    exact (hring hwf).2 a (.inr ha)

theorem resumePicture_running (h : s.picture.work ≠ .paused) : resumePicture s = s := by simp [resumePicture, h]

theorem resumePicture_resumes (h : s.picture.work = .paused) (hpauses : pauses s = false) :
    resumePicture s = pictureBoundary s := by simp [resumePicture, h, hpauses]

/-- Outside CRANK a wake ends the pauses (R118, R136). -/
theorem wokenBlocks_pauseEnds (hw : s.scanout.waiting = none) (hband : s.power.band ≠ .crank) :
    PauseEnds s (wokenBlocks w s) := by
  obtain ⟨hpicture, hexch, hlink, hframes, hframe, hdock, hcarry, hpauses, hmem⟩ := wokenLevels_keeps w hw
  have hgoes : pauses (wokenLevels w s) = false := by rw [hpauses, beq_eq_false_iff_ne]; exact hband
  rw [wokenBlocks_eq]
  refine ⟨fun hnone => ?_, fun c hc => resumePictures_carry (hcarry.trans hc) hgoes⟩
  rw [resumePictures_noCarry (hcarry.trans hnone)]
  refine ⟨fun hpaused => ⟨wokenLevels w s, hpicture, hexch, hlink, hframes, hframe, hdock, hgoes, hmem, ?_⟩,
    fun hrunning => ?_⟩
  · rw [resumePicture_resumes (hpicture ▸ hpaused) hgoes]
    exact ⟨rfl, rfl⟩
  · rw [resumePicture_running (hpicture ▸ hrunning)]
    exact ⟨hpicture, hcarry.trans hnone⟩

/-- In CRANK the pauses go on (R118, R136). -/
theorem wokenBlocks_crank (hw : s.scanout.waiting = none) (hband : s.power.band = .crank) :
    (wokenBlocks w s).picture = s.picture ∧ (wokenBlocks w s).scanout.carry = s.scanout.carry := by
  obtain ⟨hpicture, -, -, -, -, -, hcarry, hpauses, -⟩ := wokenLevels_keeps w hw
  rw [wokenBlocks_eq, resumePictures_paused (by simp [hpauses, hband])]
  exact ⟨hpicture, hcarry⟩

theorem PauseEnds.of_eq {u : State} (h : PauseEnds s t) (hpicture : u.picture = t.picture) (hexch : u.exch = t.exch)
    (hscanout : u.scanout = t.scanout) : PauseEnds s u := by
  simpa only [PauseEnds, hpicture, hexch, hscanout] using h

/-- The scanner's part of a wake leaves the other blocks (R46). -/
theorem wake_blocks (s : State) : (wake w s).power = (wokenBlocks w s).power ∧
    (wake w s).light = (wokenBlocks w s).light ∧ (wake w s).scanout = (wokenBlocks w s).scanout ∧
    (wake w s).picture = (wokenBlocks w s).picture ∧ (wake w s).exch = (wokenBlocks w s).exch ∧
    (wake w s).lines = (wokenBlocks w s).lines := by
  rw [wake_eq]
  simp

/-! ### The record of a wake (R174) -/

theorem wake_writes (s : State) : Writes [⟨.power, w.position,
    (match w.position with | some p => usageOf s p | none => 0), snapshot s, 0, w.detail⟩] s (wake w s) := by
  have hrecord : wakeRecord w { s with power.standby := false } = handRecord ⟨.power, w.position,
      (match w.position with | some p => usageOf s p | none => 0), snapshot s, 0, w.detail⟩
      { s with power.standby := false } := by
    unfold wakeRecord
    cases w <;> rfl
  have htimers : (wake w s).mem = (wokenTimers w s).mem ∧ (wake w s).journal = (wokenTimers w s).journal := by
    simp [wake_eq, wokenBlocks_eq, wokenLevels]
  have hloaded : (wokenTimers w s).mem = (wakeRecord w { s with power.standby := false }).mem ∧
      (wokenTimers w s).journal = (wakeRecord w { s with power.standby := false }).journal := by
    unfold wokenTimers
    dsimp only
    split <;> exact ⟨rfl, rfl⟩
  have hwrites := handRecord_writes ⟨.power, w.position,
    (match w.position with | some p => usageOf s p | none => 0), snapshot s, 0, w.detail⟩ { s with power.standby := false }
  rw [← hrecord] at hwrites
  exact Writes.of_eq (s := s) hwrites (htimers.1.trans hloaded.1) (htimers.2.trans hloaded.2)

theorem exec_lingerExpiry (h : Running s) : exec .lingerExpiry s = .next (look (lingerExpiry s)) :=
  next_whenRunning h fun s => look (lingerExpiry s)

/-- Settles O57: the expiry is the entry into STANDBY, and the wake in its stages. -/
theorem standbyIsEnteredAndLeft : Obligations.StandbyIsEnteredAndLeft := by
  refine ⟨fun s h hrun => ⟨fun hdue => ⟨enterStandby s, ?_, enterStandby_entered h, enterStandby_writes s⟩, fun hearly => ?_⟩,
    fun s w => ⟨fun hactive => ?_, fun hw hoff => ?_, fun hw hoff => ?_, fun hs hdock hlatch => ?_⟩⟩
  · rw [exec_lingerExpiry hrun, lingerExpiry, if_pos hdue]
  · rw [exec_lingerExpiry hrun, lingerExpiry, if_neg (by simp [hearly])]
  · simp [wakeSource, hactive]
  · simp [wakeSource, wakeEnabled, hw, hoff]
  · simp [wakeSource, wakeEnabled, hw, hoff]
  · have henabled : wakeEnabled w s = true := by
      cases w with
      | dockArrival => exact hdock rfl
      | latch => exact hlatch rfl
      | ignitionOn | key _ | host => rfl
    have hwake : wakeSource w s = wake w s := by simp [wakeSource, hs, henabled]
    obtain ⟨hpower, hlight, hscanout, hpicture, hexch, hlines⟩ := wake_blocks w s
    obtain ⟨hstopped, hloaded⟩ := wokenBlocks_linger w s
    obtain ⟨hstarts, hrests⟩ := wokenBlocks_panel w s
    have hkept := wokenBlocks_timersKept w s
    have hfound := (wokenTimers_keeps w s).1
    have hlevels : (wokenBlocks w s).light = (wokenLevels w s).light := resumePictures_light (wokenLevels_idle w s).1
    have htarget : targetLevel (wake w s) = targetLevel (wokenBlocks w s) :=
      targetLevel_congr hlight (by rw [hscanout]) hlines (by rw [hpower]) (by rw [hpower])
    rw [hwake]
    refine ⟨?_, wake_fast w s, wake_idlePasses w s, wake_fromFast w, fun hm => ⟨fun hne hgrid => ?_, fun hnot => ?_⟩, by simp,
      by simp, by simp, by simp, fun hign hnone => ?_, fun hign => ?_, fun hoff => ?_, fun hon => ?_, ?_, ?_, fun hoff hwish => ?_,
      fun hrest => ?_, fun hw hband => ?_, fun hw hband => ?_, ?_⟩
    · rw [hpower]
      exact (wokenBlocks_keeps w s).2.2.2
    · rw [wake_fastDue, (wake_fromSlow w hm).2, if_pos ((slowPassDue_iff s).mpr ⟨hm, hne, hgrid⟩)]
      exact hne.symm
    · have hearly : slowPassDue s = false := by
        rw [← Bool.not_eq_true, slowPassDue_iff]
        rintro ⟨-, hne, hgrid⟩
        rcases hnot with heq | hoff
        · exact hne heq
        · exact hoff hgrid
      have hpass : (wake w s).scanner.passAt = s.power.dockTime := by rw [(wake_fromSlow w hm).2, hearly, if_neg (by simp)]
      exact ⟨hpass, by rw [← Bool.not_eq_true, wake_fastDue, not_not]; exact hpass⟩
    · rw [hpower, hstopped hign hnone]
    · rw [hpower, hloaded hign]
      rfl
    · rw [hlight, ← hfound]
      exact hkept.idleOff (by rwa [hfound])
    · rw [hlight, hlevels]
      exact (wokenLevels_idle w s).2 hon
    · rw [htarget, hlight, wokenBlocks_target]
    · rw [hlight, hkept.settings, hfound]
    · rw [hscanout]
      exact hstarts hoff hwish
    · rw [hscanout]
      exact hrests hrest
    · exact (wokenBlocks_pauseEnds w hw hband).of_eq hpicture hexch hscanout
    · rw [hpicture, hscanout]
      exact wokenBlocks_crank w hw hband
    · have hwrites := wake_writes w s
      cases w <;> exact hwrites

end

end Sys2Proof.Machine
end

section
/-! PROOFS. What the Held Set rests on, the state and down time of each key, the Held Set and the repeat subject, moves in the
Key Composer's own decisions alone (R48 to R50). -/

namespace Sys2Proof.Machine

section
variable {s t : State}

/-! ### The integrators and samples left aside -/

/-- The state and down time of every key, the Held Set and the repeat subject. -/
def Composer.outline (c : Composer) : List (KeyState × Nat) × List (Fin 128) × Option (Fin 128) :=
  (c.keys.map fun k => (k.state, k.downTime), c.held, c.subject)

theorem mapFrom_map {α β γ : Type} {f : Nat → α → β} {g : β → γ} {g' : α → γ} (h : ∀ i a, g (f i a) = g' a) (n : Nat)
    (l : List α) : (mapFrom f n l).map g = l.map g' := by
  refine List.ext_getElem? fun i => ?_
  rw [List.getElem?_map, List.getElem?_map, mapFrom_getElem?, Option.map_map]
  exact congrArg (Option.map · _) (funext (h (n + i)))

/-- A pass that writes integrators or samples alone. -/
theorem outline_mapFrom {f : Nat → KeyRec → KeyRec} (h : ∀ i k, ((f i k).state, (f i k).downTime) = (k.state, k.downTime))
    (c : Composer) : Composer.outline { c with keys := mapFrom f 0 c.keys } = c.outline := by
  simp only [Composer.outline]
  rw [mapFrom_map (g := fun k : KeyRec => (k.state, k.downTime)) h]

theorem outline_map {f : KeyRec → KeyRec} (h : ∀ k, ((f k).state, (f k).downTime) = (k.state, k.downTime)) (c : Composer) :
    Composer.outline { c with keys := c.keys.map f } = c.outline := by
  simp only [Composer.outline, List.map_map]
  exact congrArg (fun l => (l, c.held, c.subject)) (List.map_congr_left fun k _ => h k)

/-- A key's state and down time are read from the outline. -/
theorem key_outline (s : State) (p : Fin 128) :
    ((key s p).state, (key s p).downTime) = s.composer.outline.1.getD p.val (.up, 0) := by
  simp only [Composer.outline, key, keyOf, List.getD_eq_getElem?_getD, List.getElem?_map]
  cases s.composer.keys[p.val]? <;> rfl

theorem key_of_outline (h : t.composer.outline = s.composer.outline) (p : Fin 128) :
    (key t p).state = (key s p).state ∧ (key t p).downTime = (key s p).downTime := by
  have hkey : ((key t p).state, (key t p).downTime) = ((key s p).state, (key s p).downTime) := by
    rw [key_outline, key_outline, h]
  exact Prod.mk.inj hkey

/-! ### The scanner's passes and the profile -/

theorem switchToFast_outline (s : State) : (switchToFast s).composer.outline = s.composer.outline := by
  rw [switchToFast_composer, outline_map]
  exact fun _ => rfl

theorem storeSamples_outline (closed : List Bool) (s : State) : (storeSamples closed s).composer.outline = s.composer.outline := by
  rw [storeSamples_composer, outline_mapFrom]
  exact fun _ _ => rfl

theorem endWindow_outline (s : State) : (endWindow s).composer.outline = s.composer.outline := by
  rw [endWindow_composer, outline_map]
  exact fun _ => rfl

theorem enterSlow_outline (s : State) : (enterSlow s).composer.outline = s.composer.outline := by
  rw [enterSlow_composer, outline_map]
  exact fun _ => rfl

theorem scannerSwap_outline (old : Profile) (s : State) :
    (scannerSwap old s).composer.outline = s.composer.outline := by
  rw [scannerSwap_composer, outline_mapFrom]
  exact fun _ _ => rfl

@[simp] theorem countWindow_outline (s : State) : (countWindow s).composer.outline = s.composer.outline := by
  rw [countWindow_eq]
  split
  · exact endWindow_outline (windowCounted s)
  · rfl

@[simp] theorem countIdle_outline (s : State) : (countIdle s).composer.outline = s.composer.outline := by
  cases hs : s.power.standby with
  | false => rw [countIdle_active hs]
  | true =>
    rw [countIdle_standby hs]
    split
    · exact enterSlow_outline (idleCounted s)
    · rfl

/-! ### Wakes, takes and the tablet's writes -/

@[simp] theorem scannerWake_outline (s : State) : (scannerWake s).composer.outline = s.composer.outline := by
  unfold scannerWake
  split
  · exact switchToFast_outline s
  · rfl

@[simp] theorem wake_outline (w : WakeSource) (s : State) : (wake w s).composer.outline = s.composer.outline := by
  simp [wake_eq]

@[simp] theorem wakeSource_outline (w : WakeSource) (s : State) :
    (wakeSource w s).composer.outline = s.composer.outline := by
  unfold wakeSource
  split
  · exact wake_outline w s
  · rfl

@[simp] theorem takeSettings_outline (j : Job) (s : State) : (takeSettings j s).composer.outline = s.composer.outline := by
  have hwish : ∀ wish, (applyWish wish s).composer.outline = s.composer.outline := fun wish => by
    unfold applyWish
    dsimp only
    split <;> simp
  unfold takeSettings takePanel
  dsimp only
  (repeat' split) <;> simp [hwish]

theorem oneTake_outline (h : oneTake s = some t) : t.composer.outline = s.composer.outline := by
  obtain ⟨-, e, -, rfl⟩ | ⟨-, -, e, -, rfl⟩ | ⟨-, e, -, rfl⟩ := oneTake_cases h <;> simp [takeBySettings]

@[simp] theorem look_outline (s : State) : (look s).composer.outline = s.composer.outline := by
  unfold look
  generalize s.exch.queue.length = n
  induction n generalizing s with
  | zero => rfl
  | succ n ih =>
    unfold lookFor
    split
    · rfl
    · next t ht => rw [ih, oneTake_outline ht]

@[simp] theorem postWrite_outline (k : Fin 16) (s : State) : (postWrite k s).composer.outline = s.composer.outline := by
  unfold postWrite
  split <;> simp [postSlot]

@[simp] theorem cancelWrite_outline (k : Fin 16) (s : State) : (cancelWrite k s).composer.outline = s.composer.outline := by
  unfold cancelWrite
  (repeat' split) <;> simp

@[simp] theorem slotStateWrite_outline (k : Fin 16) (v : Word) (s : State) :
    (slotStateWrite k v s).composer.outline = s.composer.outline := by
  unfold slotStateWrite
  (repeat' split) <;> simp

@[simp] theorem exchangeWrite_outline (w : BitVec 14) (be : BitVec 4) (v : Word) (s : State) :
    (exchangeWrite w be v s).composer.outline = s.composer.outline := by
  unfold exchangeWrite guardedWrite
  (repeat' split) <;> simp

/-! ### Lines and link -/

@[simp] theorem lineChange_outline (line : Line) (level : Bool) (s : State) :
    (lineChange line level s).composer.outline = s.composer.outline := by
  cases line with
  | ign => cases level <;> simp [lineChange, ignChange, ignitionOn]
  | park => simp [lineChange, parkChange]
  | presence => cases level <;> simp [lineChange, presenceChange]
  | latch => cases level <;> simp [lineChange, latchChange]

@[simp] theorem lineExpiry_outline (line : Line) (s : State) : (lineExpiry line s).composer.outline = s.composer.outline := by
  unfold lineExpiry
  dsimp only
  (repeat' split) <;> simp

@[simp] theorem failFetches_outline (n : Nat) (s : State) : (failFetches n s).composer.outline = s.composer.outline := by
  induction n generalizing s with
  | zero => rfl
  | succ n ih =>
    unfold failFetches takeOrder
    dsimp only
    (repeat' split) <;> simp [ih]

@[simp] theorem linkDown_outline (s : State) : (linkDown s).composer.outline = s.composer.outline := by
  unfold linkDown
  split
  · simp [linkLost]
  · rfl

end

end Sys2Proof.Machine
end

section
/-! PROOFS. Every step keeps the Held Set equal to the DOWN positions, each once, at most 10 (R50, R60, R66). -/

namespace Sys2Proof.Machine

section
variable {s t : State}

/-! ### What the invariant depends on -/

/-- The invariant depends on the state and down time of each key, the Held Set and the repeat subject. -/
theorem HeldInv.congr (h : HeldInv s) (houtline : t.composer.outline = s.composer.outline) : HeldInv t := by
  have hkey := key_of_outline houtline
  obtain ⟨hkeys, hrest⟩ := Prod.mk.inj houtline
  obtain ⟨hheld, hsubject⟩ := Prod.mk.inj hrest
  have hlength : t.composer.keys.length = s.composer.keys.length := by simpa using congrArg List.length hkeys
  refine ⟨hlength.trans h.table, hheld ▸ h.once, hheld ▸ h.most, fun p => ?_, fun p => ?_, fun p hp => ?_⟩
  · rw [hheld, (hkey p).1]
    exact h.down p
  · rw [(hkey p).1, (hkey p).2]
    exact h.time p
  · rw [(hkey p).1]
    exact h.subject p (hsubject ▸ hp)

theorem HeldInv.of_composer (h : HeldInv s) (hcomposer : t.composer = s.composer) : HeldInv t :=
  h.congr (by rw [hcomposer])

/-! ### A key that takes a new record -/

/-- A new record of one key that does not change whether it is DOWN (R49). -/
theorem setKey_heldInv {p : Fin 128} {k : KeyRec} (hdown : k.state = .down ↔ (key s p).state = .down)
    (htime : k.state ≠ .down → k.downTime = 0) (h : HeldInv s) : HeldInv (setKey p k s) := by
  have hkey := fun q => key_setKey p q k h.table
  have hstate : ∀ q, (key (setKey p k s) q).state = .down ↔ (key s q).state = .down := fun q => by
    rw [hkey]
    split
    · next hq => rw [hq, hdown]
    · rfl
  refine ⟨(setKey_length p k s).trans h.table, h.once, h.most, fun q => (h.down q).trans (hstate q).symm, fun q hq => ?_,
    fun q hq => (hstate q).mpr (h.subject q hq)⟩
  rw [hkey] at hq ⊢
  split at hq
  · next hqp => rw [if_pos hqp]; exact htime hq
  · next hqp => rw [if_neg hqp]; exact h.time q hq

/-- A key becomes DOWN at the end of a Held Set with room, the repeat subject being another DOWN key, itself or none
(R50, R55, R65). -/
theorem HeldInv.join {p : Fin 128} {k : KeyRec} (h : HeldInv s) (hup : (key s p).state ≠ .down) (hk : k.state = .down)
    (hroom : s.composer.held.length < 10) (hkeys : t.composer.keys = (setKey p k s).composer.keys)
    (hheld : t.composer.held = s.composer.held ++ [p])
    (hsubject : ∀ q, t.composer.subject = some q → q = p ∨ s.composer.subject = some q) : HeldInv t := by
  have hkey : ∀ q, key t q = if q = p then k else key s q := fun q =>
    (key_congr hkeys q).trans (key_setKey p q k h.table)
  have hnew : p ∉ s.composer.held := fun hp => hup ((h.down p).mp hp)
  refine ⟨by rw [hkeys, setKey_length, h.table], ?_, by simpa [hheld] using hroom, fun q => ?_, fun q hq => ?_, fun q hq => ?_⟩
  · rw [hheld]
    exact h.once.append (List.nodup_singleton p) (by simpa using hnew)
  · rw [hheld, hkey, List.mem_append, List.mem_singleton, h.down q]
    by_cases hqp : q = p <;> simp [hqp, hk]
  · rw [hkey] at hq ⊢
    split at hq
    · exact absurd hk hq
    · next hqp => rw [if_neg hqp]; exact h.time q hq
  · rw [hkey]
    split
    · exact hk
    · next hqp => exact h.subject q ((hsubject q hq).resolve_left hqp)

@[simp] theorem repeatOnLeave_held (p : Fin 128) (s : State) : (repeatOnLeave p s).composer.held = s.composer.held := by
  unfold repeatOnLeave
  split <;> rfl

theorem repeatOnLeave_subject (p : Fin 128) (s : State) :
    (repeatOnLeave p s).composer.subject = if s.composer.subject = some p then none else s.composer.subject := by
  unfold repeatOnLeave
  split <;> simp [*]

/-- A key with its new record, out of the Held Set and with its own repeat stopped (R50, R65). -/
def leftDown (p : Fin 128) (k : KeyRec) (s : State) : State := repeatOnLeave p (leaveHeld p (setKey p k s))

@[simp] theorem leftDown_keys (p : Fin 128) (k : KeyRec) (s : State) :
    (leftDown p k s).composer.keys = s.composer.keys.set p.val k := by simp [leftDown]

@[simp] theorem leftDown_held (p : Fin 128) (k : KeyRec) (s : State) :
    (leftDown p k s).composer.held = s.composer.held.filter fun q => q != p := by simp [leftDown]

@[simp] theorem leftDown_subject (p : Fin 128) (k : KeyRec) (s : State) : (leftDown p k s).composer.subject =
    if s.composer.subject = some p then none else s.composer.subject := repeatOnLeave_subject p _

/-- A key leaves DOWN and with it the Held Set, and its own repeat stops (R57, R62, R65). -/
theorem leftDown_heldInv {p : Fin 128} {k : KeyRec} (hk : k.state ≠ .down) (htime : k.downTime = 0) (h : HeldInv s) :
    HeldInv (leftDown p k s) := by
  have hkey : ∀ q, key (leftDown p k s) q = if q = p then k else key s q := fun q =>
    (key_congr (leftDown_keys p k s) q).trans (key_setKey p q k h.table)
  refine ⟨by simpa using h.table, by simpa using h.once.filter _, ?_, fun q => ?_, fun q hq => ?_, fun q hq => ?_⟩
  · rw [leftDown_held]
    exact (List.length_filter_le ..).trans h.most
  · rw [leftDown_held, hkey, List.mem_filter, h.down q]
    by_cases hqp : q = p <;> simp [hqp, hk]
  · rw [hkey] at hq ⊢
    split at hq
    · next hqp => rw [if_pos hqp]; exact htime
    · next hqp => rw [if_neg hqp]; exact h.time q hq
  · rw [leftDown_subject] at hq
    split at hq
    · cases hq
    · next hne =>
      have hqp : q ≠ p := by
        rintro rfl
        exact hne hq
      rw [hkey, if_neg hqp]
      exact h.subject q hq

/-! ### Press and release decisions (R51 to R58) -/

theorem mute_heldInv {p : Fin 128} (hup : (key s p).state = .up) (h : HeldInv s) : HeldInv (mute p s) :=
  setKey_heldInv (by simp [hup]) (fun _ => h.time p (by simp [hup])) h

theorem repeatOnPress_subject (p : Fin 128) (s : State) (q : Fin 128) (hq : (repeatOnPress p s).composer.subject = some q) :
    q = p ∨ s.composer.subject = some q := by
  unfold repeatOnPress at hq
  split at hq
  · exact .inl (by simpa using hq.symm)
  · cases hq
  · cases hq
  · exact .inr hq
  · exact .inr hq

@[simp] theorem repeatOnPress_held (p : Fin 128) (s : State) : (repeatOnPress p s).composer.held = s.composer.held := by
  unfold repeatOnPress
  split <;> rfl

/-- A pressed key DOWN and in the Held Set, before the repeat context and the record (R55). -/
def joined (p : Fin 128) (s : State) : State :=
  { s with composer := { s.composer with
    keys := s.composer.keys.set p.val { key s p with state := .down, downTime := 0, holdSeen := false },
    held := s.composer.held ++ [p] } }

theorem pressOrdinary_eq (p : Fin 128) (s : State) :
    pressOrdinary p s = keyRecord .press p 0 0 (repeatOnPress p (joined p s)) := rfl

theorem pressOrdinary_heldInv {p : Fin 128} (hup : (key s p).state = .up) (hroom : s.composer.held.length < 10)
    (h : HeldInv s) : HeldInv (pressOrdinary p s) := by
  have hcomposer : (pressOrdinary p s).composer = (repeatOnPress p (joined p s)).composer := by simp [pressOrdinary_eq]
  refine h.join (p := p) (k := { key s p with state := .down, downTime := 0, holdSeen := false }) (by simp [hup]) rfl hroom
    (by rw [hcomposer, repeatOnPress_keys]; rfl) (by rw [hcomposer, repeatOnPress_held]; rfl) fun q hq => ?_
  rw [hcomposer] at hq
  exact repeatOnPress_subject p (joined p s) q hq

theorem pressAwake_heldInv {p : Fin 128} (hup : (key s p).state = .up) (h : HeldInv s) : HeldInv (pressAwake p s) := by
  unfold pressAwake
  (repeat' split)
  · exact (mute_heldInv hup h).of_composer (by simp [pressSuppressed])
  · exact (mute_heldInv hup h).of_composer (by simp [pressRollover])
  · next hroom => exact pressOrdinary_heldInv hup (Nat.lt_of_not_le hroom) h

theorem pressCases_heldInv {p : Fin 128} (hup : (key s p).state = .up) (h : HeldInv s) : HeldInv (pressCases p s) := by
  have hwoken : HeldInv (wakeSource (.key p) s) := h.congr (by simp)
  have hstill : (key (wakeSource (.key p) s) p).state = .up :=
    (key_of_outline (wakeSource_outline (.key p) s) p).1.trans hup
  unfold pressCases
  dsimp only
  (repeat' split)
  · exact mute_heldInv hstill hwoken
  · exact pressAwake_heldInv hstill hwoken
  · exact pressAwake_heldInv hup h

@[simp] theorem pressActivity_composer (found s : State) : (pressActivity found s).composer = s.composer := by
  unfold pressActivity
  dsimp only
  (repeat' split) <;> simp [takeOrder]

theorem press_heldInv (p : Fin 128) (h : HeldInv s) : HeldInv (press p s) := by
  unfold press
  split
  · next hup => exact (pressCases_heldInv hup h).of_composer (by simp)
  · exact h

theorem release_heldInv (p : Fin 128) (h : HeldInv s) : HeldInv (release p s) := by
  have hnot : (key s p).state ≠ .down → HeldInv (setKey p { key s p with state := .up } s) := fun hs =>
    setKey_heldInv (by simp [hs]) (fun _ => h.time p hs) h
  have hleave : HeldInv (leftDown p { key s p with state := .up, downTime := 0 } s) :=
    leftDown_heldInv (by simp) rfl h
  unfold release
  split
  · exact h
  · exact hleave.of_composer (by simp [leftDown])
  · next hs => exact hnot (by simp [hs])
  · next hs => exact hnot (by simp [hs])

/-! ### Down time and repeat (R60 to R66) -/

theorem holdTest_heldInv (p : Fin 128) (h : HeldInv s) : HeldInv (holdTest p s) := by
  have hflag : HeldInv (setKey p { key s p with holdSeen := true } s) := setKey_heldInv Iff.rfl (h.time p) h
  unfold holdTest
  dsimp only
  split
  · exact hflag.of_composer (by simp)
  · exact h

theorem stuckTest_heldInv (p : Fin 128) (h : HeldInv s) : HeldInv (stuckTest p s) := by
  have hleave : HeldInv (leftDown p { key s p with state := .stuck, downTime := 0 } s) :=
    leftDown_heldInv (by simp) rfl h
  unfold stuckTest
  dsimp only
  split
  · exact hleave.of_composer (by simp [leftDown])
  · exact h

/-- One key of the advance, which is DOWN when its turn comes (R60). -/
theorem advanceKey_heldInv {p : Fin 128} (hdown : (key s p).state = .down) (h : HeldInv s) : HeldInv (advanceKey p s) := by
  have htime : HeldInv (setKey p { key s p with downTime := min (downLimit s) ((key s p).downTime + 1) } s) :=
    setKey_heldInv Iff.rfl (fun hne => absurd hdown hne) h
  exact stuckTest_heldInv p (holdTest_heldInv p htime)

/-- The tests of one key leave every other key. -/
theorem holdTest_key_other {p q : Fin 128} (hq : q ≠ p) (s : State) : key (holdTest p s) q = key s q := by
  unfold holdTest
  dsimp only
  split
  · exact (key_congr (by simp) q).trans (key_setKey_other { key s p with holdSeen := true } s hq)
  · rfl

theorem stuckTest_key_other {p q : Fin 128} (hq : q ≠ p) (s : State) : key (stuckTest p s) q = key s q := by
  unfold stuckTest
  dsimp only
  split
  · exact (key_congr (by simp) q).trans (key_setKey_other { key s p with state := .stuck, downTime := 0 } s hq)
  · rfl

theorem advanceKey_key_other {p q : Fin 128} (hq : q ≠ p) (s : State) : key (advanceKey p s) q = key s q := by
  rw [advanceKey, stuckTest_key_other hq, holdTest_key_other hq, key_setKey_other _ s hq]

theorem foldl_advanceKey_heldInv {l : List (Fin 128)} (hl : l.Nodup) (hdown : ∀ p ∈ l, (key s p).state = .down)
    (h : HeldInv s) : HeldInv (l.foldl (fun s p => advanceKey p s) s) := by
  induction l generalizing s with
  | nil => exact h
  | cons p l ih =>
    obtain ⟨hp, hl⟩ := List.nodup_cons.mp hl
    refine ih hl (fun q hq => ?_) (advanceKey_heldInv (hdown p (by simp)) h)
    have hqp : q ≠ p := fun e => hp (e ▸ hq)
    rw [advanceKey_key_other hqp]
    exact hdown q (List.mem_cons_of_mem p hq)

/-- The advance takes the keys of the Held Set, each DOWN and each once. -/
theorem advanceDownTimes_heldInv (h : HeldInv s) : HeldInv (advanceDownTimes s) := by
  have hmark : HeldInv { s with composer.downAt := now s } := h.congr rfl
  exact foldl_advanceKey_heldInv h.once (fun p hp => (h.down p).mp hp) hmark

theorem repeatFires_heldInv (h : HeldInv s) : HeldInv (repeatFires s) := by
  refine h.congr ?_
  unfold repeatFires
  dsimp only
  (repeat' split)
  · rfl
  · simp [Composer.outline]
  · rfl

/-! ### The passes and the swap (R28, R42, R72) -/

theorem foldl_heldInv {α : Type} {f : State → α → State} (hf : ∀ s a, HeldInv s → HeldInv (f s a)) (l : List α)
    (h : HeldInv s) : HeldInv (l.foldl f s) := by
  induction l generalizing s with
  | nil => exact h
  | cons a l ih => exact ih (hf s a h)

/-- A swap stops repeat (R72). -/
theorem stopRepeat_heldInv (h : HeldInv s) : HeldInv (stopRepeat s) :=
  ⟨h.table, h.once, h.most, h.down, h.time, fun p hp => by cases hp⟩

theorem quietTest_heldInv (h : HeldInv s) : HeldInv (quietTest s) := by
  have hswap : ∀ st : Staged, HeldInv (scannerSwap s.profile.active { s with profile.active := st.profile }) :=
    fun st => h.congr (scannerSwap_outline s.profile.active { s with profile.active := st.profile })
  unfold quietTest
  (repeat' split)
  · exact h
  · next st _ _ => exact (stopRepeat_heldInv (hswap st)).of_composer (by simp [swapProfile])
  · exact h

theorem fastPass_heldInv (raw : BitVec 128) (h : HeldInv s) : HeldInv (fastPass raw s) := by
  have hbegun : HeldInv (passIntegrated raw s) := h.congr (by
    simp only [passIntegrated, integrated]
    rw [outline_mapFrom]
    exact fun _ _ => rfl)
  have hreleased : HeldInv (passReleased raw s) := foldl_heldInv (fun _ p hs => release_heldInv p hs) _ hbegun
  have hdecided : HeldInv (passDecided raw s) := foldl_heldInv (fun _ p hs => press_heldInv p hs) _ hreleased
  have hstored : HeldInv (fastPassDecide raw s) := by
    rw [fastPassDecide_eq]
    exact hdecided.congr (storeSamples_outline _ _)
  exact quietTest_heldInv (hstored.congr (by simp))

theorem slowBoundary_heldInv (switch : Bool) (h : HeldInv s) : HeldInv (slowBoundary switch s) := by
  have horder : HeldInv (takeOrder s).2 := h.of_composer rfl
  have hfast : ∀ {u}, HeldInv u → HeldInv (switchToFast u) := fun hu => hu.congr (switchToFast_outline _)
  unfold slowBoundary
  dsimp only
  (repeat' split)
  · exact hfast (quietTest_heldInv horder)
  · exact quietTest_heldInv (hfast horder)
  · exact quietTest_heldInv (hfast h)
  · exact quietTest_heldInv h

theorem slowPass_heldInv (raw : BitVec 128) (h : HeldInv s) : HeldInv (slowPass raw s) := by
  have hbegun : HeldInv { s with scanner := { s.scanner with passAt := s.power.dockTime, driven := true } } := h.of_composer rfl
  have hreleased := foldl_heldInv (fun _ p hs => release_heldInv p hs) (stuckOpen (samples raw s) s.composer.keys) hbegun
  have hscanned : HeldInv (slowScanned raw s) := hreleased.congr (storeSamples_outline _ _)
  rw [slowPass_eq]
  exact slowBoundary_heldInv _ hscanned

/-! ### The starts (R71) -/

theorem heldInv_of_start (hcomposer : t.composer.outline = Composer.start.outline) : HeldInv t :=
  heldInv_reset.congr hcomposer

theorem controlWrite_heldInv (v : Word) (h : HeldInv s) : HeldInv (controlWrite v s) := by
  unfold controlWrite
  dsimp only
  split
  · exact heldInv_of_start (by simp [resetFunction, keyPathReset, Composer.outline])
  · exact h.of_composer (by simp)

/-! ### Every step -/

theorem effect_heldInv (c : Instr) (s : State) (h : HeldInv s) : HeldInv (effect c s) := by
  have hlook : ∀ {u : State}, HeldInv u → HeldInv (look u) := fun hu => hu.congr (look_outline _)
  cases c with
  | fastPass levels => exact hlook (fastPass_heldInv _ h)
  | slowPass levels => exact hlook (slowPass_heldInv _ h)
  | downTimeAdvance => exact advanceDownTimes_heldInv h
  | hold p => exact holdTest_heldInv p h
  | stuck p => exact stuckTest_heldInv p h
  | repeatExpiry => exact repeatFires_heldInv h
  | interruptEnableWrite v => exact controlWrite_heldInv v h
  | functionReset v => exact controlWrite_heldInv (v ||| 2) h
  | registerWriteIgnored word be v =>
    simp only [effect, registerWrite]
    split
    · exact controlWrite_heldInv v h
    · exact h
  | supplyDipStart | coldStart _ => exact heldInv_of_start rfl
  | windowEnd => exact h.congr (endWindow_outline s)
  | slowScanEntry => exact h.congr (enterSlow_outline s)
  | clearingEnd =>
    refine hlook ?_
    unfold endClearing
    split
    · exact h.of_composer rfl
    · exact h
  | exchangeMemoryWrite _ _ _ | sessionOpen | sessionClose | post _ | cancel _ | free _ | settingsCompletion
  | attentionAcknowledge _ | journalTakenWrite _ | notifyMarkWrite _ | linkDown | linkReset | msiEnableChange _
  | interruptDisableChange _ | profileWaitExpiry | hostReadCompletion _ _ _ _ _
  | hostReadTimeout _ | rowWriteComplete | carryCopyRowComplete | verticalBlankStart | panelStageExpiry | conversionDue
  | supplyConversionComplete _ | ambientConversionComplete _ | lightTick | idleExpiry | lineEdge _ _
  | qualificationExpiry _ | dockTimeAdvance | lingerExpiry | survivalComparatorTrip | linkUp | busMasteringChange _ =>
    exact h.congr (by simp [effect, startConversion])

/-- Settles O4: the effect of every command keeps the invariant, and commands that wait do not bear on it. -/
theorem stepKeepsHeldSet : Obligations.StepKeepsHeldSet := by
  intro s t h ht
  exact step_preserves (fun _ _ hs => hs.of_composer rfl) effect_heldInv h ht

end

end Sys2Proof.Machine
end

section
/-! PROOFS. A run of records handed to the Journal Writer while they can be written, and the Key Composer's events for one
key: HOLD, STUCK and the repeat expiry (R61, R62, R66, R70, R76). -/

namespace Sys2Proof.Machine

section
variable {s t u : State} {rs rs' : List Rec}

/-! ### Records handed over one after another (R73, R76) -/

theorem putRecords_append (seq : Word) (rs rs' : List Rec) (s : State) :
    putRecords seq (rs ++ rs') s = putRecords (seq + BitVec.ofNat 32 rs.length) rs' (putRecords seq rs s) := by
  induction rs generalizing seq s with
  | nil => simp [putRecords]
  | cons r rs ih =>
    have hnext : seq + BitVec.ofNat 32 (rs.length + 1) = seq + 1 + BitVec.ofNat 32 rs.length := by
      rw [Nat.add_comm, BitVec.ofNat_add, BitVec.add_assoc]
      rfl
    simp only [List.cons_append, List.length_cons, putRecords, ih, hnext]

/-- What is put depends on the memory and Dock Time alone. -/
theorem putRecords_mem_congr (seq : Word) (rs : List Rec) (hmem : t.mem = s.mem) (htime : t.power.dockTime = s.power.dockTime) :
    (putRecords seq rs t).mem = (putRecords seq rs s).mem := by
  induction rs generalizing seq s t with
  | nil => exact hmem
  | cons r rs ih => exact ih (seq + 1) (by simp [hmem, now, htime]) htime

/-- From `s` to `t` nothing that the Journal Writer reads has moved. -/
def JournalKept (s t : State) : Prop := t.mem = s.mem ∧ t.journal = s.journal ∧
  t.exch.sessionOpen = s.exch.sessionOpen ∧ t.power.dockTime = s.power.dockTime

/-- From `s` to `t` the records `rs` are handed over in this order, and written where they can be. -/
structure Recorded (rs : List Rec) (s t : State) : Prop where
  time : t.power.dockTime = s.power.dockTime
  written : Writable rs.length s → t.mem = (putRecords s.journal.head rs s).mem ∧
    t.journal.head = s.journal.head + BitVec.ofNat 32 rs.length ∧ t.journal.taken = s.journal.taken ∧
    t.exch.sessionOpen = true ∧ t.journal.episode = false

theorem Recorded.nil (h : JournalKept s t) : Recorded [] s t := by
  obtain ⟨hmem, hjournal, hopen, htime⟩ := h
  refine ⟨htime, fun ⟨hsession, hepisode, _⟩ => ⟨hmem, ?_, ?_, hopen.trans hsession, ?_⟩⟩
  · simp [hjournal]
  · rw [hjournal]
  · rw [hjournal, hepisode]

/-- Records written move the untaken count on by their number (R76). -/
theorem Recorded.writable {n : Nat} (h : Recorded rs s t) (hs : Writable (rs.length + n) s) : Writable n t := by
  obtain ⟨hsession, hepisode, hroom⟩ := hs
  obtain ⟨-, hhead, htaken, hopen, hnone⟩ := h.written ⟨hsession, hepisode, by omega⟩
  refine ⟨hopen, hnone, ?_⟩
  have huntaken : untaken t = untaken s + rs.length := by
    have hless : (s.journal.head - s.journal.taken).toNat + rs.length ≤ 256 := by
      unfold untaken at hroom
      omega
    have hsub : s.journal.head + BitVec.ofNat 32 rs.length - s.journal.taken =
        s.journal.head - s.journal.taken + BitVec.ofNat 32 rs.length := by bv_omega
    rw [untaken, hhead, htaken, hsub, BitVec.toNat_add, BitVec.toNat_ofNat, untaken]
    omega
  omega

theorem Recorded.trans (h : Recorded rs s t) (h' : Recorded rs' t u) : Recorded (rs ++ rs') s u := by
  refine ⟨h'.time.trans h.time, fun hw => ?_⟩
  rw [List.length_append] at hw ⊢
  obtain ⟨hsession, hepisode, hroom⟩ := hw
  obtain ⟨hmem, hhead, htaken, -, -⟩ := h.written ⟨hsession, hepisode, by omega⟩
  obtain ⟨hmem', hhead', htaken', hopen, hnone⟩ := h'.written (h.writable ⟨hsession, hepisode, hroom⟩)
  have htime : t.power.dockTime = (putRecords s.journal.head rs s).power.dockTime := by
    rw [h.time, putRecords_eq]
  refine ⟨?_, ?_, htaken'.trans htaken, hopen, hnone⟩
  · rw [hmem', putRecords_append, hhead, putRecords_mem_congr _ _ hmem htime]
  · rw [hhead', hhead, BitVec.ofNat_add, BitVec.add_assoc]

theorem Recorded.after (h : JournalKept s t) (h' : Recorded rs t u) : Recorded rs s u := (Recorded.nil h).trans h'

theorem Recorded.before (h : Recorded rs s t) (h' : JournalKept t u) : Recorded rs s u := by
  simpa using h.trans (.nil h')

theorem Recorded.writes (h : Recorded rs s t) : Writes rs s t := by
  intro hwf hwritable
  obtain ⟨hmem, hhead, -, -, -⟩ := h.written hwritable
  have hlength : rs.length ≤ 256 := by
    obtain ⟨-, -, hroom⟩ := hwritable
    omega
  refine ⟨hhead, fun i hi => ?_⟩
  rw [hmem]
  exact recordAt_putRecords s.journal.head rs hwf hlength hi

/-- Of one record, `Writes` says where it stands. -/
theorem Recorded.one {r : Rec} (h : Recorded [r] s t) : s.mem.wf = true → Writable 1 s →
    t.journal.head = s.journal.head + 1 ∧ recordAt t.mem s.journal.head s.power.dockTime r := by
  intro hwf hwritable
  obtain ⟨hhead, hrecord⟩ := h.writes hwf hwritable
  exact ⟨hhead, by simpa using hrecord 0 (by simp)⟩

@[simp] theorem advanceHead_journal (n : Nat) (s : State) : (advanceHead n s).journal.taken = s.journal.taken ∧
    (advanceHead n s).journal.episode = s.journal.episode := by
  unfold advanceHead testMark
  split <;> simp

theorem handRecord_recorded (r : Rec) (s : State) : Recorded [r] s (handRecord r s) := by
  refine ⟨by simp, fun ⟨hopen, hepisode, hroom⟩ => ?_⟩
  rw [handRecord_written r hopen hepisode (by simpa using hroom)]
  simp [putRecords, hopen, hepisode]

theorem keyRecord_recorded (kind : RecordKind) (p : Fin 128) (flags : Byte) (detail : Half) (s : State) :
    Recorded [⟨kind, some p, usageOf s p, snapshot s, flags, detail⟩] s (keyRecord kind p flags detail s) :=
  handRecord_recorded _ s

/-! ### What a record reads of the state (R67, R68) -/

theorem classOf_congr (h : t.profile = s.profile) (p : Fin 128) : classOf t p = classOf s p := by simp only [classOf, h]

theorem usageOf_congr (h : t.profile = s.profile) (p : Fin 128) : usageOf t p = usageOf s p := by simp only [usageOf, h]

theorem snapshot_eq {held : List (Fin 128)} (hheld : t.composer.held = held) (h : t.profile = s.profile) :
    snapshot t = snapshotOf s held := by
  simp only [snapshotOf, snapshot, hheld, classOf, h]

theorem snapshot_congr (hheld : t.composer.held = s.composer.held) (h : t.profile = s.profile) : snapshot t = snapshot s :=
  snapshot_eq hheld h

/-! ### What the events of the Key Composer leave -/

/-- An operation of the key path that leaves every other block. -/
theorem eq_of_keyPath (h : t.pending = s.pending ∧ t.scanner = s.scanner ∧ t.profile = s.profile ∧
    t.picture = s.picture ∧ t.frames = s.frames ∧ t.scanout = s.scanout ∧ t.measure = s.measure ∧ t.light = s.light ∧
    t.lines = s.lines ∧ t.power = s.power ∧ t.freeCount = s.freeCount) :
    t = { s with composer := t.composer, mem := t.mem, journal := t.journal, exch := t.exch, link := t.link } := by
  obtain ⟨hpending, hscanner, hprofile, hpicture, hframes, hscanout, hmeasure, hlight, hlines, hpower, hfree⟩ := h
  rw [← hpending, ← hscanner, ← hprofile, ← hpicture, ← hframes, ← hscanout, ← hmeasure, ← hlight, ← hlines,
    ← hpower, ← hfree]

/-! ### HOLD and STUCK for one key (R61, R62) -/

/-- The test of R61 holds for a key. -/
def Holds (s : State) (p : Fin 128) : Prop := (key s p).state = .down ∧ classOf s p = .hold ∧ (key s p).holdSeen = false ∧
  s.profile.active.holdTime ≤ (key s p).downTime

/-- The test of R62 holds for a key. -/
def Sticks (s : State) (p : Fin 128) : Prop := (key s p).state = .down ∧ s.profile.active.stuckLimit ≠ 0 ∧
  1000 * s.profile.active.stuckLimit ≤ (key s p).downTime

theorem holdTest_holds {p : Fin 128} (h : Holds s p) :
    holdTest p s = keyRecord .hold p 0 0 (setKey p { key s p with holdSeen := true } s) := if_pos h

theorem holdTest_other {p : Fin 128} (h : ¬Holds s p) : holdTest p s = s := if_neg h

theorem stuckTest_sticks {p : Fin 128} (h : Sticks s p) :
    stuckTest p s = keyRecord .release p 1 0 (leftDown p { key s p with state := .stuck, downTime := 0 } s) := by
  rw [Sticks, Nat.mul_comm] at h
  exact if_pos h

theorem stuckTest_other {p : Fin 128} (h : ¬Sticks s p) : stuckTest p s = s := by
  rw [Sticks, Nat.mul_comm] at h
  exact if_neg h

theorem setKey_journalKept (p : Fin 128) (k : KeyRec) (s : State) : JournalKept s (setKey p k s) := ⟨rfl, rfl, rfl, rfl⟩

theorem leftDown_journalKept (p : Fin 128) (k : KeyRec) (s : State) : JournalKept s (leftDown p k s) := by
  simp [JournalKept, leftDown]

@[simp] theorem leftDown_profile (p : Fin 128) (k : KeyRec) (s : State) : (leftDown p k s).profile = s.profile := by
  simp [leftDown]

/-- The HOLD record of a key (R61). -/
theorem holdTest_recorded {p : Fin 128} (h : Holds s p) :
    Recorded [⟨.hold, some p, usageOf s p, snapshot s, 0, 0⟩] s (holdTest p s) := by
  rw [holdTest_holds h]
  have hrecord := keyRecord_recorded .hold p 0 0 (setKey p { key s p with holdSeen := true } s)
  exact hrecord.after (setKey_journalKept p _ s)

/-- A record of a key that leaves the Held Set carries the snapshot without it (R57, R62, R67). -/
theorem leaveRecord_recorded (p : Fin 128) (k : KeyRec) (flags : Byte) (s : State) :
    Recorded [⟨.release, some p, usageOf s p, snapshotOf s (s.composer.held.filter fun q => q != p), flags, 0⟩] s
      (keyRecord .release p flags 0 (leftDown p k s)) := by
  have hrecord := keyRecord_recorded .release p flags 0 (leftDown p k s)
  rw [usageOf_congr (leftDown_profile p k s), snapshot_eq (leftDown_held p k s) (leftDown_profile p k s)] at hrecord
  exact hrecord.after (leftDown_journalKept p k s)

theorem stuckTest_recorded {p : Fin 128} (h : Sticks s p) :
    Recorded [⟨.release, some p, usageOf s p, snapshotOf s (s.composer.held.filter fun q => q != p), 1, 0⟩] s
      (stuckTest p s) := by
  rw [stuckTest_sticks h]
  exact leaveRecord_recorded p _ 1 s

/-- A key that is not UP has a place in the table. -/
theorem key_in_table {p : Fin 128} (h : (key s p).state ≠ .up) : p.val < s.composer.keys.length := by
  by_contra hout
  refine h ?_
  rw [key, keyOf, List.getD_eq_getElem?_getD, List.getElem?_eq_none (Nat.le_of_not_lt hout)]
  rfl

/-- The held count as the tablet reads it (R50, section 1.8.1). -/
theorem readWord_heldCount (s : State) : byteOf (readWord s 0x003C) 3 = BitVec.ofNat 8 s.composer.held.length :=
  (byteOf_pack8 s.light.output s.light.keyLight s.scanner.vib s.composer.held.length).2.2.2

/-- Settles O32: each row is the test of its rule, with one record where the test holds. -/
theorem holdAndStuckAct : Obligations.HoldAndStuckAct := by
  intro s p hrun
  have hhold : exec (.hold p) s = .next (holdTest p s) := next_whenRunning hrun (holdTest p)
  have hstuck : exec (.stuck p) s = .next (stuckTest p s) := next_whenRunning hrun (stuckTest p)
  rw [hhold, hstuck]
  refine ⟨fun h => ⟨_, rfl, eq_of_keyPath (by simp), ?_, (holdTest_recorded h).one⟩, fun h => by rw [holdTest_other h],
    fun h => ⟨_, rfl, eq_of_keyPath (by simp), ?_⟩, fun h => by rw [stuckTest_other h]⟩
  · rw [holdTest_holds h]
    simp
  · have hcomposer : (stuckTest p s).composer = (leftDown p { key s p with state := .stuck, downTime := 0 } s).composer := by
      rw [stuckTest_sticks h]
      simp
    have hkeys : (stuckTest p s).composer.keys = s.composer.keys.set p.val { key s p with state := .stuck, downTime := 0 } := by
      rw [hcomposer, leftDown_keys]
    have hheld : (stuckTest p s).composer.held = s.composer.held.filter fun q => q != p := by rw [hcomposer, leftDown_held]
    have hplace : p.val < s.composer.keys.length := key_in_table (by simp [h.1])
    refine ⟨hkeys, hheld, by rw [hcomposer, leftDown_subject], ?_, by rw [readWord_heldCount, hheld],
      (stuckTest_recorded h).one⟩
    rw [alertFeed_iff, hkeys]
    exact ⟨_, List.mem_set hplace _, rfl⟩

/-! ### The repeat expiry (R66) -/

/-- The count of a repeat that fires (R66). -/
def repeatCounted (s : State) : State :=
  { s with composer := { s.composer with repeatCount := min (s.composer.repeatCount + 1) 65535 } }

theorem repeatFires_due {p : Fin 128} (hp : s.composer.subject = some p) (hdue : dueAt s s.composer.repeatEnds = true) :
    repeatFires s =
      let fired := keyRecord .repeating p 0 (BitVec.ofNat 16 (min (s.composer.repeatCount + 1) 65535)) (repeatCounted s)
      { fired with composer := { fired.composer with repeatEnds := after fired fired.profile.active.repeatPeriod } } := by
  unfold repeatFires
  split
  · next hnone => simp [hp] at hnone
  · next q hq =>
    obtain rfl : p = q := by simpa [hp] using hq
    rw [if_pos hdue]
    rfl

/-- Settles O33: the branches of the expiry. -/
theorem repeatExpiryRepeats : Obligations.RepeatExpiryRepeats := by
  intro s hrun
  have hexec : exec .repeatExpiry s = .next (repeatFires s) := next_whenRunning hrun repeatFires
  rw [hexec]
  refine ⟨fun hnone => by rw [repeatFires, hnone], fun p hp => ⟨fun hearly => ?_, fun hdue => ?_⟩⟩
  · simp [repeatFires, hp, dueAt, now, hearly]
  · have hfires := repeatFires_due hp hdue
    refine ⟨_, rfl, eq_of_keyPath (by simp), ?_, ?_⟩
    · rw [hfires]
      simp [repeatCounted, after, now]
    · have hcounted : JournalKept s (repeatCounted s) := ⟨rfl, rfl, rfl, rfl⟩
      have hrecord := keyRecord_recorded .repeating p 0 (BitVec.ofNat 16 (min (s.composer.repeatCount + 1) 65535))
        (repeatCounted s)
      rw [hfires]
      exact ((hrecord.after hcounted).before ⟨rfl, rfl, rfl, rfl⟩).one

end

end Sys2Proof.Machine
end

section
/-! PROOFS. The down-time advance: what it leaves of each key, of the Held Set and of the repeat context, and the records it
hands over (R60 to R62, R65, R67). -/

namespace Sys2Proof.Machine

section
variable {s t : State} {p : Fin 128}

/-! ### One key in the advance (R60 to R62) -/

/-- The down time of a key after the advance, before the tests (R60). -/
def advancedTime (s : State) (p : Fin 128) : Nat :=
  min (if s.profile.active.stuckLimit = 0 then 120000 else 1000 * s.profile.active.stuckLimit) ((key s p).downTime + 1)

/-- A HOLD-class key has reached the hold time in the advance (R61). -/
def reachesHold (s : State) (p : Fin 128) : Bool :=
  decide (classOf s p = .hold ∧ s.profile.active.holdTime ≤ advancedTime s p)

/-- A key has reached the stuck limit in the advance (R62). -/
def reachesStuck (s : State) (p : Fin 128) : Bool :=
  decide (s.profile.active.stuckLimit ≠ 0 ∧ 1000 * s.profile.active.stuckLimit ≤ advancedTime s p)

/-- A DOWN key after its part of the advance. -/
def advancedKey (s : State) (p : Fin 128) : KeyRec := { key s p with
  state := if reachesStuck s p then .stuck else .down
  downTime := if reachesStuck s p then 0 else advancedTime s p
  holdSeen := (key s p).holdSeen || reachesHold s p }

/-- The Held Set after a key's part of the advance, from the Held Set before it. -/
def advancedHeld (s : State) (p : Fin 128) (held : List (Fin 128)) : List (Fin 128) :=
  if reachesStuck s p then held.filter fun q => q != p else held

/-- The key of the advance with its new down time, before the tests. -/
def timed (p : Fin 128) (s : State) : State := setKey p { key s p with downTime := advancedTime s p } s

theorem advanceKey_eq (p : Fin 128) (s : State) : advanceKey p s = stuckTest p (holdTest p (timed p s)) := by
  simp only [timed, advancedTime, Nat.mul_comm 1000]
  rfl

theorem key_setKey_in (hin : p.val < s.composer.keys.length) (k : KeyRec) : key (setKey p k s) p = k := by
  simp [key, keyOf, setKey, List.getD_eq_getElem?_getD, hin]

/-- After the test of R61 the key alone has moved, by its down time and its flag. -/
theorem holdTest_timed (hdown : (key s p).state = .down) :
    (holdTest p (timed p s)).composer = (setKey p { key s p with
      downTime := advancedTime s p, holdSeen := (key s p).holdSeen || reachesHold s p } s).composer := by
  have hin := key_in_table (p := p) (s := s) (by simp [hdown])
  have hkey : key (timed p s) p = _ := key_setKey_in hin _
  by_cases h : Holds (timed p s) p
  · have hreaches : reachesHold s p = true := by
      obtain ⟨-, hclass, -, htime⟩ := h
      rw [hkey] at htime
      exact decide_eq_true ⟨hclass, htime⟩
    rw [holdTest_holds h, hkey, hreaches, Bool.or_true]
    simp [timed]
  · have hkept : ((key s p).holdSeen || reachesHold s p) = (key s p).holdSeen := by
      cases hseen : (key s p).holdSeen with
      | true => rfl
      | false =>
        rw [Bool.false_or, reachesHold, decide_eq_false_iff_not]
        rintro ⟨hclass, htime⟩
        exact h ⟨by rw [hkey]; exact hdown, hclass, by rw [hkey]; exact hseen, by rw [hkey]; exact htime⟩
    rw [holdTest_other h, hkept]
    rfl

theorem key_holdTest_timed (hdown : (key s p).state = .down) : key (holdTest p (timed p s)) p = { key s p with
    downTime := advancedTime s p, holdSeen := (key s p).holdSeen || reachesHold s p } :=
  (key_congr (congrArg Composer.keys (holdTest_timed hdown)) p).trans (key_setKey_in (key_in_table (by simp [hdown])) _)

@[simp] theorem timed_profile (p : Fin 128) (s : State) : (timed p s).profile = s.profile := rfl

theorem sticks_holdTest_timed (hdown : (key s p).state = .down) :
    Sticks (holdTest p (timed p s)) p ↔ reachesStuck s p = true := by
  simp [Sticks, key_holdTest_timed hdown, hdown, reachesStuck]

theorem leftDown_composer (p : Fin 128) (k : KeyRec) (s : State) : (leftDown p k s).composer = { s.composer with
    keys := s.composer.keys.set p.val k
    held := s.composer.held.filter fun q => q != p
    subject := if s.composer.subject = some p then none else s.composer.subject
    repeatEnds := if s.composer.subject = some p then 0 else s.composer.repeatEnds
    repeatCount := if s.composer.subject = some p then 0 else s.composer.repeatCount } := by
  by_cases h : s.composer.subject = some p <;> simp [leftDown, repeatOnLeave, h]

/-- The advance of one key writes its record, and at the stuck limit it leaves the Held Set (R60 to R62). -/
theorem advanceKey_composer (hdown : (key s p).state = .down) : (advanceKey p s).composer =
    (if reachesStuck s p then leftDown p (advancedKey s p) s else setKey p (advancedKey s p) s).composer := by
  have hsticks := sticks_holdTest_timed hdown
  have htested := holdTest_timed hdown
  have hkey := key_holdTest_timed hdown
  rw [advanceKey_eq]
  cases hreaches : reachesStuck s p with
  | true =>
    rw [stuckTest_sticks (hsticks.mpr hreaches), (keyRecord_keeps ..).2.2.1, leftDown_composer, hkey, htested]
    by_cases hsubject : s.composer.subject = some p <;> simp [leftDown_composer, advancedKey, hreaches, hsubject]
  | false =>
    rw [stuckTest_other (by simp [hsticks, hreaches]), htested]
    simp [advancedKey, hreaches, hdown]

/-! ### The records of one key (R61, R62) -/

/-- The HOLD record of a key in the advance, if any, while `held` is the Held Set. -/
def holdRecords (s : State) (p : Fin 128) (held : List (Fin 128)) : List Rec :=
  if (key s p).holdSeen = false ∧ reachesHold s p = true then [⟨.hold, some p, usageOf s p, snapshotOf s held, 0, 0⟩]
  else []

/-- The RELEASE record of a key that goes STUCK in the advance, if it does. -/
def stuckRecords (s : State) (p : Fin 128) (held : List (Fin 128)) : List Rec :=
  if reachesStuck s p then [⟨.release, some p, usageOf s p, snapshotOf s (advancedHeld s p held), 1, 0⟩] else []

theorem advanceRecords_cons (s : State) (p : Fin 128) (ps held : List (Fin 128)) : advanceRecords s (p :: ps) held =
    (holdRecords s p held ++ stuckRecords s p held) ++ advanceRecords s ps (advancedHeld s p held) := by
  have hholds : ((key s p).holdSeen = false ∧ reachesHold s p = true) ↔
      classOf s p = .hold ∧ (key s p).holdSeen = false ∧ s.profile.active.holdTime ≤ advancedTime s p := by
    rw [reachesHold, decide_eq_true_eq]
    exact and_left_comm
  rw [advanceRecords, List.append_assoc, holdRecords]
  simp only [hholds]
  refine congrArg₂ _ rfl ?_
  cases hreaches : reachesStuck s p with
  | true =>
    have hlimit := of_decide_eq_true hreaches
    refine (if_pos hlimit).trans ?_
    simp [stuckRecords, advancedHeld, hreaches]
  | false =>
    have hlimit := of_decide_eq_false hreaches
    refine (if_neg hlimit).trans ?_
    simp [stuckRecords, advancedHeld, hreaches]

theorem holdTest_timed_recorded (hdown : (key s p).state = .down) :
    Recorded (holdRecords s p s.composer.held) s (holdTest p (timed p s)) := by
  have hkept : JournalKept s (timed p s) := setKey_journalKept p _ s
  have hkey : key (timed p s) p = { key s p with downTime := advancedTime s p } :=
    key_setKey_in (key_in_table (by simp [hdown])) _
  have hholds : Holds (timed p s) p ↔ (key s p).holdSeen = false ∧ reachesHold s p = true := by
    rw [Holds, hkey, reachesHold, decide_eq_true_eq]
    exact (and_iff_right hdown).trans and_left_comm
  by_cases h : Holds (timed p s) p
  · rw [holdRecords, if_pos (hholds.mp h)]
    exact (holdTest_recorded h).after hkept
  · rw [holdRecords, if_neg (fun hr => h (hholds.mpr hr)), holdTest_other h]
    exact .nil hkept

theorem advanceKey_recorded (hdown : (key s p).state = .down) :
    Recorded (holdRecords s p s.composer.held ++ stuckRecords s p s.composer.held) s (advanceKey p s) := by
  have hsticks := sticks_holdTest_timed hdown
  have hheld : (holdTest p (timed p s)).composer.held = s.composer.held := by rw [holdTest_timed hdown]; rfl
  refine (holdTest_timed_recorded hdown).trans ?_
  rw [advanceKey_eq]
  cases hreaches : reachesStuck s p with
  | true =>
    have hrecord := stuckTest_recorded (hsticks.mpr hreaches)
    have hprofile : (holdTest p (timed p s)).profile = s.profile := by simp
    rw [hheld, usageOf_congr hprofile] at hrecord
    simpa [stuckRecords, hreaches, advancedHeld, snapshotOf, snapshot, classOf] using hrecord
  | false =>
    rw [stuckTest_other (by simp [hsticks, hreaches])]
    simpa [stuckRecords, hreaches] using Recorded.nil ⟨rfl, rfl, rfl, rfl⟩

/-! ### The advance of a list of DOWN keys (R60) -/

/-- What the advance takes of a key is its record and the active profile. -/
theorem advanced_congr (hkey : key t p = key s p) (hprofile : t.profile = s.profile) :
    advancedKey t p = advancedKey s p ∧ reachesStuck t p = reachesStuck s p := by
  have htime : advancedTime t p = advancedTime s p := by simp only [advancedTime, hkey, hprofile]
  have hstuck : reachesStuck t p = reachesStuck s p := by simp only [reachesStuck, htime, hprofile]
  have hhold : reachesHold t p = reachesHold s p := by
    simp only [reachesHold, htime, hprofile, classOf_congr hprofile]
  exact ⟨by simp only [advancedKey, hkey, hstuck, hhold, htime], hstuck⟩

theorem snapshotOf_congr (hprofile : t.profile = s.profile) (held : List (Fin 128)) : snapshotOf t held = snapshotOf s held :=
  snapshot_eq rfl hprofile

theorem advanceRecords_congr {l : List (Fin 128)} (hkey : ∀ p ∈ l, key t p = key s p) (hprofile : t.profile = s.profile)
    (held : List (Fin 128)) : advanceRecords t l held = advanceRecords s l held := by
  induction l generalizing held with
  | nil => rfl
  | cons p l ih =>
    have hrest := ih fun q hq => hkey q (List.mem_cons_of_mem p hq)
    simp only [advanceRecords, hrest, hkey p (by simp), hprofile, classOf_congr hprofile, usageOf_congr hprofile,
      snapshotOf_congr hprofile]

/-- From `s` to `t` the keys of `l` have taken their part of the advance. -/
structure Advanced (l : List (Fin 128)) (s t : State) : Prop where
  profile : t.profile = s.profile
  length : t.composer.keys.length = 128
  keys : ∀ q, key t q = if q ∈ l then advancedKey s q else key s q
  held : t.composer.held = s.composer.held.filter fun q => !(decide (q ∈ l) && reachesStuck s q)
  mark : t.composer.downAt = s.composer.downAt
  subject : t.composer.subject = none ∨
    t.composer.subject = s.composer.subject ∧ t.composer.repeatEnds = s.composer.repeatEnds
  stops : ∀ q ∈ l, reachesStuck s q = true → t.composer.subject ≠ some q
  goesOn : ∀ q, s.composer.subject = some q → (q ∉ l ∨ reachesStuck s q = false) → t.composer.subject = some q
  recorded : Recorded (advanceRecords s l s.composer.held) s t

theorem advancedHeld_eq (s : State) (p : Fin 128) (held : List (Fin 128)) :
    advancedHeld s p held = held.filter fun q => !(decide (q ∈ [p]) && reachesStuck s q) := by
  unfold advancedHeld
  split
  · next hreaches =>
    refine List.filter_congr fun q _ => ?_
    by_cases hq : q = p <;> simp [hq, hreaches]
  · next hreaches =>
    refine (List.filter_eq_self.mpr fun q _ => ?_).symm
    by_cases hq : q = p <;> simp [hq, hreaches]

theorem advanceKey_advanced (hlen : s.composer.keys.length = 128) (hdown : (key s p).state = .down) :
    Advanced [p] s (advanceKey p s) := by
  have hcomposer := advanceKey_composer hdown
  have hkeys : (advanceKey p s).composer.keys = (setKey p (advancedKey s p) s).composer.keys := by
    rw [hcomposer]
    split <;> simp
  have hheld : (advanceKey p s).composer.held = advancedHeld s p s.composer.held := by
    rw [hcomposer, advancedHeld]
    split <;> simp
  refine ⟨by simp, by rw [hkeys, setKey_length, hlen], fun q => ?_, by rw [hheld, advancedHeld_eq], ?_, ?_,
    fun q hq hreaches => ?_, fun q hq hstays => ?_, ?_⟩
  · rw [key_congr hkeys, key_setKey p q _ hlen]
    by_cases hq : q = p <;> simp [hq]
  · rw [hcomposer]
    split <;> simp [leftDown_composer]
  · rw [hcomposer]
    split
    · by_cases hsubject : s.composer.subject = some p <;> simp [leftDown_composer, hsubject]
    · exact .inr ⟨rfl, rfl⟩
  · obtain rfl : q = p := by simpa using hq
    rw [hcomposer, if_pos hreaches, leftDown_subject]
    split
    · simp
    · assumption
  · rw [hcomposer]
    split
    · next hreaches =>
      have hqp : q ≠ p := by
        rintro rfl
        simp [hreaches] at hstays
      rw [leftDown_subject, if_neg (by simpa [hq] using hqp), hq]
    · exact hq
  · have hrecords : advanceRecords s [p] s.composer.held =
        holdRecords s p s.composer.held ++ stuckRecords s p s.composer.held := by
      rw [advanceRecords_cons]
      exact List.append_nil _
    rw [hrecords]
    exact advanceKey_recorded hdown

/-- The part of one key, then that of the others: each finds its own record as it was. -/
theorem Advanced.cons {u : State} {l : List (Fin 128)} (hp : p ∉ l) (h : Advanced [p] s u) (h' : Advanced l u t) :
    Advanced (p :: l) s t := by
  have hother : ∀ q, q ≠ p → key u q = key s q := fun q hq => by rw [h.keys, if_neg (by simpa using hq)]
  have hmem : ∀ q ∈ l, key u q = key s q := fun q hq => hother q fun e => hp (e ▸ hq)
  have hsame : ∀ q ∈ l, advancedKey u q = advancedKey s q ∧ reachesStuck u q = reachesStuck s q := fun q hq =>
    advanced_congr (hmem q hq) h.profile
  refine ⟨h'.profile.trans h.profile, h'.length, fun q => ?_, ?_, h'.mark.trans h.mark, ?_, fun q hq hreaches => ?_,
    fun q hq hstays => ?_, ?_⟩
  · rw [h'.keys]
    by_cases hq : q ∈ l
    · rw [if_pos hq, if_pos (List.mem_cons_of_mem p hq), (hsame q hq).1]
    · rw [if_neg hq, h.keys]
      simp [hq]
  · rw [h'.held, h.held, List.filter_filter]
    refine List.filter_congr fun q _ => ?_
    by_cases hq : q ∈ l
    · have hqp : q ≠ p := fun e => hp (e ▸ hq)
      simp [hq, hqp, (hsame q hq).2]
    · simp [hq]
  · rcases h'.subject with hnone | ⟨hsubject, hends⟩
    · exact .inl hnone
    · rw [hsubject, hends]
      exact h.subject
  · rcases List.mem_cons.mp hq with rfl | hq
    · have hstopped := h.stops q (by simp) hreaches
      rcases h'.subject with hnone | ⟨hsubject, -⟩
      · simp [hnone]
      · rwa [hsubject]
    · exact h'.stops q hq ((hsame q hq).2.trans hreaches)
  · refine h'.goesOn q (h.goesOn q hq ?_) ?_
    · exact hstays.imp_left fun hout hin => hout (by simpa using Or.inl hin)
    · by_cases hin : q ∈ l
      · exact .inr ((hsame q hin).2.trans (hstays.resolve_left fun hout => hout (List.mem_cons_of_mem p hin)))
      · exact .inl hin
  · have hheld : u.composer.held = advancedHeld s p s.composer.held := by rw [h.held, advancedHeld_eq]
    have hfirst : advanceRecords s [p] s.composer.held =
        holdRecords s p s.composer.held ++ stuckRecords s p s.composer.held := by
      rw [advanceRecords_cons]
      exact List.append_nil _
    have hrest := h'.recorded
    rw [advanceRecords_congr hmem h.profile, hheld] at hrest
    rw [advanceRecords_cons, ← hfirst]
    exact h.recorded.trans hrest

theorem foldl_advanceKey_advanced {l : List (Fin 128)} (hl : l.Nodup) (hlen : s.composer.keys.length = 128)
    (hdown : ∀ p ∈ l, (key s p).state = .down) : Advanced l s (l.foldl (fun s p => advanceKey p s) s) := by
  induction l generalizing s with
  | nil =>
    exact ⟨rfl, hlen, by simp, by simp, rfl, .inr ⟨rfl, rfl⟩, by simp, fun q hq _ => hq, .nil ⟨rfl, rfl, rfl, rfl⟩⟩
  | cons p l ih =>
    obtain ⟨hp, hl⟩ := List.nodup_cons.mp hl
    have hfirst := advanceKey_advanced hlen (hdown p (by simp))
    refine hfirst.cons hp (ih hl hfirst.length fun q hq => ?_)
    have hqp : q ≠ p := fun e => hp (e ▸ hq)
    rw [advanceKey_key_other hqp]
    exact hdown q (List.mem_cons_of_mem p hq)

/-! ### The advance whole (R60) -/

/-- The state with the mark of an advance in this millisecond (log entry 5). -/
def advanceMarked (s : State) : State := { s with composer.downAt := now s }

theorem advanceDownTimes_advanced (h : HeldInv s) :
    Advanced s.composer.held (advanceMarked s) (advanceDownTimes s) :=
  foldl_advanceKey_advanced h.once h.table fun p hp => (h.down p).mp hp

/-- Settles O31: the Held Set is the list of DOWN keys that the advance takes. -/
theorem downTimeAdvances : Obligations.DownTimeAdvances := by
  intro s h hrun
  refine ⟨fun hdue => ?_, fun hearly => next_notDue (by simp [downDue, now, hearly]) advanceDownTimes⟩
  have hexec : exec .downTimeAdvance s = .next (advanceDownTimes s) :=
    next_ifDue hrun (by simpa [downDue, now] using Ne.symm hdue) advanceDownTimes
  have hall := advanceDownTimes_advanced h
  have hsticks : ∀ p, reachesStuck (advanceMarked s) p = reachesStuck s p := fun _ => rfl
  have hreaches : ∀ p, reachesStuck s p = true ↔ s.profile.active.stuckLimit ≠ 0 ∧
      1000 * s.profile.active.stuckLimit ≤ advancedTime s p := fun p => decide_eq_true_iff
  have hkeys := hall.keys
  refine ⟨_, hexec, eq_of_keyPath (by simp), hall.mark, fun p hp => ?_, fun p hp => ?_, ?_,
    fun p hp => ⟨fun hs => ?_, fun hs => ?_⟩, ?_⟩
  · rw [hkeys, if_neg fun hin => hp ((h.down p).mp hin)]
    rfl
  · have hkey : key (advanceDownTimes s) p = advancedKey s p := by
      rw [hkeys, if_pos ((h.down p).mpr hp)]
      rfl
    rw [hkey]
    refine ⟨fun hs => ?_, fun hs => ?_, ?_, rfl, rfl⟩
    · have hstuck := (hreaches p).mpr hs
      simp [advancedKey, hstuck]
    · have hstuck : reachesStuck s p = false := by rw [← Bool.not_eq_true, hreaches]; exact hs
      simp only [advancedKey, hstuck]
      exact ⟨rfl, rfl⟩
    · rw [advancedKey, Bool.or_eq_true]
      exact or_congr Iff.rfl decide_eq_true_iff
  · rw [hall.held]
    refine List.filter_congr fun p (hp : p ∈ s.composer.held) => ?_
    rw [decide_eq_true hp, Bool.true_and, hsticks, reachesStuck, decide_not]
    rfl
  · have hnot := hall.stops p ((h.down p).mpr (h.subject p hp)) ((hreaches p).mpr hs)
    rcases hall.subject with hnone | ⟨hsubject, -⟩
    · exact hnone
    · exact absurd (hsubject.trans hp) hnot
  · have hstays := hall.goesOn p hp (.inr (by rw [hsticks, ← Bool.not_eq_true, hreaches]; exact hs))
    refine ⟨hstays, ?_⟩
    rcases hall.subject with hnone | ⟨-, hends⟩
    · simp [hnone] at hstays
    · exact hends
  · have hmarked : JournalKept s (advanceMarked s) := ⟨rfl, rfl, rfl, rfl⟩
    have hrecords := advanceRecords_congr (s := s) (t := advanceMarked s) (l := s.composer.held) (fun _ _ => rfl) rfl
    have hrecorded := (hall.recorded.after hmarked).writes
    rwa [hrecords] at hrecorded

end

end Sys2Proof.Machine
end

section
/-! PROOFS. Press and release decisions by the case they take, with their records, the repeat context, and the KEY
activity event that a linger expiry may meet (R49 to R58, R64, R65, R67, R175). -/

namespace Sys2Proof.Machine

section
variable {s t u w : State} {p : Fin 128} {rs : List Rec}

/-! ### Release decisions (R57, R58) -/

theorem release_up (h : (key s p).state = .up) : release p s = s := by simp [release, h]

theorem release_silent (h : (key s p).state = .muted ∨ (key s p).state = .stuck) :
    release p s = setKey p { key s p with state := .up } s := by
  rcases h with h | h <;> simp [release, h]

theorem release_down (h : (key s p).state = .down) :
    release p s = keyRecord .release p 0 0 (leftDown p { key s p with state := .up, downTime := 0 } s) := by
  unfold release
  split
  · next hup => simp [h] at hup
  · rfl
  · next hmuted => simp [h] at hmuted
  · next hstuck => simp [h] at hstuck

/-! ### The cases of a press decision (R51 to R55, R65) -/

theorem pressSuppressed_recorded (p : Fin 128) (s : State) :
    Recorded [⟨.suppressed, some p, usageOf s p, snapshot s, 0, 0⟩] s (pressSuppressed p s) := by
  have hmuted : JournalKept s (mute p s) := setKey_journalKept p _ s
  exact (keyRecord_recorded .suppressed p 0 0 (mute p s)).after hmuted

theorem pressRollover_recorded (p : Fin 128) (s : State) :
    Recorded [⟨.rollover, some p, usageOf s p, snapshot s, 0, 0⟩] s (pressRollover p s) := by
  have hmuted : JournalKept s (mute p s) := setKey_journalKept p _ s
  exact (keyRecord_recorded .rollover p 0 0 (mute p s)).after hmuted

theorem pressOrdinary_recorded (p : Fin 128) (s : State) :
    Recorded [⟨.press, some p, usageOf s p, snapshotOf s (s.composer.held ++ [p]), 0, 0⟩] s (pressOrdinary p s) := by
  have hkept : JournalKept s (repeatOnPress p (joined p s)) := by simp [JournalKept, joined]
  have hprofile : (repeatOnPress p (joined p s)).profile = s.profile := by simp [joined]
  have hheld : (repeatOnPress p (joined p s)).composer.held = s.composer.held ++ [p] := by rw [repeatOnPress_held]; rfl
  have hrecord := keyRecord_recorded .press p 0 0 (repeatOnPress p (joined p s))
  rw [usageOf_congr hprofile, snapshot_eq hheld hprofile] at hrecord
  exact hrecord.after hkept

/-- The composer after the ordinary case is the one that the repeat context of the key's class leaves (R55, R65). -/
theorem pressOrdinary_composer (p : Fin 128) (s : State) : (pressOrdinary p s).composer =
    match classOf s p with
    | .repeating => (startRepeat p (joined p s)).composer
    | .plain | .hold => (stopRepeat (joined p s)).composer
    | .modifier _ | .none => (joined p s).composer := by
  have hclass : classOf (joined p s) p = classOf s p := rfl
  rw [pressOrdinary_eq, (keyRecord_keeps ..).2.2.1, repeatOnPress, hclass]
  cases classOf s p <;> rfl

/-! ### A wake by a key (R52) -/

theorem wake_recorded (p : Fin 128) (s : State) :
    Recorded [⟨.power, some p, usageOf s p, snapshot s, 0, 2⟩] s (wake (.key p) s) := by
  have hactive : JournalKept s { s with power.standby := false } := ⟨rfl, rfl, rfl, rfl⟩
  have hrecord := keyRecord_recorded .power p 0 (WakeSource.key p).detail { s with power.standby := false }
  have hloaded : JournalKept (keyRecord .power p 0 (WakeSource.key p).detail { s with power.standby := false })
      (wokenTimers (.key p) s) := by
    unfold wokenTimers wakeRecord
    dsimp only [WakeSource.position]
    split <;> exact ⟨rfl, rfl, rfl, rfl⟩
  have hwoken : JournalKept (wokenTimers (.key p) s) (wake (.key p) s) := by
    simp [JournalKept, wake_eq, wokenBlocks_eq, wokenLevels]
  exact ((hrecord.after hactive).before hloaded).before hwoken

theorem wakeSource_key (hstandby : s.power.standby = true) : wakeSource (.key p) s = wake (.key p) s := by
  simp [wakeSource, wakeEnabled, hstandby]

theorem wake_standby (x : WakeSource) (s : State) : (wake x s).power.standby = false := by
  rw [(wake_blocks x s).1]
  exact (wokenBlocks_keeps x s).2.2.2

/-- The decision of a press goes on in `w` to the cases 2 to 4, after the records `rs` (R51). -/
structure DecidedIn (p : Fin 128) (rs : List Rec) (s w : State) : Prop where
  cases : pressCases p s = pressAwake p w
  profile : w.profile = s.profile
  lines : w.lines = s.lines
  held : w.composer.held = s.composer.held
  time : w.power.dockTime = s.power.dockTime
  recorded : Recorded rs s w

theorem decidedIn_self (h : s.power.standby = false ∨ s.power.keyWake = false) : DecidedIn p [] s s := by
  refine ⟨?_, rfl, rfl, rfl, rfl, .nil ⟨rfl, rfl, rfl, rfl⟩⟩
  rw [pressCases, if_neg (by rcases h with h | h <;> simp [h])]

theorem decidedIn_woken (hstandby : s.power.standby = true) (hwake : s.power.keyWake = true)
    (hswallow : s.power.swallow = false) :
    DecidedIn p [⟨.power, some p, usageOf s p, snapshot s, 0, 2⟩] s (wakeSource (.key p) s) := by
  have hheld := congrArg (fun o => o.2.1) (wakeSource_outline (.key p) s)
  refine ⟨?_, by simp, by simp, hheld, by simp, ?_⟩
  · simp [pressCases, hstandby, hwake, hswallow]
  · rw [wakeSource_key hstandby]
    exact wake_recorded p s

theorem pressCases_swallowed (hstandby : s.power.standby = true) (hwake : s.power.keyWake = true)
    (hswallow : s.power.swallow = true) : pressCases p s = mute p (wakeSource (.key p) s) := by
  simp [pressCases, hstandby, hwake, hswallow]

theorem DecidedIn.driveForbids (h : DecidedIn p rs s w) : driveForbids w p = driveForbids s p := by
  simp only [Machine.driveForbids, h.lines, h.profile]

theorem DecidedIn.suppressed (h : DecidedIn p rs s w) (hdrive : Machine.driveForbids s p = true) :
    (pressCases p s).composer = (mute p w).composer ∧
    Recorded (rs ++ [⟨.suppressed, some p, usageOf s p, snapshot s, 0, 0⟩]) s (pressCases p s) := by
  have hcase : pressCases p s = pressSuppressed p w := by rw [h.cases, pressAwake, if_pos (h.driveForbids.trans hdrive)]
  have hrecord := pressSuppressed_recorded p w
  rw [usageOf_congr h.profile, snapshot_congr h.held h.profile] at hrecord
  rw [hcase]
  exact ⟨by simp [pressSuppressed], h.recorded.trans hrecord⟩

theorem DecidedIn.rollover (h : DecidedIn p rs s w) (hdrive : Machine.driveForbids s p = false)
    (hfull : 10 ≤ s.composer.held.length) : (pressCases p s).composer = (mute p w).composer ∧
    Recorded (rs ++ [⟨.rollover, some p, usageOf s p, snapshot s, 0, 0⟩]) s (pressCases p s) := by
  have hallowed : ¬Machine.driveForbids w p = true := by simp [h.driveForbids, hdrive]
  have hcase : pressCases p s = pressRollover p w := by
    rw [h.cases, pressAwake, if_neg hallowed, if_pos (by rw [h.held]; exact hfull)]
  have hrecord := pressRollover_recorded p w
  rw [usageOf_congr h.profile, snapshot_congr h.held h.profile] at hrecord
  rw [hcase]
  exact ⟨by simp [pressRollover], h.recorded.trans hrecord⟩

theorem DecidedIn.ordinary (h : DecidedIn p rs s w) (hdrive : Machine.driveForbids s p = false)
    (hroom : s.composer.held.length < 10) : (pressCases p s).composer = (pressOrdinary p w).composer ∧
    Recorded (rs ++ [⟨.press, some p, usageOf s p, snapshotOf s (s.composer.held ++ [p]), 0, 0⟩]) s (pressCases p s) := by
  have hallowed : ¬Machine.driveForbids w p = true := by simp [h.driveForbids, hdrive]
  have hcase : pressCases p s = pressOrdinary p w := by
    rw [h.cases, pressAwake, if_neg hallowed, if_neg (by rw [h.held]; exact Nat.not_le.mpr hroom)]
  have hrecord := pressOrdinary_recorded p w
  rw [usageOf_congr h.profile, snapshotOf_congr h.profile, h.held] at hrecord
  rw [hcase]
  exact ⟨rfl, h.recorded.trans hrecord⟩

/-! ### The KEY activity event of a press (R56, R175) -/

theorem ActivityTaken.of_found {n : Nat} (h : ActivityTaken n u t) (hpower : u.power = s.power) (hlight : u.light = s.light) :
    ActivityTaken n s t := by
  simpa only [ActivityTaken, hpower, hlight] using h

theorem pressActivity_calm {found : State} (h : expiryMeetsPress found = false) :
    pressActivity found s = activity .key s := by rw [pressActivity, if_neg (by simp [h])]

theorem expiryMeetsPress_iff (s : State) : expiryMeetsPress s = true ↔
    s.power.standby = false ∧ s.power.lingerSources.getLsbD 0 = true ∧ due s s.power.lingerEnds = true := by
  have hbit : selects s.power.lingerSources .key = s.power.lingerSources.getLsbD 0 := rfl
  simp [expiryMeetsPress, hbit, and_assoc]

theorem due_some {x : Option Word} (h : due s x = true) : ∃ ends, x = some ends := by
  cases x with
  | none => simp [due] at h
  | some ends => exact ⟨ends, rfl⟩

/-- Where an expiry meets the event, the free value says whether it comes first (R175). -/
theorem pressActivity_meets {found : State} (h : expiryMeetsPress found = true) (hpower : s.power = found.power) :
    pressActivity found s = activity .key
      (if Config.eitherOrder s.freeCount then enterStandby { s with freeCount := s.freeCount + 1 }
       else { s with freeCount := s.freeCount + 1 }) := by
  have hdue : due { s with freeCount := s.freeCount + 1 } s.power.lingerEnds = true := by
    obtain ⟨-, -, hfound⟩ := (expiryMeetsPress_iff found).mp h
    rw [← hpower] at hfound
    simpa only [due, dueAt, now, hpower] using hfound
  have hexpiry : lingerExpiry { s with freeCount := s.freeCount + 1 } = enterStandby { s with freeCount := s.freeCount + 1 } :=
    if_pos hdue
  rw [pressActivity, if_pos h]
  simp only [takeOrder, hexpiry]
  cases Config.eitherOrder s.freeCount <;> rfl

theorem enterStandby_power (s : State) : (enterStandby s).power = { s.power with standby := true, lingerEnds := none } := by
  obtain ⟨-, -, -, hpower, -⟩ := enterStandby_levelsOnly s
  have hhanded := (standbyHanded_keeps s).2.2.2.2.2.1
  rw [hpower, (panelTest_timersKept _).power (.inl (by rw [hhanded])), hhanded]

theorem enterStandby_timersKept (s : State) : (enterStandby s).light.settings = s.light.settings ∧
    (s.light.idle ≠ .off → (enterStandby s).light.idle ≠ .off) := by
  obtain ⟨-, -, -, -, hlight⟩ := enterStandby_levelsOnly s
  have hkept := panelTest_timersKept (standbyHanded s)
  have hfound : (standbyHanded s).light = s.light := by simp [standbyHanded]
  rw [hlight]
  exact ⟨by rw [hkept.settings, hfound], fun hon => hkept.idleOn (by rwa [hfound])⟩

theorem enterStandby_recorded (s : State) : Recorded [⟨.power, none, 0, snapshot s, 0, 0⟩] s (enterStandby s) :=
  (handRecord_recorded _ s).before (by simp [JournalKept, enterStandby, plainRecord])

/-- What is left in `t` of a KEY activity event that a linger expiry meets in `s` (R56, R175). -/
structure ActivityMet (s t : State) : Prop where
  standby : t.power.standby = Config.eitherOrder s.freeCount
  freeCount : t.freeCount = s.freeCount + 1
  linger : t.power.lingerEnds = if t.power.standby then none else some (after s (wakeLoad s))
  idle : s.light.settings.idleSources.getLsbD 0 = true → s.light.idle ≠ .off →
    t.light.idle = .running ∧ t.light.idleEnds = s.power.dockTime + ms (s.light.settings.idleTimeout * 1000)
  recorded : Recorded (if t.power.standby then [⟨.power, none, 0, snapshot s, 0, 0⟩] else []) s t

theorem activity_journalKept (a : Activity) (s : State) : JournalKept s (activity a s) := by simp [JournalKept]

/-- The expiry comes first: the entry to STANDBY, and an event that finds no linger timer (R175). -/
theorem activity_after_enterStandby (hfree : Config.eitherOrder s.freeCount = true) :
    ActivityMet s (activity .key (enterStandby { s with freeCount := s.freeCount + 1 })) := by
  have hentered := enterStandby_power { s with freeCount := s.freeCount + 1 }
  obtain ⟨hsettings, hon⟩ := enterStandby_timersKept { s with freeCount := s.freeCount + 1 }
  obtain ⟨hpower, -, htimer⟩ := activity_taken .key (enterStandby { s with freeCount := s.freeCount + 1 })
  simp only [hentered, Option.map_none, ite_self] at hpower
  have hstandby : (activity .key (enterStandby { s with freeCount := s.freeCount + 1 })).power.standby = true := by rw [hpower]
  refine ⟨hstandby.trans hfree.symm, by simp, by rw [if_pos hstandby, hpower], fun hsource hidle => ?_, ?_⟩
  · rw [hsettings, if_pos ⟨hsource, hon hidle⟩, hentered] at htimer
    exact htimer
  · have hcounted : JournalKept s { s with freeCount := s.freeCount + 1 } := ⟨rfl, rfl, rfl, rfl⟩
    have hrecord := enterStandby_recorded { s with freeCount := s.freeCount + 1 }
    rw [if_pos hstandby]
    exact (hrecord.after hcounted).before (activity_journalKept .key _)

/-- The event comes first and loads the linger timer, which then has not run out (R56, R175). -/
theorem activity_before_expiry (h : expiryMeetsPress s = true) (hfree : Config.eitherOrder s.freeCount = false) :
    ActivityMet s (activity .key { s with freeCount := s.freeCount + 1 }) := by
  obtain ⟨hactive, hsource, hdue⟩ := (expiryMeetsPress_iff s).mp h
  obtain ⟨ends, hends⟩ := due_some hdue
  obtain ⟨hpower, -, htimer⟩ := activity_taken .key { s with freeCount := s.freeCount + 1 }
  simp only [Activity.bit, hsource, hends, if_true, Option.map_some] at hpower
  have hstandby : (activity .key { s with freeCount := s.freeCount + 1 }).power.standby = false := by rw [hpower]; exact hactive
  refine ⟨hstandby.trans hfree.symm, by simp, ?_, fun hsource hidle => ?_, ?_⟩
  · rw [hstandby, hpower]
    rfl
  · rwa [if_pos ⟨hsource, hidle⟩] at htimer
  · rw [hstandby]
    exact (Recorded.nil ⟨rfl, rfl, rfl, rfl⟩).before (activity_journalKept .key _)

theorem pressActivity_met {found : State} (h : expiryMeetsPress found = true) (hpower : s.power = found.power) :
    ActivityMet s (pressActivity found s) := by
  have hmeets : expiryMeetsPress s = true := by
    simpa only [expiryMeetsPress_iff, due, dueAt, now, hpower] using h
  rw [pressActivity_meets h hpower]
  cases hfree : Config.eitherOrder s.freeCount with
  | true => exact activity_after_enterStandby hfree
  | false => exact activity_before_expiry hmeets hfree

/-! ### The press decision whole (R49, R51 to R56, R65, R175) -/

theorem press_up (hup : (key s p).state = .up) : press p s = pressActivity s (pressCases p s) := if_pos hup

theorem press_composer (hup : (key s p).state = .up) : (press p s).composer = (pressCases p s).composer := by
  rw [press_up hup, pressActivity_composer]

/-- The cases leave the power state and the light as a wake leaves them. -/
theorem pressCases_wakeOnly (p : Fin 128) (s : State) :
    let met := if s.power.standby && s.power.keyWake then wakeSource (.key p) s else s
    met.power = (pressCases p s).power ∧ met.light = (pressCases p s).light := by
  unfold pressCases
  dsimp only
  (repeat' split) <;> simp [mute]

theorem press_active (hup : (key s p).state = .up) (h : expiryMeetsPress s = true) :
    (pressCases p s).power = s.power ∧ (pressCases p s).light = s.light ∧ ActivityMet (pressCases p s) (press p s) := by
  obtain ⟨hactive, -, -⟩ := (expiryMeetsPress_iff s).mp h
  obtain ⟨hpower, hlight⟩ := pressCases_wakeOnly p s
  simp only [hactive, Bool.false_and] at hpower hlight
  refine ⟨hpower.symm, hlight.symm, ?_⟩
  rw [press_up hup]
  exact pressActivity_met h hpower.symm

theorem press_calmActivity (hup : (key s p).state = .up) (h : expiryMeetsPress s = false) :
    press p s = activity .key (pressCases p s) := by rw [press_up hup, pressActivity_calm h]

/-- The records of a press decision: those of its case, and that of an expiry taken first (R51, R175). -/
theorem press_recorded (hup : (key s p).state = .up) (h : Recorded rs s (pressCases p s)) :
    Recorded (rs ++ if expiryMeetsPress s && (press p s).power.standby then [⟨.power, none, 0, snapshot (press p s), 0, 0⟩]
      else []) s (press p s) := by
  have hprofile : (press p s).profile = (pressCases p s).profile := by simp
  have hsnapshot := snapshot_congr (congrArg Composer.held (press_composer hup)) hprofile
  cases hmeets : expiryMeetsPress s with
  | true =>
    obtain ⟨-, -, hmet⟩ := press_active hup hmeets
    rw [Bool.true_and, hsnapshot]
    exact h.trans hmet.recorded
  | false =>
    have hkept := activity_journalKept .key (pressCases p s)
    rw [← press_calmActivity hup hmeets] at hkept
    simpa using h.before hkept

/-- The ordinary case makes the key DOWN and the last of the Held Set, whatever its class (R55). -/
theorem pressOrdinary_joins (p : Fin 128) (s : State) :
    (pressOrdinary p s).composer.keys = (joined p s).composer.keys ∧
    (pressOrdinary p s).composer.held = s.composer.held ++ [p] := by
  rw [pressOrdinary_composer]
  cases classOf s p <;> exact ⟨rfl, rfl⟩

/-- The repeat context after the ordinary case, by the key's class (R65). -/
theorem pressOrdinary_repeat (p : Fin 128) (s : State) :
    (classOf s p = .repeating → (pressOrdinary p s).composer.subject = some p ∧
      (pressOrdinary p s).composer.repeatCount = 0 ∧
      (pressOrdinary p s).composer.repeatEnds = s.power.dockTime + ms s.profile.active.repeatDelay) ∧
    (classOf s p = .plain ∨ classOf s p = .hold →
      (pressOrdinary p s).composer.subject = none ∧ (pressOrdinary p s).composer.repeatCount = 0) ∧
    (∀ r, classOf s p = .modifier r → (pressOrdinary p s).composer = { s.composer with
      keys := (pressOrdinary p s).composer.keys, held := s.composer.held ++ [p] }) := by
  rw [pressOrdinary_composer]
  refine ⟨fun hclass => ?_, fun hclass => ?_, fun r hclass => ?_⟩
  · rw [hclass]
    exact ⟨rfl, rfl, rfl⟩
  · rcases hclass with hclass | hclass <;> rw [hclass] <;> exact ⟨rfl, rfl⟩
  · rw [hclass]
    rfl

/-- After a wake by a swallowed press the keys, the Held Set and the subject are those found, but the key MUTED (R52). -/
theorem wakeSource_keyPath (x : WakeSource) (s : State) : (wakeSource x s).composer.held = s.composer.held ∧
    (wakeSource x s).composer.subject = s.composer.subject ∧
    ∀ q, (key (wakeSource x s) q).state = (key s q).state :=
  have hkept := wakeSource_outline x s
  ⟨congrArg (fun o => o.2.1) hkept, congrArg (fun o => o.2.2) hkept, fun q => (key_of_outline hkept q).1⟩

theorem press_taken (hup : (key s p).state = .up) (h : expiryMeetsPress s = false) :
    ActivityTaken 0 (pressCases p s) (press p s) := by
  rw [press_calmActivity hup h]
  exact activity_taken .key (pressCases p s)

/-! ### The obligation -/

/-- Settles O28: a press by the state of its decision (a wake or none) and then by its case, a release by the key's state. -/
theorem keyDecisionsTakeTheirCase : Obligations.KeyDecisionsTakeTheirCase := by
  refine ⟨fun s p hup => ?_, fun s p => ⟨release_up, release_silent, fun hdown => ?_⟩⟩
  · intro t meets record records awake met
    have hcomposer : t.composer = (pressCases p s).composer := press_composer hup
    have hrecords : ∀ rs, Recorded rs s (pressCases p s) → records rs := fun rs h => (press_recorded hup h).writes
    obtain ⟨hmetPower, hmetLight⟩ := pressCases_wakeOnly p s
    have hcalm : meets = false → ActivityTaken 0 (pressCases p s) t := press_taken hup
    have hstandby : meets = false → t.power.standby = met.power.standby := fun h => by
      obtain ⟨hpower, -⟩ := hcalm h
      rw [hpower, ← hmetPower]
    have hawake : ∀ w rs, DecidedIn p rs s w → awake w rs := by
      intro w rs h
      have hclass := classOf_congr h.profile p
      refine ⟨fun hdrive => ?_, fun hdrive hfull => ?_, fun hdrive hroom => ?_⟩
      · obtain ⟨hmuted, hrecorded⟩ := h.suppressed hdrive
        exact ⟨hcomposer.trans hmuted, hrecords _ hrecorded⟩
      · obtain ⟨hmuted, hrecorded⟩ := h.rollover hdrive hfull
        exact ⟨hcomposer.trans hmuted, hrecords _ hrecorded⟩
      · obtain ⟨hordinary, hrecorded⟩ := h.ordinary hdrive hroom
        obtain ⟨hkeys, hheld⟩ := pressOrdinary_joins p w
        have hrepeat := pressOrdinary_repeat p w
        rw [hclass, h.time, h.profile, h.held, ← hordinary, ← hcomposer] at hrepeat
        rw [← hordinary, ← hcomposer, h.held] at hheld
        rw [← hordinary, ← hcomposer] at hkeys
        obtain ⟨hrepeating, hplain, hmodifier⟩ := hrepeat
        exact ⟨hkeys, hheld, hrepeating, hplain, hmodifier, hrecords _ hrecorded⟩
    refine ⟨fun h => (hcalm h).of_found hmetPower.symm hmetLight.symm, fun h => ?_, fun hasleep hwake => ?_,
      fun hno => ⟨hawake s [] (decidedIn_self hno), fun h => ?_, fun h => ?_⟩⟩
    · obtain ⟨hpower, hlight, hmet⟩ := press_active hup h
      have hidle := hmet.idle
      rwa [hpower, hlight] at hidle
    · have hcalmed : meets = false := by simp [meets, hasleep]
      have hwoken : met = wakeSource (.key p) s := if_pos (by simp [hasleep, hwake])
      obtain ⟨hheld, hsubject, hstates⟩ := wakeSource_keyPath (.key p) s
      refine ⟨?_, hstates, fun hswallow => ?_, fun hswallow => hawake _ _ (decidedIn_woken hasleep hwake hswallow)⟩
      · rw [hstandby hcalmed, hwoken, wakeSource_key hasleep, wake_standby]
      · have hmuted := pressCases_swallowed (p := p) hasleep hwake hswallow
        rw [hmuted] at hcomposer
        refine ⟨hcomposer, by rw [hcomposer]; exact hheld, by rw [hcomposer]; exact hsubject, hrecords _ ?_⟩
        rw [hmuted, wakeSource_key hasleep]
        exact (wake_recorded p s).before (setKey_journalKept p _ _)
    · have hstays : met = s := if_neg (by rcases hno with h | h <;> simp [h])
      rw [hstandby h, hstays]
    · obtain ⟨hpower, -, hmet⟩ := press_active hup h
      have hfree : (pressCases p s).freeCount = s.freeCount := by simp
      have hlinger := hmet.linger
      simp only [after, now, wakeLoad, hpower] at hlinger
      exact ⟨hfree ▸ hmet.standby, hfree ▸ hmet.freeCount, hlinger⟩
  · have hrecord := (leaveRecord_recorded p { key s p with state := .up, downTime := 0 } 0 s).writes
    have hcomposer := leftDown_composer p { key s p with state := .up, downTime := 0 } s
    rw [← (keyRecord_keeps .release p 0 0 _).2.2.1, ← release_down hdown] at hcomposer
    rw [← release_down hdown] at hrecord
    refine ⟨eq_of_keyPath (by simp), by rw [hcomposer], by rw [hcomposer], fun hs => ?_, fun hs => ?_, hrecord⟩
    · simp [hcomposer, hs]
    · simp [hcomposer, hs]

end

end Sys2Proof.Machine
end

section
/-! PROOFS. The Journal Writer's operations written out, and what they keep: (Head - Taken) modulo 2^32 at most 256, at most 10
keys held, and the Lost count within its range (R76 to R85). -/

namespace Sys2Proof.Machine

section
variable {s t : State}

/-! ### Causes, and the advance of Head (R19, R20, R77, R81) -/

/-- A raised cause stands in attention, and may send a message (R19, R20). -/
theorem raise_eq (c : Cause) (s : State) : ∃ messages, raise c s =
    { s with exch.attention := s.exch.attention ||| c.bit, link.messages := messages } := by
  rw [raise, sendMessage_when (c := s.exch.attention == 0 && s.link.intEnable) (by simp)]
  exact ⟨_, rfl⟩

/-- An armed mark is reached by a Head (R81). -/
def marksAt (s : State) (head : Word) : Bool := s.journal.armed && reached head s.journal.mark

/-- An advance of Head publishes it; an armed mark that it reaches disarms and raises MARK (R77, R81). -/
theorem advanceHead_eq (n : Nat) (s : State) : ∃ messages, advanceHead n s = { s with
    journal.head := s.journal.head + BitVec.ofNat 32 n,
    journal.armed := s.journal.armed && !marksAt s (s.journal.head + BitVec.ofNat 32 n),
    exch.attention :=
      if marksAt s (s.journal.head + BitVec.ofNat 32 n) then s.exch.attention ||| 1 else s.exch.attention,
    link.messages := messages } := by
  cases hmark : marksAt s (s.journal.head + BitVec.ofNat 32 n) with
  | true =>
    obtain ⟨messages, hraise⟩ := raise_eq .mark
      { s with journal.head := s.journal.head + BitVec.ofNat 32 n, journal.armed := false }
    refine ⟨messages, (if_pos hmark).trans (hraise.trans ?_)⟩
    simp [Cause.bit]
  | false =>
    refine ⟨s.link.messages, (if_neg (ne_true_of_eq_false hmark)).trans ?_⟩
    simp

/-! ### The invariant under the Journal Writer (R76 to R83) -/

/-- The invariant depends on the journal and the size of the Held Set. -/
theorem JournalInv.congr (h : JournalInv s) (hjournal : t.journal = s.journal) (hheld : t.composer.held.length ≤ 10) :
    JournalInv t := by
  have huntaken : untaken t = untaken s := by simp only [untaken, hjournal]
  exact ⟨huntaken ▸ h.ring, hheld, hjournal ▸ h.lost⟩

/-- An operation that leaves the journal and the Held Set as they were. -/
theorem JournalInv.same (h : JournalInv s) (hjournal : t.journal = s.journal := by simp)
    (hheld : t.composer.held = s.composer.held := by simp) : JournalInv t := h.congr hjournal (hheld ▸ h.held)

/-- An advance within the room moves the untaken count on (R76, R77). -/
theorem untaken_advanceHead {n : Nat} (h : untaken s + n ≤ 256) : untaken (advanceHead n s) = untaken s + n := by
  have hsub : s.journal.head + BitVec.ofNat 32 n - s.journal.taken =
      s.journal.head - s.journal.taken + BitVec.ofNat 32 n := by bv_omega
  obtain ⟨htaken, -⟩ := advanceHead_journal n s
  rw [untaken] at h
  rw [untaken, advanceHead_head, htaken, hsub, BitVec.toNat_add, BitVec.toNat_ofNat, untaken]
  omega

theorem advanceHead_journalInv {n : Nat} (hroom : untaken s + n ≤ 256) (h : JournalInv s) :
    JournalInv (advanceHead n s) := by
  refine ⟨untaken_advanceHead hroom ▸ hroom, by simpa using h.held, ?_⟩
  obtain ⟨_, heq⟩ := advanceHead_eq n s
  rw [heq]
  exact h.lost

/-- A group is written where the ring has room for it, so Head stays within the ring (R83, R85). -/
theorem writeGroup_journalInv (hroom : untaken s + (1 + s.composer.held.length) ≤ 256) (h : JournalInv s) :
    JournalInv (writeGroup s) := by
  have hput : JournalInv (putRecords s.journal.head (resyncGroup s) s) := h.same
  have hgroup : JournalInv (advanceHead (1 + s.composer.held.length) (putRecords s.journal.head (resyncGroup s) s)) :=
    advanceHead_journalInv (by simpa [untaken] using hroom) hput
  exact ⟨hgroup.ring, hgroup.held, hgroup.lost⟩

theorem recoveryTest_journalInv (h : JournalInv s) : JournalInv (recoveryTest s) := by
  unfold recoveryTest
  split
  · next hroom =>
    rw [room, Config.ringSize] at hroom
    exact writeGroup_journalInv (by omega) h
  · exact h

theorem dropRecord_journalInv (h : JournalInv s) : JournalInv (dropRecord s) := ⟨h.ring, h.held, Nat.min_le_right ..⟩

theorem handRecord_journalInv (r : Rec) (h : JournalInv s) : JournalInv (handRecord r s) := by
  have hdropped := dropRecord_journalInv h
  unfold handRecord
  (repeat' split)
  · exact h
  · exact recoveryTest_journalInv hdropped
  · have hbegun : JournalInv { dropRecord s with journal.episode := true } := ⟨hdropped.ring, hdropped.held, hdropped.lost⟩
    exact hbegun.same
  · next hroom => exact advanceHead_journalInv (Nat.lt_of_not_le hroom) h.same

theorem keyRecord_journalInv (k : RecordKind) (p : Fin 128) (fl : Byte) (d : Half) (h : JournalInv s) :
    JournalInv (keyRecord k p fl d s) := handRecord_journalInv _ h

theorem plainRecord_journalInv (k : RecordKind) (d : Half) (h : JournalInv s) : JournalInv (plainRecord k d s) :=
  handRecord_journalInv _ h

theorem wakeRecord_journalInv (w : WakeSource) (h : JournalInv s) : JournalInv (wakeRecord w s) := by
  unfold wakeRecord
  split
  · exact keyRecord_journalInv _ _ _ _ h
  · exact plainRecord_journalInv _ _ h

/-! ### Taken, the mark and the session open (R78, R80, R87) -/

theorem moveTaken_journalInv {v : Word} (hv : (s.journal.head - v).toNat ≤ 256) (h : JournalInv s) :
    JournalInv (moveTaken v s) := by
  have hmoved : JournalInv { s with journal.taken := v } := ⟨hv, h.held, h.lost⟩
  unfold moveTaken
  dsimp only
  split
  · exact recoveryTest_journalInv hmoved
  · exact hmoved

/-- Taken moves towards Head and no further, so the untaken count does not grow (R78). -/
theorem takenWrite_journalInv (v : Word) (h : JournalInv s) : JournalInv (takenWrite v s) := by
  have hring := h.ring
  unfold takenWrite
  (repeat' split)
  · exact h.same
  · next hup =>
    unfold untaken at hring hup
    exact moveTaken_journalInv (by bv_omega) h
  · have hclamped : JournalInv (moveTaken s.journal.head s) := moveTaken_journalInv (by simp) h
    exact hclamped.same
  · exact h.same

theorem markWrite_journalInv (m : Word) (h : JournalInv s) : JournalInv (markWrite m s) := by
  have hmark : ∀ armed, JournalInv { s with journal.mark := m, journal.armed := armed } := fun _ => ⟨h.ring, h.held, h.lost⟩
  unfold markWrite
  (repeat' split)
  · exact h.same
  · exact (hmark false).same
  · exact hmark true

/-- The ring of a journal at its start is empty (R87, R89). -/
theorem untaken_of_start (hjournal : t.journal = Journal.start) : untaken t = 0 := by
  simp [untaken, hjournal, Journal.start]

theorem journalInv_of_start (hjournal : t.journal = Journal.start) (hheld : t.composer.held.length ≤ 10) : JournalInv t :=
  ⟨by simp [untaken_of_start hjournal], hheld, by simp [hjournal, Journal.start]⟩

/-- The ring is empty at the open, and at most 10 keys are held, so the group fits (R87). -/
theorem openSession_journalInv (h : JournalInv s) : JournalInv (openSession s) := by
  have hempty : JournalInv { openExchange s with journal := Journal.start } := journalInv_of_start rfl h.held
  refine writeGroup_journalInv ?_ hempty
  rw [untaken_of_start rfl, Nat.zero_add]
  exact (Nat.add_le_add_left hempty.held 1).trans (by decide)

end

end Sys2Proof.Machine
end

section
/-! PROOFS. Every step keeps (Head - Taken) modulo 2^32 at most 256 (R77): outside the Journal Writer the journal moves by
records handed over, Taken and mark writes, session opens and starts alone, and the Held Set by the Key Composer's
decisions. -/

namespace Sys2Proof.Machine

section
variable {s t : State}

/-! ### The Power Manager -/

theorem enterStandby_journalInv (h : JournalInv s) : JournalInv (enterStandby s) := by
  have hrecord : JournalInv (plainRecord .power 0 s) := plainRecord_journalInv .power 0 h
  exact hrecord.same (by simp [enterStandby])

@[simp] theorem scannerWake_held (s : State) : (scannerWake s).composer.held = s.composer.held := by
  unfold scannerWake
  split <;> rfl

theorem wake_journalInv (w : WakeSource) (h : JournalInv s) : JournalInv (wake w s) := by
  have hawake : JournalInv { s with power.standby := false } := h.same
  have hrecord := wakeRecord_journalInv w hawake
  have hblocks : (wokenBlocks w s).journal = (wakeRecord w { s with power.standby := false }).journal := by
    unfold wokenBlocks
    dsimp only
    split <;> simp
  rw [wake_eq]
  exact hrecord.same (by simp [hblocks])

theorem wakeSource_journalInv (w : WakeSource) (h : JournalInv s) : JournalInv (wakeSource w s) := by
  unfold wakeSource
  split
  · exact wake_journalInv w h
  · exact h

theorem ignitionOn_journalInv (h : JournalInv s) : JournalInv (ignitionOn s) := wakeSource_journalInv .ignitionOn h.same

theorem ignitionOff_journalInv (h : JournalInv s) : JournalInv (ignitionOff s) := by
  unfold ignitionOff
  (repeat' split)
  · exact h
  · exact enterStandby_journalInv h
  · exact h.same

theorem lingerRetime_journalInv (h : JournalInv s) : JournalInv (lingerRetime s) := by
  unfold lingerRetime
  (repeat' split)
  · exact h
  · exact enterStandby_journalInv h
  · exact h.same

theorem lingerExpiry_journalInv (h : JournalInv s) : JournalInv (lingerExpiry s) := by
  unfold lingerExpiry
  split
  · exact enterStandby_journalInv h
  · exact h

theorem bandRecord_journalInv (o n : Band) (h : JournalInv s) : JournalInv (bandRecord o n s) := by
  unfold bandRecord
  (repeat' split)
  · exact plainRecord_journalInv .supply 1 h
  · exact plainRecord_journalInv .supply 2 h
  · exact h

theorem sample_journalInv (mv : Nat) (h : JournalInv s) : JournalInv (sample mv s) := by
  unfold sample
  dsimp only
  split
  · exact h.same
  · have hband := bandRecord_journalInv s.power.band (classify s.power.band s.power.recovery mv).1
      (s := { s with
        power.recovery := (classify s.power.band s.power.recovery mv).2,
        power.band := (classify s.power.band s.power.recovery mv).1 }) h.same
    exact hband.same (by simp [changeBand])

theorem supplyDone_journalInv (code : BitVec 10) (h : JournalInv s) : JournalInv (supplyDone code s) := by
  have hmeasured : JournalInv { s with measure.millivolts := BitVec.ofNat 16 (millivoltsOf code) } := h.same
  exact (sample_journalInv (millivoltsOf code) hmeasured).same (by simp [supplyDone]) (by simp [supplyDone])

/-! ### The Key Composer (R50 to R66) -/

/-- An ordinary press finds the Held Set with room, and fills at most its last place (R50, R55). -/
theorem pressOrdinary_journalInv (p : Fin 128) (hroom : s.composer.held.length < 10) (h : JournalInv s) :
    JournalInv (pressOrdinary p s) := by
  have hjoined : JournalInv (repeatOnPress p (joined p s)) := h.congr (by simp [joined]) (by simpa [joined] using hroom)
  exact keyRecord_journalInv .press p 0 0 hjoined

theorem pressAwake_journalInv (p : Fin 128) (h : JournalInv s) : JournalInv (pressAwake p s) := by
  have hmuted : JournalInv (mute p s) := h.same rfl rfl
  unfold pressAwake
  (repeat' split)
  · exact keyRecord_journalInv .suppressed p 0 0 hmuted
  · exact keyRecord_journalInv .rollover p 0 0 hmuted
  · next hroom => exact pressOrdinary_journalInv p (Nat.lt_of_not_le hroom) h

theorem pressCases_journalInv (p : Fin 128) (h : JournalInv s) : JournalInv (pressCases p s) := by
  have hwoken : JournalInv (wakeSource (.key p) s) := wakeSource_journalInv (.key p) h
  unfold pressCases
  dsimp only
  (repeat' split)
  · exact hwoken.same rfl rfl
  · exact pressAwake_journalInv p hwoken
  · exact pressAwake_journalInv p h

theorem pressActivity_journalInv (found : State) (h : JournalInv s) : JournalInv (pressActivity found s) := by
  have horder : JournalInv (takeOrder s).2 := h.same rfl rfl
  unfold pressActivity
  dsimp only
  (repeat' split)
  · exact (lingerExpiry_journalInv horder).same
  · exact horder.same
  · exact h.same

theorem press_journalInv (p : Fin 128) (h : JournalInv s) : JournalInv (press p s) := by
  unfold press
  split
  · exact pressActivity_journalInv s (pressCases_journalInv p h)
  · exact h

/-- A key that leaves the Held Set makes it no larger (R50). -/
theorem leftDown_journalInv (p : Fin 128) (k : KeyRec) (h : JournalInv s) : JournalInv (leftDown p k s) := by
  refine h.congr (by simp [leftDown]) ?_
  rw [leftDown_held]
  exact (List.length_filter_le ..).trans h.held

theorem release_journalInv (p : Fin 128) (h : JournalInv s) : JournalInv (release p s) := by
  unfold release
  split
  · exact h
  · exact keyRecord_journalInv .release p 0 0 (leftDown_journalInv p _ h)
  · exact h.same rfl rfl
  · exact h.same rfl rfl

theorem holdTest_journalInv (p : Fin 128) (h : JournalInv s) : JournalInv (holdTest p s) := by
  unfold holdTest
  dsimp only
  split
  · exact keyRecord_journalInv .hold p 0 0 (h.same rfl rfl)
  · exact h

theorem stuckTest_journalInv (p : Fin 128) (h : JournalInv s) : JournalInv (stuckTest p s) := by
  unfold stuckTest
  dsimp only
  split
  · exact keyRecord_journalInv .release p 1 0 (leftDown_journalInv p _ h)
  · exact h

theorem advanceDownTimes_journalInv (h : JournalInv s) : JournalInv (advanceDownTimes s) :=
  List.foldlRecOn s.composer.held (fun s p => advanceKey p s) (h.same rfl rfl) fun _ hs p _ =>
    stuckTest_journalInv p (holdTest_journalInv p (hs.same rfl rfl))

theorem repeatFires_journalInv (h : JournalInv s) : JournalInv (repeatFires s) := by
  have hcounted : JournalInv { s with composer.repeatCount := min (s.composer.repeatCount + 1) 65535 } := h.same rfl rfl
  unfold repeatFires
  dsimp only
  (repeat' split)
  · exact h
  · next p _ _ => exact (keyRecord_journalInv .repeating p 0 _ hcounted).same rfl rfl
  · exact h

/-! ### The passes and the swap (R28, R42, R97) -/

theorem quietTest_journalInv (h : JournalInv s) : JournalInv (quietTest s) := by
  unfold quietTest
  (repeat' split)
  · exact h
  · next st _ _ =>
    have hswapped : JournalInv (stopRepeat (scannerSwap s.profile.active { s with profile.active := st.profile })) :=
      h.same rfl rfl
    exact (plainRecord_journalInv .profile st.profile.tag hswapped).same (by simp [swapProfile]) (by simp [swapProfile])
  · exact h

theorem foldl_release_journalInv (l : List (Fin 128)) (h : JournalInv s) :
    JournalInv (l.foldl (fun s p => release p s) s) :=
  List.foldlRecOn l _ h fun _ hs p _ => release_journalInv p hs

theorem foldl_press_journalInv (l : List (Fin 128)) (h : JournalInv s) : JournalInv (l.foldl (fun s p => press p s) s) :=
  List.foldlRecOn l _ h fun _ hs p _ => press_journalInv p hs

theorem fastPass_journalInv (raw : BitVec 128) (h : JournalInv s) : JournalInv (fastPass raw s) := by
  have hbegun : JournalInv (passIntegrated raw s) := h.same rfl rfl
  have hdecided : JournalInv (passDecided raw s) := foldl_press_journalInv _ (foldl_release_journalInv _ hbegun)
  have hstored : JournalInv (fastPassDecide raw s) := hdecided.same rfl rfl
  have hcounted : (countIdle (countWindow (fastPassDecide raw s))).composer.outline =
      (fastPassDecide raw s).composer.outline := by simp
  exact quietTest_journalInv (hstored.same (by simp) (congrArg (fun o => o.2.1) hcounted))

theorem slowBoundary_journalInv (switch : Bool) (h : JournalInv s) : JournalInv (slowBoundary switch s) := by
  have horder : JournalInv (takeOrder s).2 := h.same rfl rfl
  unfold slowBoundary
  dsimp only
  (repeat' split)
  · exact (quietTest_journalInv horder).same rfl rfl
  · exact quietTest_journalInv (horder.same rfl rfl)
  · exact quietTest_journalInv (h.same rfl rfl)
  · exact quietTest_journalInv h

theorem slowPass_journalInv (raw : BitVec 128) (h : JournalInv s) : JournalInv (slowPass raw s) := by
  have hbegun : JournalInv { s with scanner := { s.scanner with passAt := s.power.dockTime, driven := true } } := h.same
  have hreleased := foldl_release_journalInv (stuckOpen (samples raw s) s.composer.keys) hbegun
  have hscanned : JournalInv (slowScanned raw s) := hreleased.same rfl rfl
  rw [slowPass_eq]
  exact slowBoundary_journalInv _ hscanned

/-! ### The contexts (R15, R18) -/

theorem applyWish_journalInv (wish : Bool) (h : JournalInv s) : JournalInv (applyWish wish s) := by
  have hwished : JournalInv { s with scanout.wish := wish } := h.same
  unfold applyWish
  dsimp only
  split
  · exact wakeSource_journalInv .host hwished
  · exact hwished.same

theorem takePanel_journalInv (j : Job) (h : JournalInv s) : JournalInv (takePanel j s) := by
  have hwish := applyWish_journalInv (panelWish j.params) h
  unfold takePanel
  dsimp only
  split
  · exact hwish.same
  · exact hwish.same

theorem takeSettings_journalInv (j : Job) (h : JournalInv s) : JournalInv (takeSettings j s) := by
  unfold takeSettings
  (repeat' split)
  · exact h.same
  · exact h.same
  · exact lingerRetime_journalInv (h.same rfl rfl)
  · exact takePanel_journalInv j h
  · exact h.same

theorem oneTake_journalInv (ht : oneTake s = some t) (h : JournalInv s) : JournalInv t := by
  obtain ⟨-, e, -, rfl⟩ | ⟨-, -, e, -, rfl⟩ | ⟨-, e, -, rfl⟩ := oneTake_cases ht
  · exact takeSettings_journalInv _ h.same
  · exact h.same
  · exact h.same

theorem look_journalInv (h : JournalInv s) : JournalInv (look s) := by
  unfold look
  generalize s.exch.queue.length = n
  induction n generalizing s with
  | zero => exact h
  | succ n ih =>
    unfold lookFor
    split
    · exact h
    · next t ht => exact ih (oneTake_journalInv ht h)

/-! ### The tablet's writes (R1 to R11) -/

theorem sessionWrite_journalInv (v : Word) (h : JournalInv s) : JournalInv (sessionWrite v s) := by
  unfold sessionWrite
  (repeat' split)
  · exact h
  · exact openSession_journalInv h
  · exact h.same
  · exact h.same
  · exact h.same

theorem postWrite_journalInv (k : Fin 16) (h : JournalInv s) : JournalInv (postWrite k s) := by
  unfold postWrite
  split
  · exact look_journalInv h.same
  · exact h.same

theorem cancelWrite_journalInv (k : Fin 16) (h : JournalInv s) : JournalInv (cancelWrite k s) := by
  unfold cancelWrite
  (repeat' split)
  · exact h.same
  · exact h.same
  · exact look_journalInv h.same
  · exact look_journalInv h.same
  all_goals exact h

theorem slotStateWrite_journalInv (k : Fin 16) (v : Word) (h : JournalInv s) : JournalInv (slotStateWrite k v s) := by
  unfold slotStateWrite
  (repeat' split)
  · exact h.same
  · exact postWrite_journalInv k h
  · exact cancelWrite_journalInv k h
  · exact h.same

theorem guardedWrite_journalInv (g : Guarded) (v : Word) (h : JournalInv s) : JournalInv (guardedWrite g v s) := by
  cases g with
  | session => exact sessionWrite_journalInv v h
  | taken => exact takenWrite_journalInv v h
  | mark => exact markWrite_journalInv v h
  | acknowledge => exact h.same (by simp [guardedWrite]) (by simp [guardedWrite])
  | slotState k => exact slotStateWrite_journalInv k v h

theorem exchangeWrite_journalInv (word : BitVec 14) (be : BitVec 4) (v : Word) (h : JournalInv s) :
    JournalInv (exchangeWrite word be v s) := by
  unfold exchangeWrite
  (repeat' split)
  · exact h.same
  · exact h.same
  · exact h
  · exact guardedWrite_journalInv _ v h
  · exact h.same

/-! ### Lines and link -/

theorem deriveDrive_journalInv (h : JournalInv s) : JournalInv (deriveDrive s) := by
  unfold deriveDrive
  dsimp only
  split
  · exact h
  · have hdrive : JournalInv { s with lines.drive := derivedDrive s } := h.same
    exact (plainRecord_journalInv .vehicle (if derivedDrive s then 3 else 4) hdrive).same

theorem ignChange_journalInv (on : Bool) (h : JournalInv s) : JournalInv (ignChange on s) := by
  have hline : JournalInv { s with lines.ignOn := on } := h.same
  have hdrive := deriveDrive_journalInv (plainRecord_journalInv .vehicle (if on then 1 else 2) hline)
  unfold ignChange
  cases on with
  | true => exact (ignitionOn_journalInv hdrive).same
  | false => exact (ignitionOff_journalInv hdrive).same

theorem presenceChange_journalInv (docked : Bool) (h : JournalInv s) : JournalInv (presenceChange docked s) := by
  have hline : JournalInv { s with lines.docked := docked } := h.same
  unfold presenceChange
  dsimp only
  split
  · exact wakeSource_journalInv .dockArrival hline
  · exact hline.same

theorem latchChange_journalInv (opened : Bool) (h : JournalInv s) : JournalInv (latchChange opened s) := by
  have hline : JournalInv { s with lines.latchOpen := opened } := h.same
  have hrecord := plainRecord_journalInv .latch (if opened then 1 else 2) hline
  cases opened with
  | true => exact wakeSource_journalInv .latch hrecord
  | false => exact hrecord

theorem lineChange_journalInv (line : Line) (level : Bool) (h : JournalInv s) : JournalInv (lineChange line level s) := by
  cases line with
  | ign => exact ignChange_journalInv level h
  | park =>
    have hline : JournalInv { s with lines.parkEngaged := level } := h.same
    exact (deriveDrive_journalInv hline).same (by simp [lineChange, parkChange]) (by simp [lineChange, parkChange])
  | presence => exact presenceChange_journalInv level h
  | latch => exact latchChange_journalInv level h

theorem lineExpiry_journalInv (line : Line) (h : JournalInv s) : JournalInv (lineExpiry line s) := by
  have htimer : JournalInv (setLineTimer line none s) := h.same
  unfold lineExpiry
  dsimp only
  (repeat' split)
  · exact htimer
  · exact lineChange_journalInv line _ htimer
  · exact h

theorem failFetches_journalInv (n : Nat) (h : JournalInv s) : JournalInv (failFetches n s) := by
  induction n generalizing s with
  | zero => exact h
  | succ n ih =>
    have horder : JournalInv (takeOrder s).2 := h.same rfl rfl
    unfold failFetches
    dsimp only
    (repeat' split)
    · exact ih (look_journalInv horder.same)
    · exact horder
    · exact h

theorem linkDown_journalInv (h : JournalInv s) : JournalInv (linkDown s) := by
  have hlink : JournalInv { s with link.up := false } := h.same
  unfold linkDown
  split
  · exact (failFetches_journalInv (s.exch.queue.length + 1) hlink).same (by simp [linkLost]) (by simp [linkLost])
  · exact h

/-! ### The starts (R71, R89) -/

theorem controlWrite_journalInv (v : Word) (h : JournalInv s) : JournalInv (controlWrite v s) := by
  unfold controlWrite
  dsimp only
  split
  · exact journalInv_of_start (by simp [resetFunction]) (by simp [resetFunction, keyPathReset, Composer.start])
  · exact h.same

/-! ### Every step -/

theorem effect_journalInv (c : Instr) (s : State) (h : JournalInv s) : JournalInv (effect c s) := by
  cases c with
  | exchangeMemoryWrite word be v => exact exchangeWrite_journalInv word be v h
  | sessionOpen => exact sessionWrite_journalInv 1 h
  | sessionClose => exact sessionWrite_journalInv 2 h
  | post k => exact postWrite_journalInv k h
  | cancel k => exact cancelWrite_journalInv k h
  | journalTakenWrite v => exact takenWrite_journalInv v h
  | notifyMarkWrite m => exact markWrite_journalInv m h
  | interruptEnableWrite v => exact controlWrite_journalInv v h
  | functionReset v => exact controlWrite_journalInv (v ||| 2) h
  | registerWriteIgnored word be v =>
    simp only [effect, registerWrite]
    split
    · exact controlWrite_journalInv v h
    · exact h
  | linkDown => exact linkDown_journalInv h
  | fastPass levels => exact look_journalInv (fastPass_journalInv _ h)
  | slowPass levels => exact look_journalInv (slowPass_journalInv _ h)
  | windowEnd | slowScanEntry => exact h.same rfl rfl
  | downTimeAdvance => exact advanceDownTimes_journalInv h
  | hold p => exact holdTest_journalInv p h
  | stuck p => exact stuckTest_journalInv p h
  | repeatExpiry => exact repeatFires_journalInv h
  | clearingEnd =>
    refine look_journalInv ?_
    unfold endClearing
    split
    · exact h.same
    · exact h
  | supplyConversionComplete code => exact look_journalInv (supplyDone_journalInv code h)
  | qualificationExpiry line => exact look_journalInv (lineExpiry_journalInv line h)
  | lingerExpiry => exact look_journalInv (lingerExpiry_journalInv h)
  | supplyDipStart | coldStart _ => exact journalInv_of_start rfl (Nat.zero_le _)
  | settingsCompletion | profileWaitExpiry | hostReadCompletion _ _ _ _ _ | hostReadTimeout _ | rowWriteComplete
  | carryCopyRowComplete | verticalBlankStart | panelStageExpiry => exact look_journalInv h.same
  | free _ | attentionAcknowledge _ | linkReset | msiEnableChange _ | interruptDisableChange _ | conversionDue
  | ambientConversionComplete _ | lightTick | idleExpiry | lineEdge _ _ | dockTimeAdvance | survivalComparatorTrip
  | linkUp | busMasteringChange _ =>
    exact h.same (by simp [effect, startConversion]) (by simp [effect, startConversion])

/-- Settles O5: the effect of every command keeps the invariant, and commands that wait do not bear on it. -/
theorem stepKeepsRingBound : Obligations.StepKeepsRingBound := by
  intro s t h ht
  exact step_preserves (fun _ _ hs => hs.same) effect_journalInv h ht

end

end Sys2Proof.Machine
end

section
/-! PROOFS. A journal record as its fields (R26, R73 to R75), and a record handed to the Journal Writer by the case it takes
(R76, R81 to R85). -/

namespace Sys2Proof.Machine

/-! ### Fields in bytes (R26) -/

theorem word_of_bytes (w : Word) : word (byteOf w 0) (byteOf w 1) (byteOf w 2) (byteOf w 3) = w := by
  have hlt := w.isLt
  apply BitVec.eq_of_toNat_eq
  simp only [word_toNat, byteOf_toNat]
  omega

/-- The bytes of a 16-bit field read as stored. -/
theorem bytes2_half (b0 b1 : Byte) : bytes2 (half b0 b1) = [b0, b1] := by
  have h0 := b0.isLt
  have h1 := b1.isLt
  have hlow : (half b0 b1).setWidth 8 = b0 := by
    apply BitVec.eq_of_toNat_eq
    rw [BitVec.toNat_setWidth, half_toNat]
    omega
  have hhigh : (half b0 b1 >>> 8).setWidth 8 = b1 := by
    apply BitVec.eq_of_toNat_eq
    rw [BitVec.toNat_setWidth, BitVec.toNat_ushiftRight, Nat.shiftRight_eq_div_pow, half_toNat]
    omega
  rw [bytes2, hlow, hhigh]

theorem reads_eq_bytes4_iff (m : Memory) (a : Nat) (w : Word) : m.reads a 4 = bytes4 w ↔ m.word a = w := by
  constructor
  · intro h
    have hbytes : [m.read a, m.read (a + 1), m.read (a + 2), m.read (a + 3)] = bytes4 w := h
    simp only [bytes4, List.cons.injEq, and_true] at hbytes
    obtain ⟨h0, h1, h2, h3⟩ := hbytes
    rw [Memory.word, h0, h1, h2, h3, word_of_bytes]
  · rintro rfl
    have hbyte := fun i (hi : i < 4) => byteOf_word m a hi
    rw [bytes4, hbyte 0 (by omega), hbyte 1 (by omega), hbyte 2 (by omega), hbyte 3 (by omega)]
    rfl

theorem reads_eq_bytes2_iff (m : Memory) (a : Nat) (h : Half) : m.reads a 2 = bytes2 h ↔ m.half a = h := by
  constructor
  · intro hreads
    have hbytes : [m.read a, m.read (a + 1)] = bytes2 h := hreads
    simp only [bytes2, List.cons.injEq, and_true] at hbytes
    obtain ⟨h0, h1⟩ := hbytes
    rw [Memory.half, h0, h1, half_of_bytes]
  · rintro rfl
    exact (bytes2_half _ _).symm

/-- The position byte of a record: 0xFF for a record that concerns no key (R74). -/
def positionByte : Option (Fin 128) → Byte
  | none => 0xFF
  | some p => BitVec.ofNat 8 p.val

/-- The sixteen bytes of a record, field by field (section 1.8.4). -/
theorem recordBytes_fields (seq time : Word) (r : Rec) : recordBytes seq time r = bytes4 seq ++ (bytes4 time ++
    ([r.kind.code, positionByte r.position] ++ (bytes2 r.usage ++ ([r.mods, r.flags] ++ bytes2 r.detail)))) := by
  obtain ⟨kind, position, usage, mods, flags, detail⟩ := r
  cases position with
  | none => rfl
  | some p => rfl

/-- The sixteen bytes of a place, field by field. -/
theorem reads_place (m : Memory) (o : Nat) : m.reads o 16 = m.reads o 4 ++ (m.reads (o + 4) 4 ++
    ([m.read (o + 8), m.read (o + 9)] ++ (m.reads (o + 0xA) 2 ++ ([m.read (o + 0xC), m.read (o + 0xD)] ++
      m.reads (o + 0xE) 2)))) := rfl

/-- A record stands at a place when its fields stand at their offsets there (R74). -/
theorem recordAt_iff (m : Memory) (seq time : Word) (r : Rec) : recordAt m seq time r ↔
    m.word (recordOffset seq) = seq ∧ m.word (recordOffset seq + 4) = time ∧
    m.read (recordOffset seq + 8) = r.kind.code ∧
    m.read (recordOffset seq + 9) = positionByte r.position ∧
    m.half (recordOffset seq + 0xA) = r.usage ∧ m.read (recordOffset seq + 0xC) = r.mods ∧
    m.read (recordOffset seq + 0xD) = r.flags ∧ m.half (recordOffset seq + 0xE) = r.detail := by
  change m.reads (recordOffset seq) 16 = recordBytes seq time r ↔ _
  rw [reads_place, recordBytes_fields, ← reads_eq_bytes4_iff, ← reads_eq_bytes4_iff, ← reads_eq_bytes2_iff,
    ← reads_eq_bytes2_iff]
  constructor
  · intro h
    obtain ⟨hseq, h⟩ := List.append_inj h rfl
    obtain ⟨htime, h⟩ := List.append_inj h rfl
    obtain ⟨hkind, h⟩ := List.append_inj h rfl
    obtain ⟨husage, h⟩ := List.append_inj h rfl
    obtain ⟨hmods, hdetail⟩ := List.append_inj h rfl
    simp only [List.cons.injEq, and_true] at hkind hmods
    exact ⟨hseq, htime, hkind.1, hkind.2, husage, hmods.1, hmods.2, hdetail⟩
  · rintro ⟨hseq, htime, hkind, hposition, husage, hmods, hflags, hdetail⟩
    rw [hseq, htime, hkind, hposition, husage, hmods, hflags, hdetail]

/-! ### Head advanced with the mark tested (R77, R81, R85) -/

/-- From `s` to `t` records are written up to a Head, which is published, with the Lost count given and no episode running;
the mark is tested (R76, R81, R85). -/
def HeadAdvanced (head : Word) (lost : Nat) (s t : State) : Prop :=
  t = { s with mem := t.mem, exch := t.exch, link := t.link, journal := { s.journal with
    head := head, armed := s.journal.armed && !marksAt s head, lost := lost, episode := false } } ∧
  t.exch = { s.exch with
    attention := if marksAt s head then s.exch.attention ||| 1 else s.exch.attention } ∧
  t.link = { s.link with messages := t.link.messages }

/-- Bytes put in the ring, and a Lost count, before Head advances. -/
theorem advanceHead_headAdvanced (n : Nat) (mem : Memory) (lost : Nat) (s : State) :
    HeadAdvanced (s.journal.head + BitVec.ofNat 32 n) lost s
      { advanceHead n { s with mem := mem, journal.lost := lost } with journal.episode := false } := by
  obtain ⟨messages, heq⟩ := advanceHead_eq n { s with mem := mem, journal.lost := lost }
  rw [heq]
  exact ⟨rfl, rfl, rfl⟩

/-- The records of a group, from the Head found on (R84, R85). -/
theorem writeGroup_records {s : State} (hwf : s.mem.wf = true) (hfits : 1 + s.composer.held.length ≤ 256) :
    recordAt (writeGroup s).mem s.journal.head s.power.dockTime
      ⟨.resync, none, 0, snapshot s, 0, BitVec.ofNat 16 s.composer.held.length⟩ ∧
    ∀ (i : Nat) (hi : i < s.composer.held.length),
      recordAt (writeGroup s).mem (s.journal.head + BitVec.ofNat 32 (i + 1)) s.power.dockTime
        ⟨.held, some s.composer.held[i], usageOf s s.composer.held[i], snapshot s, 0, BitVec.ofNat 16 (i + 1)⟩ := by
  have hmem : (writeGroup s).mem = (putRecords s.journal.head (resyncGroup s) s).mem := by simp [writeGroup]
  have hrecord : ∀ i (hi : i < (resyncGroup s).length),
      recordAt (writeGroup s).mem (s.journal.head + BitVec.ofNat 32 i) s.power.dockTime (resyncGroup s)[i] := by
    rw [hmem]
    exact fun i hi => recordAt_putRecords s.journal.head (resyncGroup s) hwf ((resyncGroup_length s).trans_le hfits) hi
  have hfirst := hrecord 0 (by simp [resyncGroup])
  rw [BitVec.add_zero] at hfirst
  refine ⟨hfirst, fun i hi => ?_⟩
  have hi' : i + 1 < (resyncGroup s).length := by
    rw [resyncGroup_length]
    omega
  exact resyncGroup_held s hi hi' ▸ hrecord (i + 1) hi'

/-! ### The cases of a record handed over (R76, R82, R83) -/

section
variable {s : State}

theorem recoveryTest_short (h : 256 - untaken s < 1 + s.composer.held.length) : recoveryTest s = s :=
  if_neg (Nat.not_le_of_lt h)

theorem recoveryTest_fits (h : 1 + s.composer.held.length ≤ 256 - untaken s) : recoveryTest s = writeGroup s := if_pos h

/-- A drop and the group that room was found for (R82, R85). -/
theorem writeGroup_dropRecord_headAdvanced (s : State) :
    HeadAdvanced (s.journal.head + BitVec.ofNat 32 (1 + s.composer.held.length)) (min (s.journal.lost + 1) 65535) s
      (writeGroup (dropRecord s)) := by
  rw [writeGroup, putRecords_eq]
  exact advanceHead_headAdvanced _ _ _ s

/-- A record written alone, Head and the mark with it (R76). -/
theorem advanceHead_putRecord_headAdvanced (r : Rec) (hepisode : s.journal.episode = false) :
    HeadAdvanced (s.journal.head + 1) s.journal.lost s (advanceHead 1 (putRecord s.journal.head r s)) := by
  have hended : advanceHead 1 (putRecord s.journal.head r s) =
      { advanceHead 1 (putRecord s.journal.head r s) with journal.episode := false } := by
    obtain ⟨messages, heq⟩ := advanceHead_eq 1 (putRecord s.journal.head r s)
    rw [heq]
    simp [hepisode]
  rw [hended]
  exact advanceHead_headAdvanced 1 _ _ s

end

/-- Settles O34: a record is its fields at its place, and each of the four cases of R76 is one equation of the writer. -/
theorem handedRecordTakesItsCase : Obligations.HandedRecordTakesItsCase := by
  refine ⟨fun m seq time r => ?_, fun s r hwf _ => ⟨fun hclosed => handRecord_closed r hclosed,
    fun hopen hepisode => ⟨fun hshort => ?_, fun hfits => ?_⟩, fun hopen hepisode hfull => ?_,
    fun hopen hepisode hroom => ?_⟩⟩
  · obtain ⟨kind, position, usage, mods, flags, detail⟩ := r
    cases position with
    | none => exact recordAt_iff m seq time ⟨kind, none, usage, mods, flags, detail⟩
    | some p => exact recordAt_iff m seq time ⟨kind, some p, usage, mods, flags, detail⟩
  · rw [handRecord_episode r hopen hepisode]
    exact recoveryTest_short (s := dropRecord s) hshort
  · have hgroup : handRecord r s = writeGroup (dropRecord s) :=
      (handRecord_episode r hopen hepisode).trans (recoveryTest_fits (s := dropRecord s) hfits)
    have hlength : 1 + s.composer.held.length ≤ 256 := hfits.trans (Nat.sub_le ..)
    obtain ⟨hresync, hheld⟩ := writeGroup_records (s := dropRecord s) hwf hlength
    rw [hgroup]
    exact ⟨writeGroup_dropRecord_headAdvanced s, hresync, hheld⟩
  · rw [handRecord_full r hopen hepisode hfull.ge]
    obtain ⟨messages, hraise⟩ := raise_eq .loss { dropRecord s with journal.episode := true }
    rw [hraise]
    rfl
  · have hwritten := handRecord_written r hopen hepisode hroom
    obtain ⟨hrecord, -⟩ := handRecord_written_at r hwf ⟨hopen, hepisode, hroom⟩
    refine ⟨hwritten ▸ advanceHead_putRecord_headAdvanced r hepisode, hrecord, fun a ha => ?_⟩
    rw [hwritten, (advanceHead_keeps 1 _).2.1]
    refine read_putRecord s.journal.head r hwf ?_
    simp only [recordOffset, Config.journalBase, Config.ringSize]
    omega

end Sys2Proof.Machine
end

section
/-! PROOFS. The tablet's writes to Journal Taken and to the Notify Mark, case by case (R78, R80). -/

namespace Sys2Proof.Machine

section
variable {s : State}

/-! ### Wrapping counts (section 5 of 00_scope) -/

theorem reached_of_lt {a b : Word} (h : (a - b).toNat < 2 ^ 31) : reached a b = true := decide_eq_true h

theorem not_reached_of_le {a b : Word} (h : 2 ^ 31 ≤ (a - b).toNat) : ¬reached a b = true := fun hreached =>
  Nat.not_lt_of_le h (of_decide_eq_true hreached)

/-! ### Journal Taken (R78) -/

theorem takenWrite_accepted {v : Word} (hopen : s.exch.sessionOpen = true)
    (h : (v - s.journal.taken).toNat ≤ untaken s) : takenWrite v s = moveTaken v s := by
  rw [takenWrite, if_neg (by simp [hopen]), if_pos h]

theorem takenWrite_beyond {v : Word} (hopen : s.exch.sessionOpen = true)
    (h : untaken s < (v - s.journal.taken).toNat) (hbeyond : (v - s.journal.head).toNat < 2 ^ 31) :
    takenWrite v s = refuse 0x0010 (moveTaken s.journal.head s) := by
  rw [takenWrite, if_neg (by simp [hopen]), if_neg (Nat.not_le_of_lt h), if_pos (reached_of_lt hbeyond)]

theorem takenWrite_behind {v : Word} (hopen : s.exch.sessionOpen = true)
    (h : untaken s < (v - s.journal.taken).toNat) (hbehind : 2 ^ 31 ≤ (v - s.journal.head).toNat) :
    takenWrite v s = refuse 0x0010 s := by
  rw [takenWrite, if_neg (by simp [hopen]), if_neg (Nat.not_le_of_lt h), if_neg (not_reached_of_le hbehind)]

theorem takenWrite_closed (v : Word) (hclosed : s.exch.sessionOpen = false) : takenWrite v s = refuse 0x0010 s :=
  if_pos hclosed

/-! ### The Notify Mark (R80) -/

theorem markWrite_reached {m : Word} (hopen : s.exch.sessionOpen = true) (h : (s.journal.head - m).toNat < 2 ^ 31) :
    markWrite m s = raise .mark { s with journal.mark := m, journal.armed := false } := by
  rw [markWrite, if_neg (by simp [hopen]), if_pos (reached_of_lt h)]

theorem markWrite_arms {m : Word} (hopen : s.exch.sessionOpen = true) (h : 2 ^ 31 ≤ (s.journal.head - m).toNat) :
    markWrite m s = { s with journal.mark := m, journal.armed := true } := by
  rw [markWrite, if_neg (by simp [hopen]), if_neg (not_reached_of_le h)]

theorem markWrite_closed (m : Word) (hclosed : s.exch.sessionOpen = false) : markWrite m s = refuse 0x0014 s :=
  if_pos hclosed

/-! ### Narrow writes (R1, R2) -/

/-- A write of a guarded word that is not of all 32 bits is refused. -/
theorem narrowWrite_refused (h : Linked s) (w : BitVec 14) {be : BitVec 4} (v : Word) (hguarded : guardedOffset (4 * w.toNat))
    (hbe : be ≠ 0xF) : exec (.exchangeMemoryWrite w be v) s = .next (afterRefusal (4 * w.toNat) s) := by
  obtain ⟨-, -, hnarrow, -⟩ := exchangeWritesFollowTheirWord.1 s w be v h
  exact hnarrow hguarded hbe

end

/-- Settles O35: each write is the request at its owner, which takes one case, and a narrow one is refused. -/
theorem journalWritesTakeTheirCase : Obligations.JournalWritesTakeTheirCase := by
  refine ⟨fun s v h => ?_, fun s m h => ?_⟩
  · have hexec : exec (.journalTakenWrite v) s = .next (takenWrite v s) := next_whenLinked h (takenWrite v)
    rw [hexec]
    refine ⟨fun hopen hd => congrArg _ (takenWrite_accepted hopen hd),
      fun hopen hd hbeyond => congrArg _ (takenWrite_beyond hopen hd hbeyond),
      fun hopen hd hbehind => congrArg _ (takenWrite_behind hopen hd hbehind),
      fun hclosed => congrArg _ (takenWrite_closed v hclosed),
      fun be hbe => narrowWrite_refused h 4 v (.inr (.inl rfl)) hbe, rfl⟩
  · have hexec : exec (.notifyMarkWrite m) s = .next (markWrite m s) := next_whenLinked h (markWrite m)
    rw [hexec]
    refine ⟨fun hopen hreached => ⟨_, rfl, ?_⟩, fun hopen hahead => congrArg _ (markWrite_arms hopen hahead),
      fun hclosed => congrArg _ (markWrite_closed m hclosed),
      fun be hbe => narrowWrite_refused h 5 m (.inr (.inr (.inl rfl))) hbe, rfl, ofNat_flag 32 s.journal.armed⟩
    obtain ⟨messages, hraise⟩ := raise_eq .mark { s with journal.mark := m, journal.armed := false }
    rw [markWrite_reached hopen hreached, hraise]
    rfl

end Sys2Proof.Machine
end

section
/-! PROOFS. What changes the active profile (R92): a part start, and the swap of a staged profile at a pass boundary (R97,
R98). -/

namespace Sys2Proof.Machine

/-- From `s` to `t` the active profile stays, or is the one that `s` has staged. -/
def KeptOrSwapped (s t : State) : Prop :=
  t.profile.active = s.profile.active ∨ ∃ st, s.profile.staged = some st ∧ t.profile.active = st.profile

section
variable {s t u : State}

theorem KeptOrSwapped.of_profile_eq (h : t.profile = s.profile) : KeptOrSwapped s t := .inl (by rw [h])

/-- What leaves the Profile Unit may stand before a swap. -/
theorem KeptOrSwapped.after (h : KeptOrSwapped u t) (hsame : u.profile = s.profile) : KeptOrSwapped s t := by
  unfold KeptOrSwapped at h ⊢
  rwa [hsame] at h

/-- What leaves the active profile may follow a swap. -/
theorem KeptOrSwapped.before (h : KeptOrSwapped s u) (hsame : t.profile.active = u.profile.active) : KeptOrSwapped s t := by
  unfold KeptOrSwapped at h ⊢
  rwa [hsame]

/-! ### The boundary of a pass (R97 to R99) -/

theorem swapProfile_active (st : Staged) (s : State) : (swapProfile st s).profile.active = st.profile := by
  simp [swapProfile]

theorem quietTest_keptOrSwapped (s : State) : KeptOrSwapped s (quietTest s) := by
  unfold quietTest
  split
  · exact .inl rfl
  · next st hst =>
    split
    · exact .inr ⟨st, hst, swapProfile_active st s⟩
    · exact .inl rfl

theorem fastPass_keptOrSwapped (raw : BitVec 128) (s : State) : KeptOrSwapped s (fastPass raw s) :=
  (quietTest_keptOrSwapped (countIdle (countWindow (fastPassDecide raw s)))).after (by simp)

/-- In either order of the switch and the swap there is one quiet test. -/
theorem slowBoundary_keptOrSwapped (switch : Bool) (s : State) : KeptOrSwapped s (slowBoundary switch s) := by
  have horder : (takeOrder s).2.profile = s.profile := rfl
  unfold slowBoundary
  dsimp only
  (repeat' split)
  · exact ((quietTest_keptOrSwapped (takeOrder s).2).after horder).before (by simp)
  · exact (quietTest_keptOrSwapped (switchToFast (takeOrder s).2)).after horder
  · exact (quietTest_keptOrSwapped (switchToFast s)).after rfl
  · exact quietTest_keptOrSwapped s

theorem slowPass_keptOrSwapped (raw : BitVec 128) (s : State) : KeptOrSwapped s (slowPass raw s) := by
  refine (slowBoundary_keptOrSwapped _ _).after ?_
  rw [storeSamples_profile]
  exact foldl_keeps _ State.profile (by simp) _ _

/-! ### Every other event (R92) -/

theorem endClearing_profile (s : State) : (endClearing s).profile = s.profile := by
  unfold endClearing
  split <;> rfl

/-- An event that is neither a part start nor a pass leaves the active profile. -/
theorem effect_active {c : Instr} (s : State) (hstart : mayStart c = false)
    (hpass : ¬∃ raw, c = .fastPass raw ∨ c = .slowPass raw) : (effect c s).profile.active = s.profile.active := by
  cases c with
  | functionReset _ | interruptEnableWrite _ | registerWriteIgnored _ _ _ | supplyDipStart | coldStart _ => cases hstart
  | fastPass levels | slowPass levels => exact absurd ⟨levels, by simp⟩ hpass
  | clearingEnd => simp [effect, endClearing_profile]
  | _ => simp [effect]

/-- A pass puts no profile in force but the one staged when it began: the takes that follow leave the active profile. -/
theorem effect_pass_keptOrSwapped {c : Instr} (s : State) (hpass : ∃ raw, c = .fastPass raw ∨ c = .slowPass raw) :
    KeptOrSwapped s (effect c s) := by
  obtain ⟨levels, rfl | rfl⟩ := hpass
  · exact (fastPass_keptOrSwapped (rawOfLevels levels) s).before (by simp [effect])
  · exact (slowPass_keptOrSwapped (rawOfLevels levels) s).before (by simp [effect])

end

/-- Settles O16: beside the starts a pass alone moves the active profile, and only to the staged one. -/
theorem onlyStartsAndSwapsChangeTheProfile : Obligations.OnlyStartsAndSwapsChangeTheProfile := by
  intro c s t ht hchanged
  obtain rfl | rfl := exec_next ht
  · exact absurd rfl hchanged
  · cases hstart : mayStart c
    · by_cases hpass : ∃ raw, c = .fastPass raw ∨ c = .slowPass raw
      · exact .inr ⟨hpass, (effect_pass_keptOrSwapped s hpass).resolve_left hchanged⟩
      · exact absurd (effect_active s hstart hpass) hchanged
    · exact .inl rfl

end Sys2Proof.Machine
end

section
/-! PROOFS. The image of a profile: its class bytes, its numbers and its drive-permitted set (R93 to R95, section 1.8.5). -/

namespace Sys2Proof.Machine

/-! ### Class bytes (R94) -/

/-- The byte that stands for a class. -/
def classCode : KeyClass → Byte
  | .none => 0
  | .plain => 1
  | .repeating => 2
  | .hold => 3
  | .modifier r => 0x10 + BitVec.ofNat 8 r.val

theorem classOfByte_eq_some {b : Byte} {c : KeyClass} (h : classOfByte b = some c) : b = classCode c := by
  unfold classOfByte at h
  split_ifs at h with h0 h1 h2 h3 hrole <;> cases h
  · exact h0
  · exact h1
  · exact h2
  · exact h3
  · have hlo : 0x10 ≤ b.toNat := BitVec.le_def.mp hrole.1
    have hhi : b.toNat ≤ 0x17 := BitVec.le_def.mp hrole.2
    have hmod : (b.toNat - 0x10) % 8 = b.toNat - 0x10 := by omega
    simp only [classCode, Fin.ofNat, hmod]
    bv_omega

theorem classOfByte_isSome_iff (b : Byte) :
    (classOfByte b).isSome = true ↔ b ≤ 3 ∨ (0x10 ≤ b ∧ b ≤ 0x17) := by
  have hlow : b ≤ 3 ↔ b = 0 ∨ b = 1 ∨ b = 2 ∨ b = 3 := by bv_omega
  rw [hlow]
  unfold classOfByte
  (repeat' split) <;> simp_all

/-- The classes of a run of bytes are there when each byte names one. -/
theorem classesOfBytes_isSome_iff (bs : List Byte) :
    (classesOfBytes bs).isSome = true ↔ ∀ b ∈ bs, (classOfByte b).isSome = true := by
  induction bs with
  | nil => simp [classesOfBytes]
  | cons b bs ih =>
    rw [List.forall_mem_cons, ← ih, classesOfBytes]
    cases classOfByte b <;> cases classesOfBytes bs <;> simp

/-- The classes stand in the order of their bytes. -/
theorem classesOfBytes_getD {bs : List Byte} {cs : List KeyClass} (h : classesOfBytes bs = some cs) {i : Nat}
    (hi : i < bs.length) : bs.getD i 0 = classCode (cs.getD i .none) := by
  induction bs generalizing cs i with
  | nil => cases hi
  | cons b bs ih =>
    unfold classesOfBytes at h
    split at h
    · next hb hbs =>
      cases h
      cases i with
      | zero => exact classOfByte_eq_some hb
      | succ i => exact ih hbs (Nat.lt_of_succ_lt_succ hi)
    · cases h

/-! ### The drive-permitted set -/

/-- The number whose byte `i`, the least significant first, is `f i`, of `n` bytes. -/
def bytesSum (f : Nat → Byte) (n : Nat) : Nat := (List.range n).foldl (fun acc i => acc + (f i).toNat * 2 ^ (8 * i)) 0

theorem imageDriveSet_eq (image : List Byte) :
    imageDriveSet image = BitVec.ofNat 128 (bytesSum (fun i => param8 image (0x10 + i)) 16) := rfl

theorem bytesSum_succ (f : Nat → Byte) (n : Nat) :
    bytesSum f (n + 1) = 2 ^ (8 * n) * (f n).toNat + bytesSum f n := by
  simp only [bytesSum, List.range_succ, List.foldl_append, List.foldl_cons, List.foldl_nil]
  ring

theorem bytesSum_lt (f : Nat → Byte) (n : Nat) : bytesSum f n < 2 ^ (8 * n) := by
  induction n with
  | zero => exact Nat.one_pos
  | succ n ih =>
    have hbyte := (f n).isLt
    have hpow : 2 ^ (8 * (n + 1)) = 2 ^ (8 * n) * 256 := by rw [Nat.mul_succ, pow_add]; rfl
    rw [bytesSum_succ, hpow]
    nlinarith

/-- Bit `i` of the number is bit `i mod 8` of its byte `i div 8`. -/
theorem testBit_bytesSum (f : Nat → Byte) {n i : Nat} (hi : i < 8 * n) :
    (bytesSum f n).testBit i = (f (i / 8)).getLsbD (i % 8) := by
  induction n with
  | zero => omega
  | succ n ih =>
    rw [bytesSum_succ, Nat.testBit_two_pow_mul_add _ (bytesSum_lt f n)]
    split
    · next hlow => exact ih hlow
    · next hhigh =>
      have hdiv : i / 8 = n := by omega
      have hmod : i % 8 = i - 8 * n := by omega
      rw [hdiv, hmod, BitVec.getLsbD]

theorem imageDriveSet_getLsbD (image : List Byte) (p : Fin 128) :
    (imageDriveSet image).getLsbD p.val = (param8 image (0x10 + p.val / 8)).getLsbD (p.val % 8) := by
  rw [imageDriveSet_eq, BitVec.getLsbD_ofNat, testBit_bytesSum _ (by omega)]
  simp

/-! ### Numbers out of their range (R95) -/

theorem outside_iff (lo hi v : Nat) : outside lo hi v = true ↔ v < lo ∨ hi < v := by simp [outside]

theorem outsideOrZero_iff (lo hi v : Nat) : outsideOrZero lo hi v = true ↔ v ≠ 0 ∧ (v < lo ∨ hi < v) := by
  simp [outsideOrZero, outside]

theorem byte_toNat_eq_zero (b : Byte) : b.toNat = 0 ↔ b = 0 := by bv_omega

/-! ### The image as it stands in the Profile Area (R93) -/

theorem Memory.take_drop_reads (m : Memory) (a : Nat) {n d k : Nat} (h : d + k ≤ n) :
    ((m.reads a n).drop d).take k = m.reads (a + d) k := by
  refine List.ext_getElem (by simp [Memory.reads]; omega) fun i _ _ => ?_
  simp [Memory.reads, Nat.add_assoc]

section
variable {s : State} {offset o : Nat}

theorem param8_profileImage (ho : o < 416) : param8 (profileImage offset s) o = s.mem.read (0x1500 + offset + o) :=
  param8_reads s.mem _ ho

theorem param16_profileImage (ho : o + 1 < 416) : param16 (profileImage offset s) o = s.mem.half (0x1500 + offset + o) :=
  param16_reads s.mem _ ho

theorem imageClasses_profileImage :
    imageClasses (profileImage offset s) = classesOfBytes (s.mem.reads (0x1500 + offset + 0x20) 128) :=
  congrArg classesOfBytes (Memory.take_drop_reads s.mem _ (by omega))

theorem imageClasses_isSome_iff : (imageClasses (profileImage offset s)).isSome = true ↔
    ∀ p, p < 128 → s.mem.read (0x1500 + offset + (0x20 + p)) ≤ 3 ∨
      (0x10 ≤ s.mem.read (0x1500 + offset + (0x20 + p)) ∧ s.mem.read (0x1500 + offset + (0x20 + p)) ≤ 0x17) := by
  rw [imageClasses_profileImage, classesOfBytes_isSome_iff]
  simp only [classOfByte_isSome_iff, Memory.reads, List.forall_mem_map, List.mem_range, Nat.add_assoc]

theorem imageClasses_getD {cs : List KeyClass} (h : imageClasses (profileImage offset s) = some cs) (p : Fin 128) :
    s.mem.read (0x1500 + offset + (0x20 + p.val)) = classCode (cs.getD p.val .none) := by
  rw [imageClasses_profileImage] at h
  have hcode := classesOfBytes_getD h (i := p.val) (by simp [Memory.reads])
  simpa [Memory.reads, Nat.add_assoc] using hcode

/-- The CLAMPED mark: a number of the image, or the wait limit, lies outside its range (R95). -/
theorem imageClamped_iff (limit : Nat) : imageClamped (profileImage offset s) limit = true ↔
    let image := fun o => s.mem.read (0x1500 + offset + o)
    let number := fun o => (s.mem.half (0x1500 + offset + o)).toNat
    let out := fun (lo hi v : Nat) => v < lo ∨ hi < v
    out 2 12 (image 2).toNat ∨ out 0 (clampTo 2 12 (image 2).toNat - 1) (image 3).toNat ∨
      (image 6 ≠ 0 ∧ out 5 120 (image 6).toNat) ∨ out 100 2000 (number 8) ∨ out 20 500 (number 10) ∨
      out 200 5000 (number 12) ∨ out 100 10000 limit := by
  simp only [imageClamped, param8_profileImage, param16_profileImage, Nat.reduceLT, Nat.reduceAdd, Bool.or_eq_true,
    outside_iff, outsideOrZero_iff, ne_eq, byte_toNat_eq_zero, or_assoc]

end

/-! ### The profile of the image, field by field (R95, section 1.8.5) -/

section
variable {s : State} {offset : Nat} {cs : List KeyClass}

theorem imageProfile_tag : (imageProfile (profileImage offset s) cs).tag = s.mem.half (0x1500 + offset) :=
  param16_profileImage (o := 0) (by omega)

theorem imageProfile_pressBase : (imageProfile (profileImage offset s) cs).pressBase =
    max 2 (min 12 (s.mem.read (0x1500 + offset + 2)).toNat) := by
  rw [imageProfile, param8_profileImage (by omega)]
  rfl

/-- Rb is brought below P as staged (R95). -/
theorem imageProfile_releaseBase : (imageProfile (profileImage offset s) cs).releaseBase =
    min ((imageProfile (profileImage offset s) cs).pressBase - 1) (s.mem.read (0x1500 + offset + 3)).toNat := by
  rw [← param8_profileImage (by omega)]
  exact Nat.zero_max _

theorem imageProfile_adaptation : (imageProfile (profileImage offset s) cs).adaptation = true ↔
    s.mem.read (0x1500 + offset + 4) ≠ 0 := by
  rw [← param8_profileImage (by omega)]
  exact bne_iff_ne

theorem imageProfile_stuckLimit : (imageProfile (profileImage offset s) cs).stuckLimit =
    if s.mem.read (0x1500 + offset + 6) = 0 then 0 else max 5 (min 120 (s.mem.read (0x1500 + offset + 6)).toNat) := by
  rw [← param8_profileImage (by omega)]
  simp only [imageProfile, clampOrZero, byte_toNat_eq_zero, clampTo]

theorem imageProfile_repeatDelay : (imageProfile (profileImage offset s) cs).repeatDelay =
    max 100 (min 2000 (s.mem.half (0x1500 + offset + 8)).toNat) := by
  rw [← param16_profileImage (by omega)]
  rfl

theorem imageProfile_repeatPeriod : (imageProfile (profileImage offset s) cs).repeatPeriod =
    max 20 (min 500 (s.mem.half (0x1500 + offset + 10)).toNat) := by
  rw [← param16_profileImage (by omega)]
  rfl

theorem imageProfile_holdTime : (imageProfile (profileImage offset s) cs).holdTime =
    max 200 (min 5000 (s.mem.half (0x1500 + offset + 12)).toNat) := by
  rw [← param16_profileImage (by omega)]
  rfl

theorem imageProfile_drivePermitted (p : Fin 128) :
    (imageProfile (profileImage offset s) cs).drivePermitted.getLsbD p.val =
      (s.mem.read (0x1500 + offset + (0x10 + p.val / 8))).getLsbD (p.val % 8) := by
  rw [← param8_profileImage (by omega)]
  exact imageDriveSet_getLsbD _ p

theorem imageProfile_usage (p : Fin 128) : (imageProfile (profileImage offset s) cs).usages.getD p.val 0 =
    s.mem.half (0x1500 + offset + 0xA0 + 2 * p.val) := by
  rw [Nat.add_assoc, ← param16_profileImage (by omega)]
  simp [imageProfile]

end

end Sys2Proof.Machine
end

section
/-! PROOFS. The take of a PROFILE slot at its POST (R93 to R96). -/

namespace Sys2Proof.Machine

section
variable {s : State} {k : Fin 16} {j : Job}

/-! ### The take -/

/-- A free PROFILE context takes a slot of its kind at the POST. -/
theorem exec_post_profile (h : Linked s) (ho : s.exch.sessionOpen = true) (hk : (slot s k).state = .free)
    (hlen : s.exch.slots.length = 16) (hq : s.exch.queue = []) (hjob : s.profile.job = none)
    (hkind : s.mem.read (0x0104 + 64 * k.val) = kindProfile) :
    exec (.post k) s = .next (takeProfile (jobAtPost k s) (takenAtPost k s)) := by
  have hqueue : (postSlot k s).exch.queue = [entryOf k s] := by simp [postSlot, hq]
  have hentry : (entryOf k s).kind = kindProfile := entryOf_kind.trans hkind
  have hsettings : settingsTake (postSlot k s) = none := by
    rw [settingsTake_eq_none, hqueue]
    simp [hentry, isSettingsKind, isProfileKind]
  have hpicture : pictureTake (postSlot k s) = none := by
    rw [pictureTake_eq_none, hqueue]
    simp [hentry, isPictureKind, kindProfile, kindCopy, kindFill, kindPresent]
  have hnext : nextProfile (postSlot k s) = some (entryOf k s) := by
    rw [nextProfile, hqueue, List.filter_cons_of_pos (by simp [hentry, isProfileKind]), List.filter_nil,
      firstChoice_single]
  have htake : profileTake (postSlot k s) = some (takeByProfile (entryOf k s) (postSlot k s)) := by
    simp [profileTake, profileFree, hjob, hnext]
  rw [exec_post h ho hk, look_single hqueue, oneTake, hsettings, hpicture, htake, Option.none_or, Option.none_or,
    Option.getD_some, takeByProfile, activate_postSlot hlen hq, jobOf_postSlot]

theorem validImageOffset_iff (offset : Nat) :
    validImageOffset offset = true ↔ offset = 0 ∨ offset = 512 ∨ offset = 1024 ∨ offset = 1536 := by
  simp [validImageOffset, or_assoc]

/-- A wrong offset, or a class byte that names no class, ends the request in its take (R93, steps 1 and 3). -/
theorem takeProfile_fails
    (h : validImageOffset (profileImageOffset j.params) = true →
      imageClasses (profileImage (profileImageOffset j.params) s) = none) :
    takeProfile j s = completeJob j .badParam 0 0 s := by
  unfold takeProfile
  dsimp only
  split
  · rfl
  · next hoffset =>
    rw [h (by simpa using hoffset)]
    rfl

/-- Any other request is staged, and its slot stays with the context (R93, steps 4 and 5). -/
theorem takeProfile_stages {cs : List KeyClass} (hoffset : validImageOffset (profileImageOffset j.params) = true)
    (hclasses : imageClasses (profileImage (profileImageOffset j.params) s) = some cs) :
    takeProfile j s =
      let image := profileImage (profileImageOffset j.params) s
      let limit := profileWaitLimit j.params
      { s with profile := ⟨s.profile.active,
        some ⟨imageProfile image cs, imageClamped image limit, after s (waitStaged limit)⟩, some j⟩ } := by
  unfold takeProfile
  dsimp only
  rw [if_neg (by simp [hoffset]), hclasses]

/-! ### The request's two parameters -/

theorem profileImageOffset_jobAtPost :
    profileImageOffset (jobAtPost k s).params = (s.mem.half (0x011C + 64 * k.val)).toNat :=
  congrArg BitVec.toNat (param16_reads s.mem _ (by omega))

theorem profileWaitLimit_jobAtPost :
    profileWaitLimit (jobAtPost k s).params = (s.mem.half (0x011E + 64 * k.val)).toNat := by
  rw [profileWaitLimit, jobAtPost, param16_reads _ _ (by omega), Nat.add_right_comm]

end

/-- Settles O40: the take by its checks, and the staged profile field by field from the image as it stands. -/
theorem profileRequestIsStaged : Obligations.ProfileRequestIsStaged := by
  intro s k hinv h ho hk hq hjob _ hkind offset limit image number validClass valid out
  have hexec := exec_post_profile h ho hk hinv.slots hq hjob hkind
  have hoffset : profileImageOffset (jobAtPost k s).params = offset := profileImageOffset_jobAtPost
  have hlimit : profileWaitLimit (jobAtPost k s).params = limit := profileWaitLimit_jobAtPost
  have hvalid : valid ↔ validImageOffset offset = true ∧ (imageClasses (profileImage offset s)).isSome = true :=
    and_congr (validImageOffset_iff offset).symm imageClasses_isSome_iff.symm
  refine ⟨_, hexec, ?_⟩
  by_cases hgood : valid
  · obtain ⟨hplace, hsome⟩ := hvalid.mp hgood
    obtain ⟨cs, hcs⟩ := Option.isSome_iff_exists.mp hsome
    have hranges : ProfileRanges (imageProfile (profileImage offset s) cs) :=
      imageProfile_ranges _ (imageClasses_length (by simp [profileImage, Memory.reads]) hcs)
    rw [takeProfile_stages (s := takenAtPost k s) (hoffset ▸ hplace) (hoffset ▸ hcs), hoffset, hlimit]
    have himage : profileImage offset (takenAtPost k s) = profileImage offset s := rfl
    rw [himage]
    refine ⟨rfl, rfl, fun hbad => absurd hgood hbad, fun _ => ⟨?_, rfl, _, rfl, hranges, rfl, imageProfile_tag,
      imageProfile_pressBase, imageProfile_releaseBase, imageProfile_adaptation, imageProfile_stuckLimit,
      imageProfile_repeatDelay, imageProfile_repeatPeriod, imageProfile_holdTime, ?_, fun p =>
        ⟨imageProfile_drivePermitted p, imageProfile_usage p, imageClasses_getD hcs p⟩⟩⟩
    · exact congrArg SlotRec.state (slot_setSlot_same k _ s hinv.slots)
    · rw [imageProfile_pressBase]
      exact imageClamped_iff limit
  · have hfails : takeProfile (jobAtPost k s) (takenAtPost k s) = _ := takeProfile_fails fun hplace => by
      rw [hoffset] at hplace ⊢
      exact Option.not_isSome_iff_eq_none.mp fun hsome => hgood (hvalid.mpr ⟨hplace, hsome⟩)
    obtain ⟨hends, hframe, -, -⟩ := completeJob_takenAtPost (k := k) hinv.slots .badParam 0
    have hprofile := congrArg State.profile hframe
    rw [hfails]
    exact ⟨hframe.trans (by rw [hprofile]), congrArg ProfileUnit.active hprofile, fun _ => ⟨hprofile, hends⟩,
      fun hin => absurd hin hgood⟩

end Sys2Proof.Machine
end

section
/-! PROOFS. The reads of a HOST row (R113). -/

namespace Sys2Proof.Machine

/-! ### Reads one after another -/

/-- Legal reads that lie one after another over `len` bytes, from an address and a place in the row on (R113). -/
def Tiles : List ReadPlan → (address place len : Nat) → Prop
  | [], _, _, len => len = 0
  | r :: rs, address, place, len =>
    (r.address = BitVec.ofNat 64 address ∧ r.place = place ∧ 0 < r.len ∧ r.len ≤ len ∧ r.legal) ∧
      Tiles rs (address + r.len) (place + r.len) (len - r.len)

theorem Tiles.append {l l' : List ReadPlan} {a p n n' : Nat} (h : Tiles l a p n) (h' : Tiles l' (a + n) (p + n) n') :
    Tiles (l ++ l') a p (n + n') := by
  induction l generalizing a p n with
  | nil => simpa [show n = 0 from h] using h'
  | cons r l ih =>
    obtain ⟨⟨haddress, hplace, hpos, hle, hlegal⟩, hrest⟩ := h
    refine ⟨⟨haddress, hplace, hpos, by omega, hlegal⟩, ?_⟩
    rw [show n + n' - r.len = n - r.len + n' by omega]
    refine ih hrest ?_
    rwa [show a + r.len + (n - r.len) = a + n by omega, show p + r.len + (n - r.len) = p + n by omega]

/-- A read is legal by its address before it is brought into 64 bits: 4096 divides 2^64. -/
theorem legal_of_address {a p n : Nat} (hn : n ≤ 256) (h : a % 4096 + n ≤ 4096) :
    ReadPlan.legal ⟨BitVec.ofNat 64 a, p, n⟩ := by
  refine ⟨hn, ?_⟩
  change (BitVec.ofNat 64 a).toNat % 4096 + n ≤ 4096
  rw [BitVec.toNat_ofNat]
  omega

/-- A part of at most 256 bytes is one read, or two that meet at the page boundary. -/
theorem splitRead_tiles {a p n : Nat} (hpos : 0 < n) (hn : n ≤ 256) : Tiles (splitRead a p n) a p n := by
  unfold splitRead
  dsimp only
  split
  · exact ⟨⟨rfl, rfl, hpos, Nat.le_refl n, legal_of_address hn (by omega)⟩, Nat.sub_self n⟩
  · have hfirst := legal_of_address (a := a) (p := p) (n := 4096 - a % 4096) (by omega) (by omega)
    have hsecond := legal_of_address (a := a + (4096 - a % 4096)) (p := p + (4096 - a % 4096))
      (n := n - (4096 - a % 4096)) (by omega) (by omega)
    have hroom : 0 < 4096 - a % 4096 := by omega
    have hcross : 4096 - a % 4096 < n := by omega
    exact ⟨⟨rfl, rfl, hroom, hcross.le, hfirst⟩, ⟨rfl, rfl, Nat.sub_pos_of_lt hcross, Nat.le_refl _, hsecond⟩,
      Nat.sub_self _⟩

/-- The reads of a row lie one after another over its bytes. -/
theorem planReads_tiles {fuel a p n : Nat} (h : n ≤ fuel) : Tiles (planReads fuel a p n) a p n := by
  induction fuel generalizing a p n with
  | zero => exact Nat.le_zero.mp h
  | succ fuel ih =>
    unfold planReads
    split
    · next h0 => exact h0
    · next h0 =>
      dsimp only
      have hpart : min n Config.readBytes = min n 256 := rfl
      have htiles := (splitRead_tiles (a := a) (p := p) (n := min n Config.readBytes) (by omega) (by omega)).append
        (ih (n := n - min n Config.readBytes) (by omega))
      rwa [Nat.add_sub_cancel' (Nat.min_le_left _ _)] at htiles

/-! ### What such reads cover -/

section
variable {l : List ReadPlan} {a p n : Nat}

theorem Tiles.within (h : Tiles l a p n) : ∀ r ∈ l, r.legal ∧ 0 < r.len ∧ p ≤ r.place ∧ r.place + r.len ≤ p + n ∧
    r.address = BitVec.ofNat 64 (a + (r.place - p)) := by
  induction l generalizing a p n with
  | nil => simp
  | cons q l ih =>
    obtain ⟨⟨haddress, hplace, hpos, hle, hlegal⟩, hrest⟩ := h
    intro r hr
    obtain rfl | hr := List.mem_cons.mp hr
    · exact ⟨hlegal, hpos, hplace.ge, by omega, by rw [haddress, hplace, Nat.sub_self, Nat.add_zero]⟩
    · obtain ⟨hlegal', hpos', hlow, hhigh, haddress'⟩ := ih hrest r hr
      refine ⟨hlegal', hpos', by omega, by omega, ?_⟩
      rw [haddress', show a + q.len + (r.place - (p + q.len)) = a + (r.place - p) by omega]

theorem Tiles.ordered (h : Tiles l a p n) : l.Pairwise fun r r' => r.place < r'.place := by
  induction l generalizing a p n with
  | nil => exact .nil
  | cons q l ih =>
    obtain ⟨⟨-, hplace, hpos, -, -⟩, hrest⟩ := h
    refine .cons (fun r hr => ?_) (ih hrest)
    obtain ⟨-, -, hlow, -, -⟩ := hrest.within r hr
    omega

/-- Every byte lies in exactly one of the reads. -/
theorem Tiles.cover (h : Tiles l a p n) {i : Nat} (hlow : p ≤ i) (hhigh : i < p + n) :
    ∃! r, r ∈ l ∧ r.place ≤ i ∧ i < r.place + r.len := by
  induction l generalizing a p n with
  | nil =>
    have : n = 0 := h
    omega
  | cons q l ih =>
    obtain ⟨⟨-, hplace, -, hle, -⟩, hrest⟩ := h
    by_cases hi : i < p + q.len
    · refine ⟨q, ⟨List.mem_cons_self, by omega, by omega⟩, ?_⟩
      rintro r ⟨hr, hstart, -⟩
      obtain rfl | hr := List.mem_cons.mp hr
      · rfl
      · obtain ⟨-, -, hafter, -, -⟩ := hrest.within r hr
        omega
    · obtain ⟨r, ⟨hr, hin⟩, honly⟩ := ih hrest (by omega) (by omega)
      refine ⟨r, ⟨List.mem_cons_of_mem q hr, hin⟩, ?_⟩
      rintro r' ⟨hr', hin'⟩
      obtain rfl | hr' := List.mem_cons.mp hr'
      · omega
      · exact honly r' ⟨hr', hin'⟩

end

/-- Settles O44: the reads lie one after another, so each is within the limits and every byte is in exactly one. -/
theorem rowReadsCoverTheRow : Obligations.RowReadsCoverTheRow := by
  intro address len
  have h := planReads_tiles (a := address) (p := 0) (Nat.le_refl len)
  refine ⟨fun r hr => ?_, fun i hi => h.cover (Nat.zero_le i) (by omega), h.ordered⟩
  obtain ⟨hlegal, hpos, -, hhigh, haddress⟩ := h.within r hr
  exact ⟨hlegal, hpos, by omega, haddress⟩

end Sys2Proof.Machine
end

section
/-! PROOFS. What changes a frame buffer (R106, R117, R136). -/

namespace Sys2Proof.Machine

/-- The end of clearing lifts a hold and leaves the buffers. -/
theorem endClearing_get (s : State) (buf : Buffer) : (endClearing s).frames.get buf = s.frames.get buf := by
  unfold endClearing
  split
  · cases buf <;> rfl
  · rfl

/-- Frame memory stays under every effect but the two row ends, the end of clearing and the two starts that clear it. -/
theorem effect_frames {c : Instr} (s : State) (hrow : c ≠ .rowWriteComplete) (hcarry : c ≠ .carryCopyRowComplete)
    (hclear : c ≠ .clearingEnd) (hdip : c ≠ .supplyDipStart) (hcold : ∀ l, c ≠ .coldStart l) :
    (effect c s).frames = s.frames := by
  cases c with
  | rowWriteComplete => exact absurd rfl hrow
  | carryCopyRowComplete => exact absurd rfl hcarry
  | clearingEnd => exact absurd rfl hclear
  | supplyDipStart => exact absurd rfl hdip
  | coldStart l => exact absurd rfl (hcold l)
  | _ => simp [effect, startConversion]

/-- Settles O13: the effects that leave frame memory, and the end of clearing, which leaves its buffers. -/
theorem onlyRowEndsWriteFrameMemory : Obligations.OnlyRowEndsWriteFrameMemory := by
  intro c s t ht hrow hcarry hdip hcold
  have hget : ∀ buf, t.frames.get buf = s.frames.get buf := fun buf => by
    obtain rfl | rfl := exec_next ht
    · rfl
    · by_cases hclear : c = .clearingEnd
      · subst hclear
        simp only [effect, look_keeps]
        exact endClearing_get s buf
      · rw [effect_frames s hrow hcarry hclear hdip hcold]
  exact ⟨hget .a, hget .b, hget .standby⟩

end Sys2Proof.Machine
end

section
/-! PROOFS. The reads of tablet memory stay within their limits under the operations of every block (R113). -/

namespace Sys2Proof.Machine

/-- The engine's part of `ReadsInv`: at most 8 reads outstanding, and every read, issued or not, a legal one (R113). -/
def LegalReads (p : Picture) : Prop :=
  p.reads.length ≤ 8 ∧ (∀ r ∈ p.reads, r.plan.legal) ∧ ∀ r ∈ p.toIssue, r.legal

theorem readsInv_iff (s : State) : ReadsInv s ↔ LegalReads s.picture :=
  ⟨fun h => ⟨h.most, h.issued, h.planned⟩, fun ⟨hmost, hissued, hplanned⟩ => ⟨hmost, hissued, hplanned⟩⟩

/-- With no read at all nothing is illegal: after a start, at rest, and while a row is written (R122). -/
theorem LegalReads.empty {p : Picture} (hreads : p.reads = []) (hplans : p.toIssue = []) : LegalReads p := by
  simp [LegalReads, hreads, hplans]

section
variable {s : State}

/-! ### The Picture Engine -/

theorem stopPicture_legal (s : State) : LegalReads (stopPicture s).picture := .empty rfl rfl

theorem finishPicture_legal (code : ResultCode) (s : State) : LegalReads (finishPicture code s).picture := by
  unfold finishPicture
  split <;> exact stopPicture_legal _

theorem failPicture_legal (s : State) : LegalReads (failPicture s).picture := by
  unfold failPicture
  split
  · exact stopPicture_legal s
  · exact finishPicture_legal _ s

theorem startWrite_legal (px : List Half) (s : State) : LegalReads (startWrite px s).picture := .empty rfl rfl

/-- Of legal plans only as many are issued as 8 reads outstanding allow. -/
theorem issueReads_legal {rs : List ReadPlan} (hplans : ∀ r ∈ rs, r.legal) (hmost : s.picture.reads.length ≤ 8)
    (hissued : ∀ r ∈ s.picture.reads, r.plan.legal) : LegalReads (issueReads rs s).picture := by
  induction rs generalizing s with
  | nil => exact ⟨hmost, hissued, hplans⟩
  | cons r rs ih =>
    obtain ⟨hr, hrs⟩ := List.forall_mem_cons.mp hplans
    unfold issueReads
    split
    · exact ⟨hmost, hissued, hplans⟩
    · next hroom =>
      have hroom : s.picture.reads.length < 8 := Nat.lt_of_not_le hroom
      split
      · exact failPicture_legal s
      · refine ih hrs ?_ ?_
        · simpa using hroom
        · simpa [or_imp, forall_and] using And.intro hissued hr

theorem startHostFetch_legal (s : State) : LegalReads (startHostFetch s).picture :=
  issueReads_legal (fun r hr => ((planReads_tiles (Nat.le_refl _)).within r hr).1) (Nat.zero_le 8) (by simp)

theorem beginRow_legal (s : State) : LegalReads (beginRow s).picture := by
  unfold beginRow
  dsimp only
  (repeat' split)
  · exact startWrite_legal _ s
  · exact startHostFetch_legal s
  · exact startWrite_legal _ s

theorem pictureBoundary_legal (h : LegalReads s.picture) : LegalReads (pictureBoundary s).picture := by
  unfold pictureBoundary
  (repeat' split)
  · exact stopPicture_legal s
  · exact finishPicture_legal _ s
  · exact finishPicture_legal _ s
  · exact h
  · exact beginRow_legal s

theorem resumePicture_legal (h : LegalReads s.picture) : LegalReads (resumePicture s).picture := by
  unfold resumePicture
  split
  · exact pictureBoundary_legal h
  · exact h

theorem endFetch_legal (h : LegalReads s.picture) : LegalReads (endFetch s).picture := by
  unfold endFetch
  split
  · exact startWrite_legal _ s
  · exact h

theorem takeCompletion_legal (r : Read) (place : Nat) (data : List Byte) (h : LegalReads s.picture) :
    LegalReads (takeCompletion r place data s).picture := by
  obtain ⟨hmost, hissued, hplanned⟩ := h
  unfold takeCompletion
  dsimp only
  split
  · refine endFetch_legal (issueReads_legal hplanned ?_ fun q hq => hissued q (List.mem_of_mem_filter hq))
    exact (List.length_filter_le _ _).trans hmost
  · exact ⟨hmost, hissued, hplanned⟩

theorem hostCompletion_legal (tag place : Nat) (data : List Byte) (error poisoned : Bool) (h : LegalReads s.picture) :
    LegalReads (hostCompletion tag place data error poisoned s).picture := by
  unfold hostCompletion
  (repeat' split)
  · exact h
  · exact h
  · exact failPicture_legal s
  · exact takeCompletion_legal _ place data h

theorem hostTimeout_legal (tag : Nat) (h : LegalReads s.picture) : LegalReads (hostTimeout tag s).picture := by
  unfold hostTimeout
  (repeat' split)
  · exact h
  · exact failPicture_legal s
  · exact h

theorem rowWritten_legal (h : LegalReads s.picture) : LegalReads (rowWritten s).picture := by
  unfold rowWritten
  split
  · exact pictureBoundary_legal h
  · exact h

theorem abandonPicture_legal (h : LegalReads s.picture) : LegalReads (abandonPicture s).picture := by
  unfold abandonPicture
  split
  · exact h
  · exact stopPicture_legal s
  · exact h
  · exact h

theorem giveUpReads_legal (h : LegalReads s.picture) : LegalReads (giveUpReads s).picture := by
  unfold giveUpReads
  split
  · exact stopPicture_legal s
  · exact h

theorem takePicture_legal (j : Job) (fill : Bool) (h : LegalReads s.picture) :
    LegalReads (takePicture j fill s).picture := by
  have hstart : LegalReads (startPicture j fill s).picture := by
    unfold startPicture
    dsimp only
    split
    · simpa using h
    · exact pictureBoundary_legal (.empty rfl rfl)
  unfold takePicture
  generalize (if fill then checkFill j.params else checkCopy j.params) = checked
  cases checked with
  | ends code => simpa using h
  | goesOn => exact hstart

/-! ### PRESENT and the panel: the engine lets its slot go, and no more -/

theorem finishPresent_legal (code : ResultCode) (count : Nat) (h : LegalReads s.picture) :
    LegalReads (finishPresent code count s).picture := by
  unfold finishPresent
  split
  · exact h
  · simp only [activity_keeps, completeJob_keeps]
    exact h

theorem carryBoundary_legal (c : Carry) (h : LegalReads s.picture) : LegalReads (carryBoundary c s).picture := by
  unfold carryBoundary
  dsimp only
  split
  · exact h
  · split
    · split
      · exact h
      · exact finishPresent_legal _ _ h
    · split <;> exact h

theorem carryRowDone_legal (h : LegalReads s.picture) : LegalReads (carryRowDone s).picture := by
  unfold carryRowDone
  (repeat' split)
  · exact h
  · exact carryBoundary_legal _ h
  · exact h

theorem resumePictures_legal (h : LegalReads s.picture) : LegalReads (resumePictures s).picture := by
  have hpicture := resumePicture_legal h
  unfold resumePictures resumeCarry
  (repeat' split)
  · exact hpicture
  · exact carryBoundary_legal _ hpicture
  · exact hpicture

theorem swap_legal (carry : Bool) (h : LegalReads s.picture) : LegalReads (swap carry s).picture := by
  unfold swap
  dsimp only
  split
  · exact carryBoundary_legal _ h
  · exact finishPresent_legal _ _ h

theorem swapWaiting_legal (h : LegalReads s.picture) : LegalReads (swapWaiting s).picture := by
  unfold swapWaiting
  split
  · exact h
  · exact swap_legal _ h

theorem takePresent_legal (j : Job) (s : State) : LegalReads (takePresent j s).picture := by
  unfold takePresent
  dsimp only
  split
  · exact .empty rfl rfl
  · exact swap_legal _ (.empty rfl rfl)

theorem panelTest_legal (h : LegalReads s.picture) : LegalReads (panelTest s).picture := by
  have hstop : ∀ st, LegalReads (stopPanel st s).picture := fun st => by
    simp only [stopPanel, recompute_keeps]
    exact swapWaiting_legal h
  unfold panelTest
  (repeat' split)
  · simpa using h
  · exact h
  · exact h
  · exact hstop _
  · exact h
  · exact hstop _
  · exact h

theorem stageExpiry_legal (h : LegalReads s.picture) : LegalReads (stageExpiry s).picture := by
  unfold stageExpiry
  split
  · exact h
  · split
    · split
      · exact h
      · exact h
      · simpa using h
      · exact h
      · exact h
      · exact panelTest_legal (by simpa [restPanel] using h)
    · exact h

theorem verticalBlank_legal (h : LegalReads s.picture) : LegalReads (verticalBlank s).picture := by
  unfold verticalBlank
  split
  · exact swapWaiting_legal h
  · exact h

/-! ### The Power Manager -/

theorem enterStandby_legal (h : LegalReads s.picture) : LegalReads (enterStandby s).picture := by
  simp only [enterStandby, recompute_keeps, finishPanel_keeps]
  exact panelTest_legal (by simpa using h)

theorem wake_legal (w : WakeSource) (h : LegalReads s.picture) : LegalReads (wake w s).picture := by
  simp only [wake, scannerWake_keeps]
  refine resumePictures_legal ?_
  simp only [recompute_keeps, idleRestart_keeps]
  refine panelTest_legal ?_
  split <;> simpa using h

theorem wakeSource_legal (w : WakeSource) (h : LegalReads s.picture) : LegalReads (wakeSource w s).picture := by
  unfold wakeSource
  split
  · exact wake_legal w h
  · exact h

theorem ignitionOff_legal (h : LegalReads s.picture) : LegalReads (ignitionOff s).picture := by
  unfold ignitionOff
  (repeat' split)
  · exact h
  · exact enterStandby_legal h
  · exact h

theorem lingerRetime_legal (h : LegalReads s.picture) : LegalReads (lingerRetime s).picture := by
  unfold lingerRetime
  (repeat' split)
  · exact h
  · exact enterStandby_legal h
  · exact h

theorem lingerExpiry_legal (h : LegalReads s.picture) : LegalReads (lingerExpiry s).picture := by
  unfold lingerExpiry
  split
  · exact enterStandby_legal h
  · exact h

theorem sample_legal (mv : Nat) (h : LegalReads s.picture) : LegalReads (sample mv s).picture := by
  unfold sample
  dsimp only
  split
  · exact h
  · exact resumePictures_legal (by simpa using h)

/-! ### The key path -/

theorem pressCases_legal (p : Fin 128) (h : LegalReads s.picture) : LegalReads (pressCases p s).picture := by
  have hwake := wakeSource_legal (.key p) h
  unfold pressCases
  dsimp only
  (repeat' split)
  · exact hwake
  · simpa using hwake
  · simpa using h

theorem pressActivity_legal (found : State) (h : LegalReads s.picture) :
    LegalReads (pressActivity found s).picture := by
  unfold pressActivity
  dsimp only
  (repeat' split)
  · simp only [activity_keeps]
    exact lingerExpiry_legal h
  · simpa using h
  · simpa using h

theorem press_legal (p : Fin 128) (h : LegalReads s.picture) : LegalReads (press p s).picture := by
  unfold press
  split
  · exact pressActivity_legal s (pressCases_legal p h)
  · exact h

theorem presses_legal (ps : List (Fin 128)) (h : LegalReads s.picture) :
    LegalReads (ps.foldl (fun s p => press p s) s).picture := by
  induction ps generalizing s with
  | nil => exact h
  | cons p ps ih => exact ih (press_legal p h)

theorem releases_legal (ps : List (Fin 128)) (h : LegalReads s.picture) :
    LegalReads (ps.foldl (fun s p => release p s) s).picture := by
  induction ps generalizing s with
  | nil => exact h
  | cons p ps ih => exact ih (by simpa using h)

theorem fastPass_legal (raw : BitVec 128) (h : LegalReads s.picture) : LegalReads (fastPass raw s).picture := by
  simp only [fastPass, quietTest_keeps, countIdle_keeps, countWindow_keeps, fastPassDecide, storeSamples_picture]
  exact presses_legal _ (releases_legal _ h)

/-! ### The contexts -/

theorem applyWish_legal (wish : Bool) (h : LegalReads s.picture) : LegalReads (applyWish wish s).picture := by
  unfold applyWish
  dsimp only
  split
  · exact wakeSource_legal .host h
  · exact panelTest_legal h

theorem takePanel_legal (j : Job) (h : LegalReads s.picture) : LegalReads (takePanel j s).picture := by
  have hwish := applyWish_legal (panelWish j.params) h
  unfold takePanel
  dsimp only
  split
  · simpa using hwish
  · exact hwish

theorem takeSettings_legal (j : Job) (h : LegalReads s.picture) : LegalReads (takeSettings j s).picture := by
  unfold takeSettings
  (repeat' split)
  · simpa using h
  · simpa using h
  · exact lingerRetime_legal h
  · exact takePanel_legal j h
  · simpa using h

theorem takeByPicture_legal (e : Entry) (h : LegalReads s.picture) : LegalReads (takeByPicture e s).picture := by
  unfold takeByPicture
  dsimp only
  split
  · exact takePresent_legal _ _
  · exact takePicture_legal _ _ (by simpa using h)

theorem oneTake_legal {t : State} (ht : oneTake s = some t) (h : LegalReads s.picture) : LegalReads t.picture := by
  obtain ⟨-, e, -, rfl⟩ | ⟨-, -, e, -, rfl⟩ | ⟨-, e, -, rfl⟩ := oneTake_cases ht
  · exact takeSettings_legal _ (by simpa using h)
  · exact takeByPicture_legal e h
  · simpa using h

theorem look_legal (h : LegalReads s.picture) : LegalReads (look s).picture := by
  unfold look
  generalize s.exch.queue.length = n
  induction n generalizing s with
  | zero => exact h
  | succ n ih =>
    unfold lookFor
    split
    · exact h
    · next t ht => exact ih (oneTake_legal ht h)

/-! ### The tablet's writes and the session -/

theorem endSession_legal (h : LegalReads s.picture) : LegalReads (endSession s).picture := by
  unfold endSession
  split
  · rw [closeSession_picture]
    exact abandonPicture_legal h
  · exact h

theorem sessionWrite_legal (v : Word) (h : LegalReads s.picture) : LegalReads (sessionWrite v s).picture := by
  unfold sessionWrite
  (repeat' split)
  · exact h
  · simpa using h
  · simpa using h
  · exact endSession_legal h
  · simpa using h

theorem postWrite_legal (k : Fin 16) (h : LegalReads s.picture) : LegalReads (postWrite k s).picture := by
  unfold postWrite
  split
  · exact look_legal (by simpa using h)
  · simpa using h

theorem cancelActive_legal (k : Fin 16) (h : LegalReads s.picture) : LegalReads (cancelActive k s).picture := by
  have hcancel : ∀ {u : State}, LegalReads u.picture → LegalReads (cancelPicture u).picture := fun {u} hu => by
    unfold cancelPicture
    (repeat' split)
    · exact hu
    · simp only [completeJob_keeps]
      exact hu
    · exact finishPicture_legal _ u
    · exact hu
  unfold cancelActive
  dsimp only
  (repeat' split)
  · exact hcancel (by simpa using h)
  all_goals simpa using h

theorem cancelWrite_legal (k : Fin 16) (h : LegalReads s.picture) : LegalReads (cancelWrite k s).picture := by
  unfold cancelWrite
  (repeat' split)
  · exact h
  · exact h
  · exact look_legal (by simpa using h)
  · exact look_legal (cancelActive_legal k h)
  all_goals exact h

theorem slotStateWrite_legal (k : Fin 16) (v : Word) (h : LegalReads s.picture) :
    LegalReads (slotStateWrite k v s).picture := by
  unfold slotStateWrite
  (repeat' split)
  · simpa using h
  · exact postWrite_legal k h
  · exact cancelWrite_legal k h
  · exact h

theorem guardedWrite_legal (g : Guarded) (v : Word) (h : LegalReads s.picture) :
    LegalReads (guardedWrite g v s).picture := by
  cases g with
  | session => exact sessionWrite_legal v h
  | slotState k => exact slotStateWrite_legal k v h
  | _ => simpa [guardedWrite] using h

theorem exchangeWrite_legal (w : BitVec 14) (be : BitVec 4) (v : Word) (h : LegalReads s.picture) :
    LegalReads (exchangeWrite w be v s).picture := by
  unfold exchangeWrite
  (repeat' split)
  · exact h
  · exact h
  · exact h
  · exact guardedWrite_legal _ v h
  · exact h

/-! ### Lines and link -/

theorem lineChange_legal (line : Line) (level : Bool) (h : LegalReads s.picture) :
    LegalReads (lineChange line level s).picture := by
  cases line with
  | ign =>
    simp only [lineChange, ignChange, activity_keeps]
    split
    · exact wakeSource_legal .ignitionOn (by simpa using h)
    · exact ignitionOff_legal (by simpa using h)
  | park => simpa [lineChange] using h
  | presence =>
    simp only [lineChange, presenceChange]
    split
    · exact wakeSource_legal .dockArrival h
    · exact endSession_legal h
  | latch =>
    simp only [lineChange, latchChange]
    split
    · exact wakeSource_legal .latch (by simpa using h)
    · simpa using h

theorem lineExpiry_legal (line : Line) (h : LegalReads s.picture) : LegalReads (lineExpiry line s).picture := by
  unfold lineExpiry
  dsimp only
  (repeat' split)
  · simpa using h
  · exact lineChange_legal line _ (by simpa using h)
  · exact h

theorem failFetches_legal (n : Nat) (h : LegalReads s.picture) : LegalReads (failFetches n s).picture := by
  induction n generalizing s with
  | zero => exact h
  | succ n ih =>
    cases hf : fetchesHostRow s with
    | false => rwa [failFetches_none _ hf]
    | true =>
      rw [failFetches_fetching _ hf]
      split
      · exact ih (look_legal (failPicture_legal _))
      · exact h

theorem linkDown_legal (h : LegalReads s.picture) : LegalReads (linkDown s).picture := by
  unfold linkDown
  split
  · exact giveUpReads_legal (endSession_legal (failFetches_legal _ h))
  · exact h

/-! ### The starts -/

theorem resetFunction_legal (h : LegalReads s.picture) : LegalReads (resetFunction s).picture := by
  have hwork : LegalReads (workReset s).picture := by
    simp only [workReset, stopCarry_keeps]
    exact giveUpReads_legal (abandonPicture_legal (endSession_legal h))
  simp only [resetFunction, lightFunctionReset_keeps, panelReset]
  exact panelTest_legal hwork

theorem controlWrite_legal (v : Word) (h : LegalReads s.picture) : LegalReads (controlWrite v s).picture := by
  unfold controlWrite
  dsimp only
  split
  · exact resetFunction_legal (by simpa using h)
  · simpa using h

theorem registerWrite_legal (w : BitVec 10) (be : BitVec 4) (v : Word) (h : LegalReads s.picture) :
    LegalReads (registerWrite w be v s).picture := by
  unfold registerWrite
  split
  · exact controlWrite_legal v h
  · exact h

/-! ### Every effect -/

theorem effect_legal (c : Instr) (h : LegalReads s.picture) : LegalReads (effect c s).picture := by
  cases c with
  | exchangeMemoryWrite w be v => exact exchangeWrite_legal w be v h
  | sessionOpen => exact sessionWrite_legal 1 h
  | sessionClose => exact sessionWrite_legal 2 h
  | post k => exact postWrite_legal k h
  | cancel k => exact cancelWrite_legal k h
  | interruptEnableWrite v => exact controlWrite_legal v h
  | functionReset v => exact controlWrite_legal _ h
  | registerWriteIgnored w be v => exact registerWrite_legal w be v h
  | linkDown => exact linkDown_legal h
  | linkReset => exact giveUpReads_legal (endSession_legal h)
  | fastPass levels => exact look_legal (fastPass_legal _ h)
  | hostReadCompletion tag place data error poisoned => exact look_legal (hostCompletion_legal _ _ _ _ _ h)
  | hostReadTimeout tag => exact look_legal (hostTimeout_legal tag h)
  | rowWriteComplete => exact look_legal (rowWritten_legal h)
  | carryCopyRowComplete => exact look_legal (carryRowDone_legal h)
  | verticalBlankStart => exact look_legal (verticalBlank_legal h)
  | panelStageExpiry => exact look_legal (stageExpiry_legal h)
  | clearingEnd =>
    refine look_legal ?_
    unfold endClearing
    split <;> exact h
  | supplyConversionComplete code => exact look_legal (sample_legal _ h)
  | qualificationExpiry line => exact look_legal (lineExpiry_legal line h)
  | lingerExpiry => exact look_legal (lingerExpiry_legal h)
  | survivalComparatorTrip | supplyDipStart | coldStart _ => exact .empty rfl rfl
  | settingsCompletion | profileWaitExpiry | slowPass _ => exact look_legal (by simpa using h)
  | _ => simpa [effect, startConversion] using h

end

/-- Settles O11: the effect of every command keeps the reads legal, and commands that wait do not bear on them. -/
theorem stepKeepsReadsLegal : Obligations.StepKeepsReadsLegal := by
  intro s t h ht
  rw [readsInv_iff] at h ⊢
  exact step_preserves (P := fun s => LegalReads s.picture) (fun _ _ h => h) (fun c _ h => effect_legal c h) h ht

end Sys2Proof.Machine
end

section
/-! PROOFS. The reads of a HOST row as they are issued, and how each of them ends (R113, R114, R116, R120). -/

namespace Sys2Proof.Machine

section
variable {s : State}

/-! ### Issue (R113) -/

theorem mapFrom_succ {α β : Type} (f : Nat → α → β) (n : Nat) (l : List α) :
    mapFrom f (n + 1) l = mapFrom (fun i => f (i + 1)) n l := by
  induction l generalizing n with
  | nil => rfl
  | cons a l ih => rw [mapFrom, mapFrom, ih]

/-- The reads that plans become when they are issued now, numbered from the engine's next number on. -/
def issuedNow (s : State) (plans : List ReadPlan) : List Read :=
  mapFrom (fun i plan => ⟨s.picture.nextTag + i, plan, s.power.dockTime⟩) 0 plans

/-- The engine with one more read outstanding. -/
def readIssued (r : ReadPlan) (s : State) : State :=
  { s with picture := { s.picture with
    reads := s.picture.reads ++ [⟨s.picture.nextTag, r, s.power.dockTime⟩], nextTag := s.picture.nextTag + 1 } }

theorem issuedNow_cons (r : ReadPlan) (rs : List ReadPlan) : issuedNow s (r :: rs) =
    ⟨s.picture.nextTag, r, s.power.dockTime⟩ :: issuedNow (readIssued r s) rs := by
  rw [issuedNow, mapFrom, mapFrom_succ, issuedNow]
  simp only [readIssued, Nat.add_zero, Nat.add_assoc, Nat.add_comm 1]

theorem issueReads_full (rs : List ReadPlan) (h : 8 ≤ s.picture.reads.length) :
    issueReads rs s = { s with picture.toIssue := rs } := by
  cases rs with
  | nil => rfl
  | cons r rs =>
    rw [issueReads]
    exact if_pos h

/-- With bus mastering off, the first read that could be issued fails the request (R113). -/
theorem issueReads_unmastered {rs : List ReadPlan} (h : s.link.busMastering = false) (hrs : rs ≠ [])
    (hroom : s.picture.reads.length < 8) : issueReads rs s = failPicture s := by
  obtain ⟨r, rs, rfl⟩ := List.exists_cons_of_ne_nil hrs
  have hroom : ¬Config.readsMax ≤ s.picture.reads.length := Nat.not_le.mpr hroom
  rw [issueReads, if_neg hroom, if_pos h]

theorem issueReads_one (r : ReadPlan) (rs : List ReadPlan) (h : s.link.busMastering = true)
    (hroom : s.picture.reads.length < 8) : issueReads (r :: rs) s = issueReads rs (readIssued r s) := by
  have hroom : ¬Config.readsMax ≤ s.picture.reads.length := Nat.not_le.mpr hroom
  rw [issueReads, if_neg hroom, if_neg (by simp [h])]
  rfl

/-- With bus mastering on, the first plans are issued until 8 reads are outstanding, and the others wait. -/
theorem issueReads_mastering (rs : List ReadPlan) (h : s.link.busMastering = true) {k : Nat}
    (hk : k = min (8 - s.picture.reads.length) rs.length) : issueReads rs s = { s with picture := { s.picture with
      reads := s.picture.reads ++ issuedNow s (rs.take k), toIssue := rs.drop k,
      nextTag := s.picture.nextTag + k } } := by
  induction rs generalizing s k with
  | nil =>
    obtain rfl : k = 0 := hk.trans (Nat.min_zero _)
    simp [issueReads, issuedNow, mapFrom]
  | cons r rs ih =>
    by_cases hfull : 8 ≤ s.picture.reads.length
    · obtain rfl : k = 0 := by omega
      simp [issueReads_full _ hfull, issuedNow, mapFrom]
    · obtain ⟨k, rfl⟩ : ∃ k', k = k' + 1 := Nat.exists_eq_succ_of_ne_zero (by rw [hk, List.length_cons]; omega)
      have hrest : k = min (8 - (s.picture.reads.length + 1)) rs.length := by
        rw [List.length_cons] at hk
        omega
      rw [issueReads_one r rs h (by omega), ih (s := readIssued r s) h (by simpa [readIssued] using hrest),
        List.take_succ_cons, List.drop_succ_cons, issuedNow_cons]
      simp only [readIssued, List.append_assoc, List.singleton_append, Nat.add_assoc, Nat.add_comm 1]

/-! ### The bytes of a completion (R113) -/

theorem placeBytes_eq (start stop : Nat) (data : List Byte) (buf : List (Option Byte)) :
    placeBytes start stop data buf = (List.range buf.length).map fun i =>
      if start ≤ i ∧ i < stop ∧ i < start + data.length then data[i - start]? else buf.getD i none := by
  refine List.ext_getElem? fun i => ?_
  rw [placeBytes, mapFrom_getElem?, List.getElem?_map]
  by_cases hi : i < buf.length
  · simp [hi]
  · simp [hi]

/-- A read is answered when no byte of it that lies in the row is missing. -/
theorem answered_iff (r : Read) (buf : List (Option Byte)) : answered r buf = true ↔
    ∀ i, r.plan.place ≤ i → i < r.plan.place + r.plan.len → i < buf.length → (buf.getD i none).isSome = true := by
  rw [answered, List.all_eq_true]
  constructor
  · intro hall i hlow hhigh hi
    have hmem : buf[i] ∈ (buf.drop r.plan.place).take r.plan.len := by
      rw [List.mem_iff_getElem]
      refine ⟨i - r.plan.place, ?_, ?_⟩
      · rw [List.length_take, List.length_drop]
        omega
      · simp [Nat.add_sub_cancel' hlow]
    simpa [hi] using hall _ hmem
  · intro hwhole b hb
    obtain ⟨i, hi, rfl⟩ := List.mem_iff_getElem.mp hb
    rw [List.length_take, List.length_drop] at hi
    have hin : r.plan.place + i < buf.length := by omega
    simpa [hin] using hwhole (r.plan.place + i) (by omega) (by omega) hin

/-! ### The end of the fetch (R116) -/

theorem endFetch_reads (h : s.picture.reads ≠ []) : endFetch s = s := by simp [endFetch, h]

theorem endFetch_free (h : s.picture.work = .free) : endFetch s = s := by simp [endFetch, h]

/-! ### A completion that brings its read whole -/

/-- The engine with a read answered: its row buffer, and the reads without it. -/
def readAnswered (row : List (Option Byte)) (others : List Read) (s : State) : State :=
  { s with picture := { s.picture with rowBuf := row, reads := others } }

section
variable {r : Read} {place : Nat} {data : List Byte}

/-- The row buffer after a completion. -/
def rowAfter (r : Read) (place : Nat) (data : List Byte) (s : State) : List (Option Byte) :=
  placeBytes (r.plan.place + place) (r.plan.place + r.plan.len) data s.picture.rowBuf

theorem takeCompletion_partial (h : ¬answered r (rowAfter r place data s) = true) :
    takeCompletion r place data s = { s with picture := { s.picture with rowBuf := rowAfter r place data s } } := by
  rw [takeCompletion]
  exact if_neg h

theorem takeCompletion_whole (h : answered r (rowAfter r place data s) = true) :
    takeCompletion r place data s = endFetch (issueReads s.picture.toIssue
      (readAnswered (rowAfter r place data s) (s.picture.reads.filter fun q => q.tag != r.tag) s)) := by
  rw [takeCompletion]
  exact if_pos h

end

/-- The next reads go out. -/
theorem nextReads_issued {row : List (Option Byte)} {others : List Read} (hplans : s.picture.toIssue ≠ [])
    (hbus : s.link.busMastering = true) :
    let k := min (8 - others.length) s.picture.toIssue.length
    endFetch (issueReads s.picture.toIssue (readAnswered row others s)) = { s with picture := { s.picture with
      rowBuf := row, toIssue := s.picture.toIssue.drop k, nextTag := s.picture.nextTag + k,
      reads := others ++ issuedNow s (s.picture.toIssue.take k) } } := by
  intro k
  rw [issueReads_mastering (s := readAnswered row others s) s.picture.toIssue hbus (k := k) rfl]
  refine endFetch_reads ?_
  obtain ⟨r, rs, hrs⟩ := List.exists_cons_of_ne_nil hplans
  have hlen : (s.picture.toIssue.take k).length = k := List.length_take_of_le (Nat.min_le_right _ _)
  intro hnil
  obtain ⟨hothers, hnone⟩ := List.append_eq_nil_iff.mp hnil
  have hothers : others = [] := hothers
  have hzero : (issuedNow s (s.picture.toIssue.take k)).length = 0 := congrArg List.length hnone
  rw [issuedNow, mapFrom_length, hlen] at hzero
  simp [k, hothers, hrs] at hzero

/-- The last read of the row is answered: the row is converted and its write begins. -/
theorem endFetch_ends (h : s.picture.work = .row ∨ s.picture.work = .stopping) (hwriting : s.picture.writing = false)
    (hreads : s.picture.reads = []) (hplans : s.picture.toIssue = []) :
    endFetch s = startWrite (convertRow s.picture.params (s.picture.rowBuf.map fun b => b.getD 0)) s := by
  rw [endFetch, if_pos ⟨h, hwriting, hreads, hplans⟩]

/-! ### The two events (R113, R114) -/

theorem exec_hostReadCompletion (h : Linked s) (tag place : Nat) (data : List Byte) (error poisoned : Bool) :
    exec (.hostReadCompletion tag place data error poisoned) s =
      .next (look (hostCompletion tag place data error poisoned s)) :=
  next_whenLinked h fun s => look (hostCompletion tag place data error poisoned s)

theorem exec_hostReadTimeout (h : Running s) (tag : Nat) :
    exec (.hostReadTimeout tag) s = .next (look (hostTimeout tag s)) :=
  next_whenRunning h fun s => look (hostTimeout tag s)

section
variable {tag : Nat} {r : Read}

theorem hostCompletion_late (place : Nat) (data : List Byte) (error poisoned : Bool) (hr : findRead tag s = some r)
    (h : 50 < readAge r s) : hostCompletion tag place data error poisoned s = s := by
  simp only [hostCompletion, hr]
  exact if_pos h

theorem hostCompletion_fails (place : Nat) (data : List Byte) {error poisoned : Bool} (hr : findRead tag s = some r)
    (hage : readAge r s ≤ 50) (h : error = true ∨ poisoned = true) :
    hostCompletion tag place data error poisoned s = failPicture s := by
  have hage : ¬Config.readLimit < readAge r s := Nat.not_lt.mpr hage
  simp only [hostCompletion, hr, if_neg hage]
  exact if_pos (by simpa using h)

theorem hostCompletion_taken (place : Nat) (data : List Byte) (hr : findRead tag s = some r)
    (hage : readAge r s ≤ 50) :
    hostCompletion tag place data false false s = takeCompletion r place data s := by
  have hage : ¬Config.readLimit < readAge r s := Nat.not_lt.mpr hage
  simp only [hostCompletion, hr, if_neg hage]
  rfl

end

end

/-- Settles O45: a completion by the age of its read, by what it reports and by what is then still missing; a timeout by
the age. -/
theorem hostReadsEnd : Obligations.HostReadsEnd := by
  refine ⟨fun s tag place data error poisoned h => ?_, fun s tag h => ?_⟩
  · intro answer
    have hanswer : answer = .next (look (hostCompletion tag place data error poisoned s)) :=
      exec_hostReadCompletion h tag place data error poisoned
    refine ⟨fun hnone => ?_, fun r hr => ?_⟩
    · rw [hanswer, hostCompletion, show findRead tag s = none from hnone]
    · have htag : r.tag = tag := by simpa using List.find?_some hr
      intro first stop row whole others k age
      have hrow : row = rowAfter r place data s := (placeBytes_eq _ _ _ _).symm
      have hwhole : whole ↔ answered r (rowAfter r place data s) = true := by rw [answered_iff, ← hrow]
      refine ⟨fun hlate => ?_, fun hage hbad => ?_, fun hage hgood hclean => ?_⟩
      · rw [hanswer, hostCompletion_late place data error poisoned hr hlate]
      · exact ⟨_, hanswer.trans (by rw [hostCompletion_fails place data hr hage hbad]), failPicture_readFailed s⟩
      · subst hgood hclean
        rw [hostCompletion_taken place data hr hage] at hanswer
        have hends : whole → answer = .next (look (endFetch (issueReads s.picture.toIssue
            (readAnswered row others s)))) := fun hw => by
          rw [hanswer, takeCompletion_whole (hwhole.mp hw), ← hrow, htag]
        refine ⟨fun hw => ?_, fun hw hplans hbus => ?_, fun hw hplans hbus hroom => ?_, fun hw hplans hothers => ?_,
          fun hw hplans hothers hwriting hwork => ?_⟩
        · rw [hanswer, takeCompletion_partial (hwhole.not.mp hw), ← hrow]
        · rw [hends hw, nextReads_issued hplans hbus]
          rfl
        · have hfails : issueReads s.picture.toIssue (readAnswered row others s) =
              failPicture (readAnswered row others s) := issueReads_unmastered hbus hplans hroom
          refine ⟨_, hends hw, ?_⟩
          rw [hfails, endFetch_free (failPicture_work _)]
          exact failPicture_readFailed (readAnswered row others s)
        · rw [hends hw, hplans, issueReads, endFetch_reads hothers]
          simp only [readAnswered, ← hplans]
        · have hfetched := endFetch_ends (s := issueReads [] (readAnswered row others s)) hwork hwriting hothers rfl
          rw [hends hw, hplans, hfetched]
          simp only [startWrite, issueReads, readAnswered, ← hplans]
  · rw [exec_hostReadTimeout h]
    refine ⟨fun hnone => ?_, fun r hr => ⟨fun hage => ⟨_, ?_, failPicture_readFailed s⟩, fun hage => ?_⟩⟩
    · rw [hostTimeout, show findRead tag s = none from hnone]
    · have hfound : findRead tag s = some r := hr
      have hage : Config.readLimit ≤ readAge r s := hage
      simp only [hostTimeout, hfound, if_pos hage]
    · have hfound : findRead tag s = some r := hr
      have hage : ¬Config.readLimit ≤ readAge r s := Nat.not_le.mpr hage
      simp only [hostTimeout, hfound, if_neg hage]

end Sys2Proof.Machine
end

section
/-! PROOFS. A row boundary by its cases, and the next row of a FILL, STAGING or HOST request (R111 to R120). -/

namespace Sys2Proof.Machine

/-! ### Rows of pixels (R115, R116) -/

theorem Memory.reads_succ (m : Memory) (a n : Nat) : m.reads a (n + 1) = m.read a :: m.reads (a + 1) n := by
  simp only [Memory.reads, List.range_succ_eq_map, List.map_cons, List.map_map, Nat.add_zero]
  refine congrArg _ (List.map_congr_left fun i _ => ?_)
  simp only [Function.comp_apply, Nat.succ_eq_add_one, Nat.add_assoc, Nat.add_comm 1]

/-- A row read in RGB565, pixel by pixel. -/
theorem pixelsOf565_reads (m : Memory) (a w : Nat) :
    pixelsOf565 (m.reads a (w * 2)) = (List.range w).map fun i => m.half (a + i * 2) := by
  induction w generalizing a with
  | zero => rfl
  | succ w ih =>
    rw [Nat.add_mul, Nat.one_mul, Memory.reads_succ, Memory.reads_succ, pixelsOf565, ih, List.range_succ_eq_map,
      List.map_cons, List.map_map]
    refine congrArg₂ _ (by simp [Memory.half]) (List.map_congr_left fun i _ => congrArg m.half ?_)
    simp only [Nat.succ_eq_add_one]
    omega

/-- A row read in XRGB8888 and converted, pixel by pixel. -/
theorem pixelsOf8888_reads (m : Memory) (a w : Nat) : pixelsOf8888 (m.reads a (w * 4)) =
    (List.range w).map fun i =>
      convertPixel (m.read (a + i * 4)) (m.read (a + i * 4 + 1)) (m.read (a + i * 4 + 2)) := by
  induction w generalizing a with
  | zero => rfl
  | succ w ih =>
    rw [Nat.add_mul, Nat.one_mul, Memory.reads_succ, Memory.reads_succ, Memory.reads_succ, Memory.reads_succ,
      pixelsOf8888, ih, List.range_succ_eq_map, List.map_cons, List.map_map]
    refine congrArg₂ _ (by simp) (List.map_congr_left fun i _ => ?_)
    have hplace : a + 1 + 1 + 1 + 1 + i * 4 = a + (i + 1) * 4 := by omega
    simp only [Function.comp_apply, Nat.succ_eq_add_one, hplace]

section
variable {s : State} {j : Job}

/-! ### The boundary (R112) -/

theorem pauses_iff (s : State) : pauses s = true ↔ s.power.band = .crank ∨ s.power.standby = true := by
  simp [pauses]

theorem pauses_eq_false_iff (s : State) : pauses s = false ↔ s.power.band ≠ .crank ∧ s.power.standby = false := by
  simp [pauses]

theorem pictureCancelling_iff (hj : s.picture.job = some j) :
    pictureCancelling s = true ↔ (slot s j.slot).state = .cancelling := by
  simp [pictureCancelling, hj]

/-- A slot that is ACTIVE is not CANCELLING. -/
theorem pictureCancelling_active (hj : s.picture.job = some j) (ha : (slot s j.slot).state = .active) :
    ¬pictureCancelling s = true := by
  rw [pictureCancelling_iff hj, ha]
  decide

theorem pictureBoundary_abandoned (h : s.picture.abandon = true) : pictureBoundary s = stopPicture s := if_pos h

theorem pictureBoundary_cancelling (h : s.picture.abandon = false) (hj : s.picture.job = some j)
    (hc : (slot s j.slot).state = .cancelling) : pictureBoundary s = finishPicture .cancelled s := by
  rw [pictureBoundary, if_neg (by simp [h]), if_pos ((pictureCancelling_iff hj).mpr hc)]

theorem pictureBoundary_done (h : s.picture.abandon = false) (hj : s.picture.job = some j)
    (ha : (slot s j.slot).state = .active) (hrows : s.picture.clip.y1 < s.picture.nextRow) :
    pictureBoundary s = finishPicture .ok s := by
  rw [pictureBoundary, if_neg (by simp [h]), if_neg (pictureCancelling_active hj ha), if_pos hrows]

/-- With a row left to write the request pauses, or the row begins (R112, R118). -/
theorem pictureBoundary_row (h : s.picture.abandon = false) (hj : s.picture.job = some j)
    (ha : (slot s j.slot).state = .active) (hrows : s.picture.nextRow ≤ s.picture.clip.y1) : pictureBoundary s =
      if pauses s then { s with picture := { s.picture with work := .paused, writing := false } } else beginRow s := by
  rw [pictureBoundary, if_neg (by simp [h]), if_neg (pictureCancelling_active hj ha), if_neg (Nat.not_lt.mpr hrows)]

/-! ### The end of a request (R112, R114, R119) -/

/-- The request of the slot of `j` has ended: its slot is complete with the pixels written, and the engine is FREE. -/
def PictureEnds (j : Job) (st : SlotState) (code : ResultCode) (s t : State) : Prop :=
  slot t j.slot = completedSlot s j.slot st code (if s.picture.clipped then 1 else 0) s.picture.pixels ∧
  t.picture = emptyEngine s ∧ t.frames = s.frames ∧ t.mem = s.mem

theorem finishPicture_eq_complete (hj : s.picture.job = some j) (code : ResultCode) : finishPicture code s =
    complete j.slot j.notify code (clippedFlag s.picture.clipped) s.picture.pixels (stopPicture s) := by
  rw [finishPicture, hj]
  exact stopPicture_completeJob _ _ _ _ _

theorem finishPicture_ends (hj : s.picture.job = some j) (hlen : s.exch.slots.length = 16) (code : ResultCode) :
    PictureEnds j code.endState code s (finishPicture code s) := by
  obtain ⟨messages, heq⟩ := complete_eq j.slot j.notify code (clippedFlag s.picture.clipped) s.picture.pixels
    (stopPicture s)
  rw [finishPicture_eq_complete hj, heq]
  exact ⟨slot_setSlot_same j.slot _ s hlen, rfl, rfl, rfl⟩

theorem failPicture_ends (h : s.picture.abandon = false) (hj : s.picture.job = some j)
    (hlen : s.exch.slots.length = 16) : PictureEnds j .failed .readError s (failPicture s) := by
  rw [failPicture, if_neg (by simp [h])]
  exact finishPicture_ends hj hlen .readError

/-! ### The next row (R111, R113, R115) -/

/-- A row in writing, for work that is not abandoned. -/
theorem startWrite_row (px : List Half) (h : s.picture.abandon = false) : startWrite px s = { s with
    picture := { s.picture with
      work := .row, writing := true, rowBuf := [], rowPixels := px, reads := [], toIssue := [] } } := by
  simp [startWrite, h]

theorem copySource_staging {ps : List Byte} (h : ¬copySpace ps = 0) : copySource ps = copyStagingOffset ps :=
  if_neg (by simpa [copyIsHost] using h)

theorem copySource_host {ps : List Byte} (h : copySpace ps = 0) : copySource ps = copyHostAddress ps :=
  if_pos (by simpa [copyIsHost] using h)

theorem beginRow_fill (h : s.picture.fill = true) :
    beginRow s = startWrite (List.replicate s.picture.clip.width (fillColour s.picture.params)) s := if_pos h

theorem beginRow_staging (h : s.picture.fill = false) (hspace : ¬copySpace s.picture.params = 0) :
    beginRow s = startWrite (convertRow s.picture.params (stagingRow s)) s := by
  rw [beginRow, if_neg (by simp [h]), if_neg (by simpa [copyIsHost] using hspace)]

theorem beginRow_host (h : s.picture.fill = false) (hspace : copySpace s.picture.params = 0) :
    beginRow s = startHostFetch s := by
  rw [beginRow, if_neg (by simp [h]), if_pos (by simpa [copyIsHost] using hspace)]

/-- The reads of the next row of a HOST request (R113). -/
def rowPlans (s : State) : List ReadPlan := planReads (rowLength s) (rowSource s) 0 (rowLength s)

theorem rowPlans_ne_nil (h : 0 < rowLength s) : rowPlans s ≠ [] := fun hnil => by
  have htiles : Tiles (rowPlans s) (rowSource s) 0 (rowLength s) := planReads_tiles (Nat.le_refl _)
  rw [hnil] at htiles
  exact h.ne' htiles

/-- The engine as a HOST fetch begins, with no read issued yet. -/
def fetchOpened (s : State) : State :=
  { s with picture := { s.picture with
    work := .row, writing := false, rowBuf := List.replicate (rowLength s) none, rowPixels := [], reads := [] } }

theorem startHostFetch_eq (s : State) : startHostFetch s = issueReads (rowPlans s) (fetchOpened s) := rfl

theorem startHostFetch_mastering (h : s.link.busMastering = true) : startHostFetch s = { s with
    picture := { s.picture with
      work := .row, writing := false, rowBuf := List.replicate (rowLength s) none, rowPixels := [],
      reads := issuedNow s ((rowPlans s).take 8), toIssue := (rowPlans s).drop 8,
      nextTag := s.picture.nextTag + min 8 (rowPlans s).length } } := by
  have htake : (rowPlans s).take (min 8 (rowPlans s).length) = (rowPlans s).take 8 :=
    List.take_eq_take_iff.mpr (by omega)
  have hdrop : (rowPlans s).drop (min 8 (rowPlans s).length) = (rowPlans s).drop 8 := by
    obtain hle | hlt := Nat.le_total 8 (rowPlans s).length
    · rw [Nat.min_eq_left hle]
    · rw [Nat.min_eq_right hlt, List.drop_length, List.drop_eq_nil_of_le hlt]
  rw [startHostFetch_eq, issueReads_mastering (s := fetchOpened s) (rowPlans s) h rfl]
  simp only [fetchOpened, List.length_nil, Nat.sub_zero, List.nil_append, htake, hdrop]
  rfl

theorem startHostFetch_unmastered (h : s.link.busMastering = false) (hrow : 0 < rowLength s) :
    startHostFetch s = failPicture (fetchOpened s) :=
  issueReads_unmastered (s := fetchOpened s) h (rowPlans_ne_nil hrow) (by simp [fetchOpened])

theorem copyPixelBytes_pos (ps : List Byte) : 0 < copyPixelBytes ps := by
  unfold copyPixelBytes
  split <;> decide

/-- The pixels of a STAGING row, each at its place in the Staging Area, converted (R111, R115, R116). -/
theorem convertRow_stagingRow (s : State) : convertRow s.picture.params (stagingRow s) =
    (List.range s.picture.clip.width).map fun i =>
      let a := Config.stagingBase + rowSource s + i * copyPixelBytes s.picture.params
      if copyFormat s.picture.params = 0 then s.mem.half a
      else convertPixel (s.mem.read a) (s.mem.read (a + 1)) (s.mem.read (a + 2)) := by
  by_cases hformat : copyFormat s.picture.params = 0
  · have hbytes : copyPixelBytes s.picture.params = 2 := if_pos hformat
    simp only [convertRow, stagingRow, rowLength, hbytes, hformat, if_true]
    exact pixelsOf565_reads _ _ _
  · have hbytes : copyPixelBytes s.picture.params = 4 := if_neg hformat
    simp only [convertRow, stagingRow, rowLength, hbytes, hformat, if_false]
    exact pixelsOf8888_reads _ _ _

end

/-- Settles O47: each case of the boundary, then the row that begins by its source. -/
theorem rowBoundaryCases : Obligations.RowBoundaryCases := by
  intro s hlen t
  refine ⟨fun h => pictureBoundary_abandoned h, fun j hj h => ?_⟩
  intro ends
  refine ⟨fun hc => ?_, fun ha hrows => ?_, fun ha hrows hpause => ?_, fun ha hrows hband hstandby => ?_⟩
  · have hends := finishPicture_ends hj hlen .cancelled
    rw [← pictureBoundary_cancelling h hj hc] at hends
    exact hends
  · have hends := finishPicture_ends hj hlen .ok
    rw [← pictureBoundary_done h hj ha hrows] at hends
    exact hends
  · exact (pictureBoundary_row h hj ha hrows).trans (if_pos ((pauses_iff s).mpr hpause))
  · have hgoes : pauses s = false := (pauses_eq_false_iff s).mpr ⟨hband, hstandby⟩
    have hbegins : t = beginRow s :=
      (pictureBoundary_row h hj ha hrows).trans (if_neg (by simp [hgoes]))
    intro width byte at16 at32 bytes offset written
    have hoffset : rowSource s = copySource s.picture.params + offset := Nat.add_assoc _ _ _
    refine ⟨fun hfill => ?_, fun hfill hspace => ?_, fun hfill hspace => ?_⟩
    · exact hbegins.trans ((beginRow_fill hfill).trans (startWrite_row _ h))
    · have hsource : copySource s.picture.params = at32 0x20 := copySource_staging hspace
      rw [hbegins, beginRow_staging hfill hspace, startWrite_row _ h, convertRow_stagingRow, hoffset, hsource]
      rfl
    · intro plans
      have hsource : copySource s.picture.params = at32 0x20 + at32 0x24 * 2 ^ 32 :=
        copySource_host hspace
      have hplans : rowPlans s = plans := by
        rw [rowPlans, hoffset, hsource]
        rfl
      have hhost : t = startHostFetch s := hbegins.trans (beginRow_host hfill hspace)
      refine ⟨fun hbus => ?_, fun hbus hwidth => ?_⟩
      · rw [hhost, startHostFetch_mastering hbus, hplans]
        rfl
      · have hfails : t = failPicture (fetchOpened s) :=
          hhost.trans (startHostFetch_unmastered hbus (Nat.mul_pos hwidth (copyPixelBytes_pos _)))
        have hends := failPicture_ends (s := fetchOpened s) h hj hlen
        rw [← hfails] at hends
        exact hends

end Sys2Proof.Machine
end

section
/-! PROOFS. The take of a FILL: its checks, the clipping, and its first row (R105, R109, R110, R112, R117, R118). -/

namespace Sys2Proof.Machine

/-! ### The two checks (R109) -/

section
variable {ps : List Byte}

theorem checkFill_zero (h : pictureWidth ps = 0 ∨ pictureHeight ps = 0) : checkFill ps = .ends .ok := if_pos h

theorem checkFill_code (h0 : ¬(pictureWidth ps = 0 ∨ pictureHeight ps = 0)) (h : 1 < pictureDest ps) :
    checkFill ps = .ends .badParam := by
  rw [checkFill, if_neg h0, if_pos h]

theorem checkFill_goesOn (h0 : ¬(pictureWidth ps = 0 ∨ pictureHeight ps = 0)) (h : ¬1 < pictureDest ps) :
    checkFill ps = .goesOn := by
  rw [checkFill, if_neg h0, if_neg h]

end

/-- The fields of a FILL in its parameter bytes, at the slot `n` bytes into the Slot Array (section 1.8.3). -/
theorem fillFields (m : Memory) (n : Nat) : let ps := m.reads (0x011C + n) 36
    pictureDest ps = m.read (0x011E + n) ∧ fillColour ps = m.half (0x011C + n) ∧
    pictureWidth ps = (m.half (0x012C + n)).toNat ∧ pictureHeight ps = (m.half (0x012E + n)).toNat ∧
    pictureX ps = (m.half (0x0130 + n)).toInt ∧ pictureY ps = (m.half (0x0132 + n)).toInt := by
  intro ps
  obtain ⟨-, -, hdest, -, -, -, hwidth, hheight, hx, hy⟩ :=
    copyFields m (a := 0x011C + n) (b := 0x0100 + n) (by omega)
  simp only [Nat.add_right_comm 0x0100 n, Nat.reduceAdd] at hdest hwidth hheight hx hy
  exact ⟨hdest, param16_reads m _ (by omega), hwidth, hheight, hx, hy⟩

section
variable {s : State} {k : Fin 16} {j : Job}

theorem takeFill_ends {code : ResultCode} (h : checkFill j.params = .ends code) :
    takePicture j true s = completeJob j code 0 0 s := by
  simp [takePicture, h]

theorem takeFill_goesOn (h : checkFill j.params = .goesOn) : takePicture j true s = startPicture j true s := by
  simp [takePicture, h]

/-- A FILL that the free context takes at the POST. -/
theorem exec_post_fill (h : Linked s) (ho : s.exch.sessionOpen = true) (hk : (slot s k).state = .free)
    (hlen : s.exch.slots.length = 16) (hq : s.exch.queue = []) (hfree : pictureFree s = true)
    (hheld : pictureHeld s = false) (hkind : s.mem.read (0x0104 + 64 * k.val) = kindFill) :
    exec (.post k) s = .next (takePicture (jobAtPost k s) true (takenAtPost k s)) := by
  rw [exec_post_picture h ho hk hlen hq hfree hheld (by rw [hkind]; decide), hkind, if_neg (by decide)]
  rfl

/-! ### The first row of a request that is on the panel (R112, R118) -/

/-- The engine with the request of a FILL, at its first row boundary (R105, R110). -/
def fillOpened (k : Fin 16) (r : Rect) (s : State) : State :=
  let ps := (jobAtPost k s).params
  { takenAtPost k s with picture := { emptyEngine s with
    job := some (jobAtPost k s), work := .row, fill := true, params := ps, dest := resolveDest ps s, clip := r,
    nextRow := r.y0, clipped := r.cuts (pictureWidth ps) (pictureHeight ps) } }

theorem fillOpened_active (hlen : s.exch.slots.length = 16) (r : Rect) :
    (slot (fillOpened k r s) k).state = .active := congrArg SlotRec.state (slot_setSlot_same k _ s hlen)

/-- In CRANK the request pauses before its first row, and else that row is in writing, the colour in every pixel. -/
theorem fillOpened_boundary (hlen : s.exch.slots.length = 16) (hstandby : s.power.standby = false) {r : Rect}
    (hrows : r.y0 ≤ r.y1) : pictureBoundary (fillOpened k r s) = { fillOpened k r s with
      picture := { (fillOpened k r s).picture with
        work := if s.power.band = .crank then .paused else .row
        writing := decide (s.power.band ≠ .crank)
        rowPixels := if s.power.band = .crank then [] else
          List.replicate r.width (fillColour (jobAtPost k s).params) } } := by
  rw [pictureBoundary_row (s := fillOpened k r s) rfl rfl (fillOpened_active hlen r) hrows]
  by_cases hband : s.power.band = .crank
  · have hpauses : pauses (fillOpened k r s) = true := (pauses_iff _).mpr (.inl hband)
    rw [if_pos hpauses, if_pos hband, if_pos hband, decide_eq_false (not_not_intro hband)]
    rfl
  · have hpauses : ¬pauses (fillOpened k r s) = true := by
      rw [Bool.not_eq_true, pauses_eq_false_iff]
      exact ⟨hband, hstandby⟩
    rw [if_neg hpauses, if_neg hband, if_neg hband, decide_eq_true hband, beginRow_fill (s := fillOpened k r s) rfl,
      startWrite_row (s := fillOpened k r s) _ rfl]
    rfl

end

/-- Settles O43: each check under the negation of those before it, then the clipping and the first row boundary. -/
theorem fillBeginsItsFirstRow : Obligations.FillBeginsItsFirstRow := by
  intro s k hinv h ho hk hq hfree hheld hkind w hgt x y zero badCode offPanel
  let j := jobAtPost k s
  obtain ⟨hdest, hcolour, hwidth, hheight, hx, hy⟩ : pictureDest j.params = s.mem.read (0x011E + 64 * k.val) ∧
      fillColour j.params = s.mem.half (0x011C + 64 * k.val) ∧ pictureWidth j.params = w ∧
      pictureHeight j.params = hgt ∧ pictureX j.params = x ∧ pictureY j.params = y := fillFields s.mem (64 * k.val)
  have hstandby : s.power.standby = false := (pictureHeld_eq_false.mp hheld).1
  have hends : ∀ code, checkFill j.params = .ends code →
      EndsInTake s k code.endState code 0 (takePicture j true (takenAtPost k s)) ∧
        (takePicture j true (takenAtPost k s)).picture = s.picture := fun code hcheck => by
    obtain ⟨hend, hframe, -, -⟩ := completeJob_takenAtPost (k := k) hinv.slots code 0
    have hpicture := congrArg State.picture hframe
    rw [takeFill_ends hcheck]
    exact ⟨hend, hpicture⟩
  have hzero : pictureWidth j.params = 0 ∨ pictureHeight j.params = 0 ↔ zero := by
    rw [hwidth, hheight]
  have hcode : 1 < pictureDest j.params ↔ badCode := by
    rw [hdest]
  have hclips : clipRect (pictureX j.params) (pictureY j.params) (pictureWidth j.params) (pictureHeight j.params) =
      clipRect x y w hgt := by
    rw [hx, hy, hwidth, hheight]
  have hgoesOn : ¬zero → ¬badCode →
      takePicture j true (takenAtPost k s) = startPicture j true (takenAtPost k s) := fun hz hc =>
    takeFill_goesOn (checkFill_goesOn (hzero.not.mpr hz) (hcode.not.mpr hc))
  refine ⟨_, exec_post_fill h ho hk hinv.slots hq hfree hheld hkind, takePicture_frame _ _ _, fun hz => ?_,
    fun hz hbad => ?_, fun hz hgood hoff => ?_, fun hz hgood hon => ?_⟩
  · exact hends .ok (checkFill_zero (hzero.mpr hz))
  · exact hends .badParam (checkFill_code (hzero.not.mpr hz) (hcode.mpr hbad))
  · obtain ⟨hend, hframe, -, -⟩ := completeJob_takenAtPost (k := k) hinv.slots .ok 1
    have hpicture := congrArg State.picture hframe
    rw [hgoesOn hz hgood, startPicture_off (j := j) true (hclips.trans (clipRect_none hoff))]
    exact ⟨hend, hpicture⟩
  · obtain ⟨hw, hh⟩ := not_or.mp hz
    obtain ⟨r, hclip, hx0, hx1, hy0, hy1⟩ := clipRect_some (x := x) (y := y) hw hh hon
    have hrows : r.y0 ≤ r.y1 := by omega
    have hopened : takePicture j true (takenAtPost k s) = pictureBoundary (fillOpened k r s) :=
      (hgoesOn hz hgood).trans (startPicture_on (j := j) (s := takenAtPost k s) true (hclips.trans hclip))
    have hcuts : r.cuts (pictureWidth j.params) (pictureHeight j.params) =
        decide (r.x1 + 1 - r.x0 < w ∨ r.y1 + 1 - r.y0 < hgt) := by
      rw [Rect.cuts, Rect.width, Rect.height, Bool.decide_or, hwidth, hheight]
    have hresolve : resolveDest j.params s =
        if s.mem.read (0x011E + 64 * k.val) = 0 then backBuffer s else .standby := by
      rw [resolveDest, hdest]
    rw [hopened, fillOpened_boundary hinv.slots hstandby hrows]
    refine ⟨r, fillOpened_active hinv.slots r, rfl, rfl, hx0, hx1, hy0, hy1, hcuts, hresolve, rfl, rfl, rfl,
      fun hband => ?_, fun hband => ?_⟩
    · exact ⟨if_pos hband, decide_eq_false (not_not_intro hband)⟩
    · exact ⟨if_neg hband, decide_eq_true hband, (if_neg hband).trans (congrArg (List.replicate r.width) hcolour)⟩

end Sys2Proof.Machine
end

section
/-! PROOFS. The panel's power sequence: the pins and the picture by state and stage, and the expiry of each stage (R107,
R124 to R126, R128, R132). -/

namespace Sys2Proof.Machine

/-! ### The pins (R124, R125) -/

/-- The rails, the interface and the backlight enable in each stage of the two sequences. -/
def stageControls : Stage → Bool × Bool × Bool
  | .rails => (true, false, false)
  | .signals => (true, true, false)
  | .enable => (true, true, true)
  | .disable => (true, true, false)
  | .signalsOff => (true, false, false)
  | .railsOff => (false, false, false)

/-- A stage belongs to a panel that is in one of its two sequences. -/
theorem stageFits_moving {p : PanelState} {st : Stage} (h : stageFits p (some st) = true) :
    p = .starting ∨ p = .stopping := by
  cases p with
  | off => exact absurd h Bool.false_ne_true
  | starting => exact .inl rfl
  | on => exact absurd h Bool.false_ne_true
  | stopping => exact .inr rfl

theorem panelControls_stage {p : PanelState} (h : p = .starting ∨ p = .stopping) (st : Stage) :
    panelControls p (some st) = stageControls st := by
  rcases h with rfl | rfl <;> cases st <;> rfl

section
variable {s : State}

theorem pins_running (h : Running s) : (pins s).backlightDuty = s.light.output ∧
    ((pins s).panelRails, (pins s).panelInterface, (pins s).backlightEnable) =
      panelControls s.scanout.panel s.scanout.stage := by
  have hheld : s.power.held = false := h
  simp [pins, hheld]

/-! ### What the panel shows (R107, R132) -/

/-- A panel that is not ON is sent black frames while its interface runs. -/
theorem shownPixel_off (h : Running s) (hpanel : s.scanout.panel ≠ .on) (moment x y : Nat) :
    shownPixel s moment x y = if (panelControls s.scanout.panel s.scanout.stage).2.1 then some 0 else none := by
  have hcontrols := congrArg (·.2.1) (pins_running h).2
  simp only [shownPixel, shownBuffer, hpanel, and_false, if_false]
  exact congrArg (fun b : Bool => if b then some 0 else none) hcontrols

/-- The buffer of the source. -/
def sourceBuffer (s : State) : Buffer := match s.scanout.source with | .front => frontBuffer s | .standby => .standby

theorem shownBuffer_on (h : Running s) (hpanel : s.scanout.panel = .on) : shownBuffer s = some (sourceBuffer s) :=
  if_pos ⟨h, hpanel⟩

theorem shownPixel_on (h : Running s) (hpanel : s.scanout.panel = .on) (moment x y : Nat) :
    shownPixel s moment x y = some (scannedPixel s (sourceBuffer s) moment x y) := by
  simp only [shownPixel, shownBuffer_on h hpanel]

theorem inWrite_iff (s : State) (buf : Buffer) (x y : Nat) : inWrite s buf x y = true ↔ s.picture.writing = true ∧
    s.picture.dest = buf ∧ s.picture.nextRow = y ∧ s.picture.clip.x0 ≤ x ∧
      x - s.picture.clip.x0 < s.picture.rowPixels.length := by
  simp only [inWrite, Bool.and_eq_true, beq_iff_eq, decide_eq_true_eq, and_assoc]
  refine and_congr_right fun _ => and_congr_right fun _ => and_congr_right fun _ => and_congr_right fun hx => ?_
  omega

theorem scannedPixel_rest {buf : Buffer} {x y : Nat} (moment : Nat) (h : ¬inWrite s buf x y = true) :
    scannedPixel s buf moment x y = pixel s buf x y := by
  simp [scannedPixel, h]

theorem scannedPixel_writing {buf : Buffer} {x y : Nat} (moment : Nat) (h : inWrite s buf x y = true) :
    scannedPixel s buf moment x y = if Config.landed moment x then
      s.picture.rowPixels.getD (x - s.picture.clip.x0) 0 else pixel s buf x y := by
  simp [scannedPixel, h]

/-! ### The source (R132) -/

theorem chosenSource_eq (s : State) : chosenSource s = if s.exch.sessionOpen = true ∧ s.scanout.presented = true ∧
    (s.lines.drive && s.scanout.driveBlanking) = false then .front else .standby := by
  unfold chosenSource
  split
  · next hstandby =>
    rw [if_neg]
    rintro ⟨hopen, hpresented, hblank⟩
    simp [hopen, hpresented, hblank] at hstandby
  · next hfront =>
    simp only [not_or, Bool.not_eq_false, Bool.not_eq_true] at hfront
    rw [if_pos hfront]

/-! ### The PANEL slot that waits (R128) -/

theorem panelWish_eq (ps : List Byte) : panelWish ps = decide (ps.getD 0 0 ≠ 0) := by
  rw [Bool.eq_iff_iff]
  simp [panelWish, param8]

/-- From `s` to `u` a PANEL slot that waits for `wish` is DONE and leaves its context, and else the exchange stays. -/
def PanelCompletes (wish : Bool) (s u : State) : Prop :=
  let waits := fun (j : Job) => j.kind = kindPanel ∧ decide (j.params.getD 0 0 ≠ 0) = wish
  (∀ j, s.exch.settingsJob = some j → waits j → u.exch = { s.exch with
    settingsJob := none, slots := s.exch.slots.set j.slot.val (completedSlot s j.slot .done .ok 0 0),
    attention := if j.notify then s.exch.attention ||| 2 else s.exch.attention }) ∧
  ((∀ j, s.exch.settingsJob = some j → ¬waits j) → u.exch = s.exch)

theorem finishPanel_completes {r : State} (wish : Bool) (hexch : r.exch = s.exch)
    (hframe : r.scanout.frame = s.scanout.frame) (hpower : r.power = s.power) :
    PanelCompletes wish s (finishPanel wish r) := by
  refine ⟨fun j hj hwaits => ?_, fun hnone => ?_⟩
  · have hwaits : j.kind = kindPanel ∧ panelWish j.params = wish := by
      rw [panelWish_eq]
      exact hwaits
    have hslot : completedSlot r j.slot .done .ok 0 0 = completedSlot s j.slot .done .ok 0 0 := by
      simp only [completedSlot, slot, hexch, hframe, hpower]
    obtain ⟨messages, hdone⟩ := finishPanel_done (hexch ▸ hj : r.exch.settingsJob = some j) hwaits
    rw [hdone]
    simp only [hexch, hslot]
    rfl
  · rw [finishPanel_other, hexch]
    intro j hj
    rw [panelWish_eq]
    exact hnone j (hexch ▸ hj)

/-! ### The two ends (R124 to R126) -/

/-- From `s` to `u` the panel, the levels, the exchange and the count of messages have moved, and no more. -/
def PanelOnly (s u : State) : Prop :=
  u = { s with scanout := u.scanout, light := u.light, exch := u.exch, link := u.link }

theorem PanelOnly.of_kept {u : State} (h : u.pending = s.pending ∧ u.mem = s.mem ∧ u.journal = s.journal ∧
    u.scanner = s.scanner ∧ u.composer = s.composer ∧ u.profile = s.profile ∧ u.picture = s.picture ∧
    u.frames = s.frames ∧ u.measure = s.measure ∧ u.lines = s.lines ∧ u.power = s.power ∧
    u.freeCount = s.freeCount) : PanelOnly s u := by
  obtain ⟨hpending, hmem, hjournal, hscanner, hcomposer, hprofile, hpicture, hframes, hmeasure, hlines, hpower, hfree⟩ := h
  unfold PanelOnly
  rw [← hpending, ← hmem, ← hjournal, ← hscanner, ← hcomposer, ← hprofile, ← hpicture, ← hframes, ← hmeasure, ← hlines,
    ← hpower, ← hfree]

theorem panelOn_only (s : State) : PanelOnly s (panelOn s) := .of_kept (by simp)

theorem panelOn_scanout (s : State) : (panelOn s).scanout = { s.scanout with
    panel := .on, stage := none, source := chosenSource s } := by
  simp only [panelOn, finishPanel_keeps, recompute_keeps]
  rfl

theorem panelOn_completes (s : State) : PanelCompletes true s (panelOn s) :=
  finishPanel_completes true (by simp) (by simp) (by simp)

/-- The panel OFF with its PANEL slot DONE, before the wanted condition is tested again. -/
def panelRested (s : State) : State := finishPanel false (recompute (restPanel .off s))

theorem panelOff_eq (s : State) : panelOff s = panelTest (panelRested s) := rfl

theorem panelRested_scanout (s : State) : (panelRested s).scanout = { s.scanout with panel := .off, stage := none } := by
  simp only [panelRested, finishPanel_keeps, recompute_keeps]
  rfl

theorem panelRested_completes (s : State) : PanelCompletes false s (panelRested s) :=
  finishPanel_completes false (by simp) (by simp) (by simp)

theorem wanted_panelRested (s : State) : wanted (panelRested s) = (!s.power.standby && s.scanout.wish) := by
  rw [wanted, panelRested_scanout]
  simp [panelRested]

theorem panelOff_unwanted (h : wanted (panelRested s) = false) : panelOff s = panelRested s := by
  rw [panelOff_eq]
  exact panelTest_rest (.inl ⟨congrArg Scanout.panel (panelRested_scanout s), h⟩)

theorem panelOff_wanted (h : wanted (panelRested s) = true) : panelOff s = startPanel (panelRested s) := by
  have hoff : (panelRested s).scanout.panel = .off := congrArg Scanout.panel (panelRested_scanout s)
  simp [panelOff_eq, panelTest, hoff, h]

/-- A panel that is wanted again leaves the exchange to the PANEL slot that was DONE. -/
theorem panelOff_only (s : State) : PanelOnly s (panelOff s) ∧ (panelOff s).exch = (panelRested s).exch := by
  cases hw : wanted (panelRested s) with
  | false =>
    rw [panelOff_unwanted hw]
    exact ⟨.of_kept (by simp [panelRested]), rfl⟩
  | true =>
    rw [panelOff_wanted hw]
    exact ⟨.of_kept (by simp [panelRested]), by simp⟩

theorem panelOff_completes (s : State) : PanelCompletes false s (panelOff s) := by
  obtain ⟨hdone, hnone⟩ := panelRested_completes s
  have hexch := (panelOff_only s).2
  exact ⟨fun j hj hwaits => hexch.trans (hdone j hj hwaits), fun h => hexch.trans (hnone h)⟩

theorem panelOff_scanout_rests (h : s.power.standby = true ∨ s.scanout.wish = false) :
    (panelOff s).scanout = { s.scanout with panel := .off, stage := none } := by
  have hw : wanted (panelRested s) = false := by
    rw [wanted_panelRested]
    rcases h with h | h <;> simp [h]
  rw [panelOff_unwanted hw, panelRested_scanout]

theorem panelOff_scanout_starts (hstandby : s.power.standby = false) (hwish : s.scanout.wish = true) :
    (panelOff s).scanout = { s.scanout with
      panel := .starting, stage := some .rails, stageEnds := s.power.dockTime + ms 20 } := by
  have hw : wanted (panelRested s) = true := by simp [wanted_panelRested, hstandby, hwish]
  have hpower : (panelRested s).power = s.power := by simp [panelRested]
  simp only [panelOff_wanted hw, startPanel, recompute_keeps, enterStage_scanout, after, now, hpower, panelRested_scanout]
  rfl

/-! ### The expiry (R124, R125) -/

/-- What the end of each stage brings. -/
def stageEnd (s : State) : Stage → State
  | .rails => enterStage .starting .signals s
  | .signals => enterStage .starting .enable s
  | .enable => panelOn s
  | .disable => enterStage .stopping .signalsOff s
  | .signalsOff => enterStage .stopping .railsOff s
  | .railsOff => panelOff s

theorem stageExpiry_due {st : Stage} (hst : s.scanout.stage = some st)
    (h : reached s.power.dockTime s.scanout.stageEnds = true) : stageExpiry s = stageEnd s st := by
  simp only [stageExpiry, hst]
  exact (if_pos h).trans (by cases st <;> rfl)

theorem stageExpiry_early {st : Stage} (hst : s.scanout.stage = some st)
    (h : reached s.power.dockTime s.scanout.stageEnds = false) : stageExpiry s = s := by
  simp only [stageExpiry, hst]
  exact if_neg (by rw [dueAt, now, h]; decide)

theorem stageEnd_only (s : State) (st : Stage) : PanelOnly s (stageEnd s st) := by
  cases st with
  | enable => exact panelOn_only s
  | railsOff => exact (panelOff_only s).1
  | rails | signals | disable | signalsOff => rfl

theorem exec_panelStageExpiry (h : Running s) : exec .panelStageExpiry s = .next (look (stageExpiry s)) :=
  next_whenRunning h fun s => look (stageExpiry s)

end

/-- Settles O50: the pins and the picture by panel state and stage; the expiry by its stage. -/
theorem panelStagesFollowTheirSequence : Obligations.PanelStagesFollowTheirSequence := by
  refine ⟨fun s moment x y h => ?_, fun s st h hst => ⟨fun hearly => ?_, fun hdue => ?_⟩⟩
  · obtain ⟨hduty, hcontrols⟩ := pins_running h
    intro shown buf column inWriting controls
    have hbuf : sourceBuffer s = buf := rfl
    refine ⟨hduty, fun st hst hfits => ?_, fun hon => ?_, fun hoff => ?_⟩
    · have hmoving := stageFits_moving hfits
      have hstage : panelControls s.scanout.panel s.scanout.stage = stageControls st := by
        rw [hst, panelControls_stage hmoving]
      have hpanel : s.scanout.panel ≠ .on := by
        rcases hmoving with h | h <;> simp [h]
      have hshown : shown = if (stageControls st).2.1 then some 0 else none := by
        rw [← hstage]
        exact shownPixel_off h hpanel moment x y
      refine ⟨(hcontrols.trans hstage).trans ?_, hshown.trans ?_⟩
      · cases st <;> rfl
      · cases st <;> rfl
    · have hshown : shown = some (scannedPixel s buf moment x y) := shownPixel_on h hon moment x y
      have hwriting : inWrite s buf x y = true ↔ inWriting := inWrite_iff s buf x y
      refine ⟨hcontrols.trans (by rw [hon]; rfl), fun hrest => ?_, fun hwrites => ?_⟩
      · rw [hshown, scannedPixel_rest moment (hwriting.not.mpr hrest)]
      · rw [hshown, scannedPixel_writing moment (hwriting.mpr hwrites)]
    · have hshown := shownPixel_off h (by simp [hoff]) moment x y
      rw [hoff] at hshown hcontrols
      exact ⟨hcontrols, hshown⟩
  · rw [exec_panelStageExpiry h, stageExpiry_early hst hearly]
  · refine ⟨stageEnd s st, by rw [exec_panelStageExpiry h, stageExpiry_due hst hdue], ?_⟩
    intro completes
    refine ⟨?_, ?_, stageEnd_only s st, ?_, ?_, ?_, ?_, ?_, ?_⟩ <;> rintro rfl
    · rfl
    · rfl
    · exact ⟨panelOn_completes s, (panelOn_scanout s).trans (by rw [chosenSource_eq])⟩
    · rfl
    · rfl
    · exact panelOff_completes s
    · exact panelOff_scanout_rests
    · exact panelOff_scanout_starts

end Sys2Proof.Machine
end

section
/-! PROOFS. The backlight law and the law of the panel, taken apart, and the events of the picture path that move the levels
and nothing they are computed from but the idle timer (R123, R135, R146 to R149). -/

namespace Sys2Proof.Machine

/-- The stage belongs to the panel state, and a panel that is ON or STARTING is wanted (R123 to R126). -/
structure PanelLaw (s : State) : Prop where
  stage : stageFits s.scanout.panel s.scanout.stage = true
  wanted : s.scanout.panel = .on ∨ s.scanout.panel = .starting → s.power.standby = false ∧ s.scanout.wish = true

/-- The key light follows the output (R148). -/
def KeyLightFollows (s : State) : Prop := s.light.keyLight = keyLightLevel s.light.output s.light.settings.keyRatio

/-- The target is the one its inputs give, the output is at it in the immediate cases, and the key light follows (R146 to
R148). -/
structure LevelLaw (s : State) : Prop where
  target : s.light.target = targetLevel s
  atOnce : immediate s = true → s.light.output = s.light.target
  keyLight : KeyLightFollows s

theorem lightInv_iff (s : State) : LightInv s ↔ PanelLaw s ∧ LevelLaw s :=
  ⟨fun h => ⟨⟨h.stage, h.wanted⟩, h.target, h.atOnce, h.keyLight⟩,
    fun ⟨hpanel, hlevel⟩ => ⟨hpanel.stage, hpanel.wanted, hlevel.target, hlevel.atOnce, hlevel.keyLight⟩⟩

section
variable {s t u : State}

/-! ### A recomputation and a tick (R146 to R148) -/

theorem immediate_recompute (s : State) : immediate (recompute s) = immediate s := by simp [immediate, dark]

/-- A recomputation brings target and output to their inputs, whatever they were (R146, R147). -/
theorem recompute_levels (s : State) : (recompute s).light.target = targetLevel (recompute s) ∧
    (immediate (recompute s) = true → (recompute s).light.output = (recompute s).light.target) := by
  rw [recompute_target, targetLevel_recompute, immediate_recompute, recompute_output]
  exact ⟨rfl, fun hi => if_pos hi⟩

theorem recompute_keyLight (h : KeyLightFollows s) : KeyLightFollows (recompute s) := by
  unfold recompute
  dsimp only
  split
  · rfl
  · exact h

theorem recompute_levelLaw (h : KeyLightFollows s) : LevelLaw (recompute s) :=
  ⟨(recompute_levels s).1, (recompute_levels s).2, recompute_keyLight h⟩

/-- The output set to itself brings the key light under a new ratio to it, and no more (R144, R148). -/
theorem setOutput_levelLaw (htarget : s.light.target = targetLevel s)
    (hatOnce : immediate s = true → s.light.output = s.light.target) : LevelLaw (setOutput s.light.output s) :=
  ⟨htarget, hatOnce, rfl⟩

theorem tickStep_levelLaw (h : LevelLaw s) : LevelLaw (tickStep s) := by
  have himmediate : immediate (tickStep s) = immediate s := by simp [immediate, dark]
  refine ⟨h.target, fun hi => ?_, rfl⟩
  rw [himmediate] at hi
  exact if_pos hi

/-! ### What the two laws depend on -/

/-- From `s` to `t` the panel, its stage, the wish and the power state have stayed, and the laws of the levels have been
kept. -/
structure LevelsKept (s t : State) : Prop where
  scanout : t.scanout.panel = s.scanout.panel ∧ t.scanout.stage = s.scanout.stage ∧ t.scanout.wish = s.scanout.wish
  standby : t.power.standby = s.power.standby
  keyLight : KeyLightFollows s → KeyLightFollows t
  levels : LevelLaw s → LevelLaw t

theorem LevelsKept.refl (s : State) : LevelsKept s s := ⟨⟨rfl, rfl, rfl⟩, rfl, id, id⟩

theorem LevelsKept.trans (h : LevelsKept s t) (h' : LevelsKept t u) : LevelsKept s u := by
  obtain ⟨hpanel, hstage, hwish⟩ := h.scanout
  obtain ⟨hpanel', hstage', hwish'⟩ := h'.scanout
  exact ⟨⟨hpanel'.trans hpanel, hstage'.trans hstage, hwish'.trans hwish⟩, h'.standby.trans h.standby,
    h'.keyLight ∘ h.keyLight, h'.levels ∘ h.levels⟩

/-- An operation that leaves the light and all that the target is computed from. -/
theorem LevelsKept.of_same (h : t.scanout.panel = s.scanout.panel ∧ t.scanout.stage = s.scanout.stage ∧
    t.scanout.wish = s.scanout.wish ∧ t.power.standby = s.power.standby ∧ t.power.band = s.power.band ∧
    t.lines.drive = s.lines.drive ∧ t.light = s.light) : LevelsKept s t := by
  obtain ⟨hpanel, hstage, hwish, hstandby, hband, hdrive, hlight⟩ := h
  have hdark : dark t = dark s := by simp only [dark, hpanel, hstandby]
  have htarget : targetLevel t = targetLevel s := by simp only [targetLevel, baseLevel, hdark, hband, hdrive, hlight]
  have himmediate : immediate t = immediate s := by simp only [immediate, hdark, hband]
  have hkey : KeyLightFollows s → KeyLightFollows t := by simp only [KeyLightFollows, hlight, imp_self]
  refine ⟨⟨hpanel, hstage, hwish⟩, hstandby, hkey, fun hl => ⟨?_, ?_, hkey hl.keyLight⟩⟩
  · rw [hlight, htarget]
    exact hl.target
  · rw [himmediate, hlight]
    exact hl.atOnce

theorem LevelsKept.panelLaw (h : LevelsKept s t) (hp : PanelLaw s) : PanelLaw t := by
  obtain ⟨hpanel, hstage, hwish⟩ := h.scanout
  refine ⟨?_, ?_⟩
  · rw [hpanel, hstage]
    exact hp.stage
  · rw [hpanel, h.standby, hwish]
    exact hp.wanted

theorem LevelsKept.lightInv (h : LevelsKept s t) (hs : LightInv s) : LightInv t := by
  obtain ⟨hpanel, hlevel⟩ := (lightInv_iff s).mp hs
  exact (lightInv_iff t).mpr ⟨h.panelLaw hpanel, h.levels hlevel⟩

theorem LightInv.same (h : LightInv s) (hsame : t.scanout.panel = s.scanout.panel ∧ t.scanout.stage = s.scanout.stage ∧
    t.scanout.wish = s.scanout.wish ∧ t.power.standby = s.power.standby ∧ t.power.band = s.power.band ∧
    t.lines.drive = s.lines.drive ∧ t.light = s.light) : LightInv t :=
  (LevelsKept.of_same hsame).lightInv h

/-- What is to be recomputed has its levels in law afterwards; the panel must be in law before. -/
theorem recompute_lightInv (hpanel : PanelLaw s) (hkey : KeyLightFollows s) : LightInv (recompute s) :=
  (lightInv_iff _).mpr ⟨⟨by simpa using hpanel.stage, by simpa using hpanel.wanted⟩, recompute_levelLaw hkey⟩

/-- A recomputation after a change of inputs that the panel does not depend on. -/
theorem LightInv.recomputed (h : LightInv s) (hsame : t.scanout = s.scanout ∧ t.power.standby = s.power.standby ∧
    t.light.output = s.light.output ∧ t.light.keyLight = s.light.keyLight ∧ t.light.settings = s.light.settings) :
    LightInv (recompute t) := by
  obtain ⟨hscanout, hstandby, houtput, hkey, hsettings⟩ := hsame
  refine recompute_lightInv ⟨hscanout ▸ h.stage, ?_⟩ ?_
  · rw [hscanout, hstandby]
    exact h.wanted
  · rw [KeyLightFollows, houtput, hkey, hsettings]
    exact h.keyLight

/-! ### Activity (R149) -/

/-- A RUNNING idle timer loaded again is no input of the target. -/
theorem idleLoad_levelsKept (h : s.light.idle = .running) : LevelsKept s (idleLoad s) := by
  have hload : (idleLoad s).light = { s.light with idleEnds := (idleLoad s).light.idleEnds } := by
    rw [idleLoad_light, ← h]
  have htarget : targetLevel (idleLoad s) = targetLevel s := by
    rw [targetLevel, baseLevel, hload]
    rfl
  have hkey : KeyLightFollows s → KeyLightFollows (idleLoad s) := id
  exact ⟨⟨rfl, rfl, rfl⟩, rfl, hkey, fun hl => ⟨hl.target.trans htarget.symm, hl.atOnce, hkey hl.keyLight⟩⟩

theorem idleRestart_levelsKept (s : State) : LevelsKept s (idleRestart s) := by
  unfold idleRestart
  split
  · exact .refl s
  · next h => exact idleLoad_levelsKept h
  · exact ⟨by simp, by simp, fun h => recompute_keyLight (s := idleLoad s) h,
      fun h => recompute_levelLaw (s := idleLoad s) h.keyLight⟩

theorem activity_levelsKept (a : Activity) (s : State) : LevelsKept s (activity a s) := by
  have hidle : LevelsKept s (idleActivity a s) := by
    unfold idleActivity
    split
    · exact idleRestart_levelsKept s
    · exact .refl s
  exact hidle.trans (.of_same (by simp [activity]))

theorem activity_lightInv (a : Activity) (h : LightInv s) : LightInv (activity a s) := (activity_levelsKept a s).lightInv h

/-! ### PRESENT (R135, R136) -/

theorem finishPresent_levelsKept (code : ResultCode) (n : Nat) (s : State) : LevelsKept s (finishPresent code n s) := by
  unfold finishPresent
  split
  · exact .refl s
  · exact (LevelsKept.of_same (by simp)).trans (activity_levelsKept _ _)

theorem carryBoundary_levelsKept (c : Carry) (s : State) : LevelsKept s (carryBoundary c s) := by
  have hcopy : ∀ carry, LevelsKept s { s with scanout.carry := carry } := fun _ =>
    .of_same ⟨rfl, rfl, rfl, rfl, rfl, rfl, rfl⟩
  unfold carryBoundary
  split
  · exact hcopy none
  · split
    · split
      · exact hcopy none
      · exact (hcopy none).trans (finishPresent_levelsKept _ _ _)
    · split <;> exact hcopy _

theorem carryRowDone_levelsKept (s : State) : LevelsKept s (carryRowDone s) := by
  unfold carryRowDone
  (repeat' split)
  · exact .refl s
  · next c _ _ =>
    have hrow : LevelsKept s (copyRow c.row s) := .of_same ⟨rfl, rfl, rfl, rfl, rfl, rfl, rfl⟩
    exact hrow.trans (carryBoundary_levelsKept _ _)
  · exact .refl s

theorem resumePictures_levelsKept (s : State) : LevelsKept s (resumePictures s) := by
  have hpicture : LevelsKept s (resumePicture s) := .of_same (by simp)
  unfold resumePictures resumeCarry
  (repeat' split)
  · exact hpicture
  · exact hpicture.trans (carryBoundary_levelsKept _ _)
  · exact hpicture

theorem swap_levelsKept (carry : Bool) (s : State) : LevelsKept s (swap carry s) := by
  have hroles : LevelsKept s { s with scanout.front := s.scanout.front.other, scanout.waiting := none } :=
    .of_same ⟨rfl, rfl, rfl, rfl, rfl, rfl, rfl⟩
  unfold swap
  dsimp only
  split
  · exact hroles.trans (carryBoundary_levelsKept _ _)
  · exact hroles.trans (finishPresent_levelsKept _ _ _)

theorem swapWaiting_levelsKept (s : State) : LevelsKept s (swapWaiting s) := by
  unfold swapWaiting
  split
  · exact .refl s
  · exact swap_levelsKept _ s

theorem takePresent_levelsKept (j : Job) (s : State) : LevelsKept s (takePresent j s) := by
  have hjob : LevelsKept s { s with picture := { s.picture.cleared with job := some j } } :=
    .of_same ⟨rfl, rfl, rfl, rfl, rfl, rfl, rfl⟩
  unfold takePresent
  dsimp only
  split
  · exact .of_same ⟨rfl, rfl, rfl, rfl, rfl, rfl, rfl⟩
  · exact hjob.trans (swap_levelsKept _ _)

theorem verticalBlank_levelsKept (s : State) : LevelsKept s (verticalBlank s) := by
  have hcount : LevelsKept s { s with scanout.frame := s.scanout.frame + 1 } :=
    .of_same ⟨rfl, rfl, rfl, rfl, rfl, rfl, rfl⟩
  unfold verticalBlank
  split
  · exact (hcount.trans (swapWaiting_levelsKept _)).trans (.of_same ⟨rfl, rfl, rfl, rfl, rfl, rfl, rfl⟩)
  · exact .refl s

end

end Sys2Proof.Machine
end

section
/-! PROOFS. The backlight law and the law of the panel under the panel's power sequence, the Power Manager and the key path
(R123 to R126, R146 to R148, R168, R172, R174). -/

namespace Sys2Proof.Machine

section
variable {s t : State}

/-! ### The panel's power sequence (R123 to R126) -/

theorem stageFits_undoStage (found : Option Stage) : stageFits .stopping (some (undoStage found)) = true := by
  rcases found with _ | _ | _ | _ | _ | _ | _ <;> rfl

theorem startPanel_lightInv (hwanted : wanted s = true) (hkey : KeyLightFollows s) : LightInv (startPanel s) :=
  recompute_lightInv ⟨rfl, fun _ => by simpa [wanted] using hwanted⟩ hkey

/-- A stop sequence is in law wherever it begins: it is not wanted, and its levels are those of a panel that is not ON. -/
theorem stopPanel_lightInv {st : Stage} (hst : stageFits .stopping (some st) = true) (hkey : KeyLightFollows s) :
    LightInv (stopPanel st s) := by
  have hentered : PanelLaw (enterStage .stopping st s) := ⟨hst, fun h => by simp [enterStage] at h⟩
  have hswapped := swapWaiting_levelsKept (enterStage .stopping st s)
  exact recompute_lightInv (hswapped.panelLaw hentered) (hswapped.keyLight hkey)

/-- The panel test moves the panel with its levels, or leaves a panel that the wanted condition allows (R123, R126). -/
theorem panelTest_cases (hstage : stageFits s.scanout.panel s.scanout.stage = true) (hkey : KeyLightFollows s) :
    LightInv (panelTest s) ∨ (panelTest s = s ∧ PanelLaw s) := by
  unfold panelTest
  split
  · next hpanel =>
    split
    · next hwanted => exact .inl (startPanel_lightInv hwanted hkey)
    · exact .inr ⟨rfl, hstage, by simp [hpanel]⟩
  · split
    · next hwanted => exact .inr ⟨rfl, hstage, fun _ => by simpa [wanted] using hwanted⟩
    · exact .inl (stopPanel_lightInv (stageFits_undoStage _) hkey)
  · split
    · next hwanted => exact .inr ⟨rfl, hstage, fun _ => by simpa [wanted] using hwanted⟩
    · exact .inl (stopPanel_lightInv rfl hkey)
  · next hpanel => exact .inr ⟨rfl, hstage, by simp [hpanel]⟩

/-- After a change of the wish: the levels do not depend on it. -/
theorem panelTest_lightInv (hstage : stageFits s.scanout.panel s.scanout.stage = true) (hlevel : LevelLaw s) :
    LightInv (panelTest s) := by
  obtain h | ⟨heq, hpanel⟩ := panelTest_cases hstage hlevel.keyLight
  · exact h
  · rw [heq]
    exact (lightInv_iff s).mpr ⟨hpanel, hlevel⟩

/-- After a change of the power state, which the levels depend on: they are to be recomputed (R172, R174). -/
theorem panelTest_panelLaw (hstage : stageFits s.scanout.panel s.scanout.stage = true) (hkey : KeyLightFollows s) :
    PanelLaw (panelTest s) ∧ KeyLightFollows (panelTest s) := by
  obtain h | ⟨heq, hpanel⟩ := panelTest_cases hstage hkey
  · obtain ⟨hpanel, hlevel⟩ := (lightInv_iff _).mp h
    exact ⟨hpanel, hlevel.keyLight⟩
  · rw [heq]
    exact ⟨hpanel, hkey⟩

theorem finishPanel_levelsKept (wish : Bool) (s : State) : LevelsKept s (finishPanel wish s) := .of_same (by simp)

theorem panelOn_lightInv (hwanted : s.power.standby = false ∧ s.scanout.wish = true) (hkey : KeyLightFollows s) :
    LightInv (panelOn s) := by
  have hon : LightInv (recompute (decideSource (restPanel .on s))) := recompute_lightInv ⟨rfl, fun _ => hwanted⟩ hkey
  exact (finishPanel_levelsKept true _).lightInv hon

theorem panelOff_lightInv (hkey : KeyLightFollows s) : LightInv (panelOff s) := by
  have hoff : LightInv (recompute (restPanel .off s)) :=
    recompute_lightInv ⟨rfl, fun h => by simp [restPanel] at h⟩ hkey
  have hrested := (finishPanel_levelsKept false _).lightInv hoff
  exact panelTest_lightInv hrested.stage ((lightInv_iff _).mp hrested).2

/-- A stage within a sequence leaves the panel as dark as it was (R124, R125). -/
theorem enterStage_lightInv {p : PanelState} {st : Stage} (hpanel : s.scanout.panel = p) (hdark : p ≠ .on)
    (hst : stageFits p (some st) = true) (h : LightInv s) : LightInv (enterStage p st s) := by
  subst hpanel
  exact ⟨hst, h.wanted, h.target, h.atOnce, h.keyLight⟩

theorem stageExpiry_lightInv (h : LightInv s) : LightInv (stageExpiry s) := by
  obtain ⟨hpanel, hlevel⟩ := (lightInv_iff s).mp h
  have hstarting : ∀ {st}, s.scanout.stage = some st → st = .rails ∨ st = .signals ∨ st = .enable →
      s.scanout.panel = .starting := fun {st} hst hforward => by
    have hfits := hpanel.stage
    rw [hst] at hfits
    cases hp : s.scanout.panel <;> rcases hforward with rfl | rfl | rfl <;> simp_all [stageFits]
  have hstopping : ∀ {st}, s.scanout.stage = some st → st = .disable ∨ st = .signalsOff → s.scanout.panel = .stopping :=
    fun {st} hst hback => by
      have hfits := hpanel.stage
      rw [hst] at hfits
      cases hp : s.scanout.panel <;> rcases hback with rfl | rfl <;> simp_all [stageFits]
  unfold stageExpiry
  split
  · exact h
  · next st hst =>
    split
    · split
      · exact enterStage_lightInv (hstarting hst (by simp)) (by simp) rfl h
      · exact enterStage_lightInv (hstarting hst (by simp)) (by simp) rfl h
      · exact panelOn_lightInv (h.wanted (.inr (hstarting hst (by simp)))) hlevel.keyLight
      · exact enterStage_lightInv (hstopping hst (by simp)) (by simp) rfl h
      · exact enterStage_lightInv (hstopping hst (by simp)) (by simp) rfl h
      · exact panelOff_lightInv hlevel.keyLight
    · exact h

/-! ### The Power Manager (R168, R170 to R174) -/

theorem enterStandby_lightInv (h : LightInv s) : LightInv (enterStandby s) := by
  obtain ⟨-, hscanout, -, -, -, -, -⟩ := standbyHanded_keeps s
  have hlight : (standbyHanded s).light = s.light := by simp [standbyHanded]
  have hkey : KeyLightFollows (standbyHanded s) := by
    rw [KeyLightFollows, hlight]
    exact h.keyLight
  obtain ⟨hpanel, hkey'⟩ := panelTest_panelLaw (hscanout ▸ h.stage) hkey
  have hfinish := finishPanel_levelsKept true (panelTest (standbyHanded s))
  have hdark := recompute_lightInv (hfinish.panelLaw hpanel) (hfinish.keyLight hkey')
  rw [enterStandby_eq]
  exact hdark.same ⟨rfl, rfl, rfl, rfl, rfl, rfl, rfl⟩

theorem wake_lightInv (w : WakeSource) (h : LightInv s) : LightInv (wake w s) := by
  obtain ⟨hlight, hscanout, -, -, -, -⟩ := wokenTimers_keeps w s
  have hkey : KeyLightFollows (wokenTimers w s) := by
    rw [KeyLightFollows, hlight]
    exact h.keyLight
  obtain ⟨hpanel, hkey'⟩ := panelTest_panelLaw (hscanout ▸ h.stage) hkey
  have hidle := idleRestart_levelsKept (panelTest (wokenTimers w s))
  have hlevels : LightInv (wokenLevels w s) := recompute_lightInv (hidle.panelLaw hpanel) (hidle.keyLight hkey')
  have hblocks : LightInv (wokenBlocks w s) := (resumePictures_levelsKept (wokenLevels w s)).lightInv hlevels
  rw [wake_eq]
  exact hblocks.same (by simp)

theorem wakeSource_lightInv (w : WakeSource) (h : LightInv s) : LightInv (wakeSource w s) := by
  unfold wakeSource
  split
  · exact wake_lightInv w h
  · exact h

theorem ignitionOn_lightInv (h : LightInv s) : LightInv (ignitionOn s) := by
  have hstopped : LightInv { s with power.lingerEnds := none } := h.same ⟨rfl, rfl, rfl, rfl, rfl, rfl, rfl⟩
  exact wakeSource_lightInv .ignitionOn hstopped

theorem ignitionOff_lightInv (h : LightInv s) : LightInv (ignitionOff s) := by
  unfold ignitionOff
  (repeat' split)
  · exact h
  · exact enterStandby_lightInv h
  · exact h.same ⟨rfl, rfl, rfl, rfl, rfl, rfl, rfl⟩

theorem lingerRetime_lightInv (h : LightInv s) : LightInv (lingerRetime s) := by
  unfold lingerRetime
  (repeat' split)
  · exact h
  · exact enterStandby_lightInv h
  · exact h.same ⟨rfl, rfl, rfl, rfl, rfl, rfl, rfl⟩

theorem lingerExpiry_lightInv (h : LightInv s) : LightInv (lingerExpiry s) := by
  unfold lingerExpiry
  split
  · exact enterStandby_lightInv h
  · exact h

theorem sample_lightInv (mv : Nat) (h : LightInv s) : LightInv (sample mv s) := by
  unfold sample
  dsimp only
  split
  · exact h.same ⟨rfl, rfl, rfl, rfl, rfl, rfl, rfl⟩
  · exact (resumePictures_levelsKept _).lightInv (h.recomputed (by simp))

/-! ### The key path -/

theorem pressCases_lightInv (p : Fin 128) (h : LightInv s) : LightInv (pressCases p s) := by
  have hwake := wakeSource_lightInv (.key p) h
  unfold pressCases
  dsimp only
  (repeat' split)
  · exact hwake.same (by simp [mute])
  · exact hwake.same (by simp)
  · exact h.same (by simp)

theorem pressActivity_lightInv (found : State) (h : LightInv s) : LightInv (pressActivity found s) := by
  have horder : LightInv (takeOrder s).2 := h.same ⟨rfl, rfl, rfl, rfl, rfl, rfl, rfl⟩
  unfold pressActivity
  dsimp only
  (repeat' split)
  · exact activity_lightInv _ (lingerExpiry_lightInv horder)
  · exact activity_lightInv _ horder
  · exact activity_lightInv _ h

theorem press_lightInv (p : Fin 128) (h : LightInv s) : LightInv (press p s) := by
  unfold press
  split
  · exact pressActivity_lightInv s (pressCases_lightInv p h)
  · exact h

theorem handDecisions_lightInv (rel pre : List (Fin 128)) (h : LightInv s) : LightInv (handDecisions rel pre s) :=
  List.foldlRecOn pre _ (List.foldlRecOn rel _ h fun _ hs _ _ => hs.same (by simp)) fun _ hs p _ => press_lightInv p hs

theorem fastPass_lightInv (raw : BitVec 128) (h : LightInv s) : LightInv (fastPass raw s) := by
  have hdecided : LightInv (fastPassDecide raw s) := by
    have hmarked : LightInv { s with
        composer.keys := integrated (pressThreshold s) (samples raw s) s.composer.keys,
        scanner.passAt := now s, scanner.driven := true } := h.same ⟨rfl, rfl, rfl, rfl, rfl, rfl, rfl⟩
    exact (handDecisions_lightInv _ _ hmarked).same ⟨rfl, rfl, rfl, rfl, rfl, rfl, rfl⟩
  exact hdecided.same (by simp [fastPass])

end

end Sys2Proof.Machine
end

section
/-! PROOFS. Every step keeps the backlight law and the law of the panel (R123 to R126, R146 to R148). -/

namespace Sys2Proof.Machine

section
variable {s t : State}

/-! ### The contexts -/

theorem applyLight_lightInv (l : LightSettings) (h : LightInv s) : LightInv (applyLight l s) := by
  obtain ⟨htarget, hatOnce⟩ := recompute_levels (idleRetime l.idleTimeout { s with light.settings := l })
  refine (lightInv_iff _).mpr ⟨⟨?_, ?_⟩, setOutput_levelLaw htarget hatOnce⟩
  · simpa [applyLight] using h.stage
  · simpa [applyLight] using h.wanted

theorem applyWish_lightInv (wish : Bool) (h : LightInv s) : LightInv (applyWish wish s) := by
  obtain ⟨-, hlevel⟩ := (lightInv_iff s).mp h
  have hstored : LevelLaw { s with scanout.wish := wish } := ⟨hlevel.target, hlevel.atOnce, hlevel.keyLight⟩
  unfold applyWish
  dsimp only
  split
  · next hwakes =>
    obtain ⟨rfl, -⟩ := Bool.and_eq_true_iff.mp hwakes
    have hwished : LightInv { s with scanout.wish := true } :=
      (lightInv_iff _).mpr ⟨⟨h.stage, fun hp => ⟨(h.wanted hp).1, rfl⟩⟩, hstored⟩
    exact wakeSource_lightInv .host hwished
  · exact panelTest_lightInv h.stage hstored

theorem takePanel_lightInv (j : Job) (h : LightInv s) : LightInv (takePanel j s) := by
  have hwish := applyWish_lightInv (panelWish j.params) h
  unfold takePanel
  dsimp only
  split <;> exact hwish.same (by simp)

theorem takeLight_lightInv (j : Job) (h : LightInv s) : LightInv (takeLight j s) := by
  unfold takeLight
  split
  · exact applyLight_lightInv _ (h.same ⟨rfl, rfl, rfl, rfl, rfl, rfl, rfl⟩)
  · exact h.same (by simp)

theorem takeSettings_lightInv (j : Job) (h : LightInv s) : LightInv (takeSettings j s) := by
  have hjob : ∀ job, LightInv { s with exch.settingsJob := job } := fun _ => h.same ⟨rfl, rfl, rfl, rfl, rfl, rfl, rfl⟩
  unfold takeSettings
  (repeat' split)
  · have hlamps : LightInv (applyIndicators (indicatorsSet j.params) (indicatorsClear j.params)
        { s with exch.settingsJob := some j }) :=
      ⟨h.stage, h.wanted, h.target, h.atOnce, h.keyLight⟩
    exact hlamps
  · exact takeLight_lightInv j h
  · have hset : LightInv (vehicleSettings j.params
        { s with exch.settingsJob := some { j with flags := clampedFlag (vehicleClamped j.params) } }) :=
      (hjob _).same ⟨rfl, rfl, rfl, rfl, rfl, rfl, rfl⟩
    exact lingerRetime_lightInv hset
  · exact takePanel_lightInv j h
  · exact h.same (by simp)

theorem oneTake_lightInv (ht : oneTake s = some t) (h : LightInv s) : LightInv t := by
  obtain ⟨-, e, -, rfl⟩ | ⟨-, -, e, -, rfl⟩ | ⟨-, e, -, rfl⟩ := oneTake_cases ht
  · exact takeSettings_lightInv _ (h.same (by simp))
  · have hactive : LightInv (activate e s) := h.same (by simp)
    unfold takeByPicture
    dsimp only
    split
    · exact (takePresent_levelsKept _ _).lightInv hactive
    · exact hactive.same (by simp)
  · exact h.same (by simp)

theorem look_lightInv (h : LightInv s) : LightInv (look s) := by
  unfold look
  generalize s.exch.queue.length = n
  induction n generalizing s with
  | zero => exact h
  | succ n ih =>
    unfold lookFor
    split
    · exact h
    · next t ht => exact ih (oneTake_lightInv ht h)

/-! ### The tablet's writes and the session -/

theorem endSession_levelsKept (s : State) : LevelsKept s (endSession s) := by
  unfold endSession
  split
  · exact .of_same (by simp [closeSession_eq])
  · exact .refl s

theorem openSession_levelsKept (s : State) : LevelsKept s (openSession s) := .of_same (by simp [openSession, openExchange])

theorem sessionWrite_levelsKept (v : Word) (s : State) : LevelsKept s (sessionWrite v s) := by
  unfold sessionWrite
  (repeat' split)
  · exact .refl s
  · exact openSession_levelsKept s
  · exact .of_same (by simp)
  · exact endSession_levelsKept s
  · exact .of_same (by simp)

theorem postWrite_lightInv (k : Fin 16) (h : LightInv s) : LightInv (postWrite k s) := by
  unfold postWrite
  split
  · exact look_lightInv (h.same (by simp))
  · exact h.same (by simp)

/-- A cancel withdraws a PRESENT that waits; the panel and the levels stay (R137). -/
theorem cancelPicture_levelsKept (s : State) : LevelsKept s (cancelPicture s) := by
  unfold cancelPicture
  (repeat' split)
  · exact .refl s
  · exact .of_same (by simp)
  · exact .of_same (by simp)
  · exact .refl s

theorem cancelActive_lightInv (k : Fin 16) (h : LightInv s) : LightInv (cancelActive k s) := by
  have hcancelling : LightInv (setSlotState k .cancelling s) := h.same (by simp)
  unfold cancelActive
  dsimp only
  (repeat' split)
  · exact (cancelPicture_levelsKept _).lightInv hcancelling
  · exact hcancelling.same (by simp)
  · exact hcancelling.same (by simp)
  · exact hcancelling

theorem cancelWrite_lightInv (k : Fin 16) (h : LightInv s) : LightInv (cancelWrite k s) := by
  unfold cancelWrite
  (repeat' split)
  · exact h.same (by simp)
  · exact h.same (by simp)
  · exact look_lightInv (h.same (by simp))
  · exact look_lightInv (cancelActive_lightInv k h)
  all_goals exact h

theorem slotStateWrite_lightInv (k : Fin 16) (v : Word) (h : LightInv s) : LightInv (slotStateWrite k v s) := by
  unfold slotStateWrite
  (repeat' split)
  · exact h.same (by simp)
  · exact postWrite_lightInv k h
  · exact cancelWrite_lightInv k h
  · exact h.same (by simp)

theorem guardedWrite_lightInv (g : Guarded) (v : Word) (h : LightInv s) : LightInv (guardedWrite g v s) := by
  cases g with
  | session => exact (sessionWrite_levelsKept v s).lightInv h
  | slotState k => exact slotStateWrite_lightInv k v h
  | taken | mark | acknowledge => exact h.same (by simp [guardedWrite])

theorem exchangeWrite_lightInv (w : BitVec 14) (be : BitVec 4) (v : Word) (h : LightInv s) :
    LightInv (exchangeWrite w be v s) := by
  unfold exchangeWrite
  (repeat' split)
  · exact h.same ⟨rfl, rfl, rfl, rfl, rfl, rfl, rfl⟩
  · exact h.same (by simp)
  · exact h
  · exact guardedWrite_lightInv _ v h
  · exact h.same (by simp)

/-! ### Lines, measurement and link -/

/-- Drive mode is an input of the target: a change of it recomputes (R146, R157). -/
theorem deriveDrive_lightInv (h : LightInv s) : LightInv (deriveDrive s) := by
  unfold deriveDrive
  dsimp only
  split
  · exact h
  · exact h.recomputed (by simp)

theorem lineChange_lightInv (line : Line) (level : Bool) (h : LightInv s) : LightInv (lineChange line level s) := by
  cases line with
  | ign =>
    have hderived : LightInv (deriveDrive (plainRecord .vehicle (if level then 1 else 2) { s with lines.ignOn := level })) :=
      deriveDrive_lightInv (h.same (by simp))
    have hpower : ∀ u, LightInv u → LightInv (if level then ignitionOn u else ignitionOff u) := fun u hu => by
      split
      · exact ignitionOn_lightInv hu
      · exact ignitionOff_lightInv hu
    exact activity_lightInv .vehicle (hpower _ hderived)
  | park =>
    have hengaged : LightInv { s with lines.parkEngaged := level } := h.same ⟨rfl, rfl, rfl, rfl, rfl, rfl, rfl⟩
    exact activity_lightInv .vehicle (deriveDrive_lightInv hengaged)
  | presence =>
    have hdocked : LightInv { s with lines.docked := level } := h.same ⟨rfl, rfl, rfl, rfl, rfl, rfl, rfl⟩
    simp only [lineChange, presenceChange]
    split
    · exact wakeSource_lightInv .dockArrival hdocked
    · exact (endSession_levelsKept _).lightInv hdocked
  | latch =>
    have hopened : LightInv (plainRecord .latch (if level then 1 else 2) { s with lines.latchOpen := level }) :=
      h.same (by simp)
    simp only [lineChange, latchChange]
    split
    · next hl => simpa [hl] using wakeSource_lightInv .latch hopened
    · next hl => simpa [hl] using hopened

/-- An edge moves a level at an input and a qualification timer, and drive mode with neither (R155, R157). -/
theorem lineEdge_drive (line : Line) (high : Bool) (s : State) : (lineEdge line high s).lines.drive = s.lines.drive := by
  unfold lineEdge
  dsimp only
  (repeat' split)
  · rfl
  · rfl
  · exact setLineTimer_drive line _ _

theorem lineExpiry_lightInv (line : Line) (h : LightInv s) : LightInv (lineExpiry line s) := by
  have hstopped : LightInv (setLineTimer line none s) := h.same (by simp)
  unfold lineExpiry
  dsimp only
  (repeat' split)
  · exact hstopped
  · exact lineChange_lightInv line _ hstopped
  · exact h

theorem supplyDone_lightInv (code : BitVec 10) (h : LightInv s) : LightInv (supplyDone code s) := by
  have hread : LightInv { s with measure.millivolts := BitVec.ofNat 16 (millivoltsOf code) } :=
    h.same ⟨rfl, rfl, rfl, rfl, rfl, rfl, rfl⟩
  exact (sample_lightInv (millivoltsOf code) hread).same ⟨rfl, rfl, rfl, rfl, rfl, rfl, rfl⟩

theorem lightTick_lightInv (h : LightInv s) : LightInv (lightTick s) := by
  obtain ⟨hpanel, hlevel⟩ := (lightInv_iff s).mp h
  have hmarked : LevelLaw { s with light.tickAt := some (now s) } := ⟨hlevel.target, hlevel.atOnce, hlevel.keyLight⟩
  unfold lightTick
  split
  · exact (lightInv_iff _).mpr ⟨⟨by simpa using hpanel.stage, by simpa using hpanel.wanted⟩, tickStep_levelLaw hmarked⟩
  · exact h

theorem idleExpiry_lightInv (h : LightInv s) : LightInv (idleExpiry s) := by
  unfold idleExpiry
  split
  · exact h.recomputed ⟨rfl, rfl, rfl, rfl, rfl⟩
  · exact h

theorem failFetches_lightInv (n : Nat) (h : LightInv s) : LightInv (failFetches n s) := by
  induction n generalizing s with
  | zero => exact h
  | succ n ih =>
    cases hf : fetchesHostRow s with
    | false => rwa [failFetches_none _ hf]
    | true =>
      rw [failFetches_fetching _ hf]
      split
      · exact ih (look_lightInv (h.same (by simp)))
      · exact h.same ⟨rfl, rfl, rfl, rfl, rfl, rfl, rfl⟩

theorem giveUpReads_levelsKept (s : State) : LevelsKept s (giveUpReads s) := .of_same (by simp)

theorem linkDown_lightInv (h : LightInv s) : LightInv (linkDown s) := by
  have hdown : LightInv { s with link.up := false } := h.same ⟨rfl, rfl, rfl, rfl, rfl, rfl, rfl⟩
  unfold linkDown
  split
  · exact (giveUpReads_levelsKept _).lightInv
      ((endSession_levelsKept _).lightInv (failFetches_lightInv (s.exch.queue.length + 1) hdown))
  · exact h

/-! ### The starts -/

/-- What stands in work leaves the panel and the levels as they are at a reset (R23). -/
theorem workReset_levelsKept (s : State) : LevelsKept s (workReset s) := by
  have hcarry : ∀ s : State, LevelsKept s (stopCarry s) := fun s => by
    unfold stopCarry
    exact .of_same ⟨rfl, rfl, rfl, rfl, rfl, rfl, rfl⟩
  have hgiven : LevelsKept (endSession s) (giveUpReads (abandonPicture (endSession s))) := .of_same (by simp)
  exact ((endSession_levelsKept s).trans hgiven).trans (hcarry _)

/-- The panel of a reset acts on the state found; the levels are then recomputed under the default settings (R138, R153). -/
theorem resetFunction_lightInv (h : LightInv s) : LightInv (resetFunction s) := by
  have hwork := (workReset_levelsKept s).lightInv h
  have hstage : stageFits (beforePanelReset s).scanout.panel (beforePanelReset s).scanout.stage = true := hwork.stage
  obtain ⟨hpanel, -⟩ : PanelLaw (panelReset (beforePanelReset s)) ∧ _ :=
    panelTest_panelLaw (s := { beforePanelReset s with scanout.wish := true, scanout.presented := false }) hstage
      hwork.keyLight
  obtain ⟨htarget, hatOnce⟩ := recompute_levels { panelReset (beforePanelReset s) with
    light.settings := LightSettings.default, light.idle := .running,
    light.idleEnds := after (panelReset (beforePanelReset s)) 120000, light.lamps := 0 }
  rw [resetFunction_eq]
  refine (lightInv_iff _).mpr ⟨⟨by simpa using hpanel.stage, by simpa using hpanel.wanted⟩, ?_⟩
  exact setOutput_levelLaw htarget hatOnce

theorem controlWrite_lightInv (v : Word) (h : LightInv s) : LightInv (controlWrite v s) := by
  unfold controlWrite
  dsimp only
  split
  · exact resetFunction_lightInv (h.same (by simp))
  · exact h.same (by simp)

theorem freshStart_lightInv (levels : LineLevels) (s : State) : LightInv (freshStart levels s) :=
  lightInv_reset.same ⟨rfl, rfl, rfl, rfl, rfl, rfl, rfl⟩

/-! ### Every step -/

theorem effect_lightInv (c : Instr) (h : LightInv s) : LightInv (effect c s) := by
  cases c with
  | exchangeMemoryWrite w be v => exact exchangeWrite_lightInv w be v h
  | sessionOpen | sessionClose => exact (sessionWrite_levelsKept _ s).lightInv h
  | post k => exact postWrite_lightInv k h
  | cancel k => exact cancelWrite_lightInv k h
  | interruptEnableWrite _ | functionReset _ => exact controlWrite_lightInv _ h
  | registerWriteIgnored w be v =>
    simp only [effect, registerWrite]
    split
    · exact controlWrite_lightInv v h
    · exact h
  | linkDown => exact linkDown_lightInv h
  | linkReset =>
    have hended := (giveUpReads_levelsKept _).lightInv ((endSession_levelsKept s).lightInv h)
    exact hended.same ⟨rfl, rfl, rfl, rfl, rfl, rfl, rfl⟩
  | fastPass levels => exact look_lightInv (fastPass_lightInv _ h)
  | carryCopyRowComplete => exact look_lightInv ((carryRowDone_levelsKept s).lightInv h)
  | verticalBlankStart => exact look_lightInv ((verticalBlank_levelsKept s).lightInv h)
  | panelStageExpiry => exact look_lightInv (stageExpiry_lightInv h)
  | clearingEnd =>
    refine look_lightInv ?_
    unfold endClearing
    split
    · exact h.same ⟨rfl, rfl, rfl, rfl, rfl, rfl, rfl⟩
    · exact h
  | supplyConversionComplete code => exact look_lightInv (supplyDone_lightInv code h)
  | ambientConversionComplete code => exact h.recomputed ⟨rfl, rfl, rfl, rfl, rfl⟩
  | lightTick => exact lightTick_lightInv h
  | idleExpiry => exact idleExpiry_lightInv h
  | qualificationExpiry line => exact look_lightInv (lineExpiry_lightInv line h)
  | lingerExpiry => exact look_lightInv (lingerExpiry_lightInv h)
  | survivalComparatorTrip =>
    exact ((endSession_levelsKept s).lightInv h).same ⟨rfl, rfl, rfl, rfl, rfl, rfl, rfl⟩
  | supplyDipStart => exact (freshStart_lightInv s.lines.levels s).same ⟨rfl, rfl, rfl, rfl, rfl, rfl, rfl⟩
  | coldStart levels => exact freshStart_lightInv levels s
  | settingsCompletion | profileWaitExpiry | slowPass _ | hostReadCompletion _ _ _ _ _ | hostReadTimeout _
  | rowWriteComplete => exact look_lightInv (h.same (by simp))
  | free _ | attentionAcknowledge _ | journalTakenWrite _ | notifyMarkWrite _ | msiEnableChange _
  | interruptDisableChange _ | busMasteringChange _ | linkUp | windowEnd | slowScanEntry | downTimeAdvance | hold _
  | stuck _ | repeatExpiry | conversionDue | lineEdge _ _ | dockTimeAdvance =>
    exact h.same (by simp [effect, startConversion, lineEdge_drive])

/-! ### What the law says of the output -/

theorem capWhen_le (cap level : Nat) : capWhen true cap level ≤ cap := min_le_right level cap

/-- A panel that is not ON, or STANDBY, leaves the backlight and the keys dark (R146 to R148). -/
theorem LightInv.dark_output (h : LightInv s) (hdark : dark s = true) : s.light.output = 0 ∧ s.light.keyLight = 0 := by
  have houtput : s.light.output = 0 := by
    rw [h.atOnce (by simp [immediate, hdark]), h.target, targetLevel, hdark]
    rfl
  exact ⟨houtput, by rw [h.keyLight, houtput, Nat.zero_mul, Nat.zero_div]⟩

/-- In CRANK the output is at the target at once, and capped to 8 (R146, R147). -/
theorem LightInv.crank_output (h : LightInv s) (hband : s.power.band = .crank) : s.light.output ≤ 8 := by
  rw [h.atOnce (by simp [immediate, hband]), h.target]
  simp only [targetLevel, hband, beq_self_eq_true]
  split
  · exact Nat.zero_le 8
  · exact capWhen_le 8 _

end

/-- Settles O6: the effect of every command keeps the law, which commands that wait do not bear on; the bounds of the output
follow from the law. -/
theorem stepKeepsBacklightLaw : Obligations.StepKeepsBacklightLaw := by
  intro s t h ht
  have hlaw : LightInv t := step_preserves (fun _ _ h => h.same ⟨rfl, rfl, rfl, rfl, rfl, rfl, rfl⟩)
    (fun c _ h => effect_lightInv c h) h ht
  refine ⟨hlaw, fun hoff => hlaw.dark_output ?_, hlaw.crank_output⟩
  rcases hoff with hpanel | hstandby
  · simp [dark, hpanel]
  · simp [dark, hstandby]

end Sys2Proof.Machine
end

section
/-! PROOFS. Dock Time and the frame number: what moves the clocks (R24, R131, R166). -/

namespace Sys2Proof.Machine

/-- Of the commands that are no start from power, only the two clock events move a clock. -/
theorem effect_clocks {c : Instr} (s : State) (hdock : c ≠ .dockTimeAdvance) (hblank : c ≠ .verticalBlankStart)
    (hdip : c ≠ .supplyDipStart) (hcold : ∀ l, c ≠ .coldStart l) :
    (effect c s).power.dockTime = s.power.dockTime ∧ (effect c s).scanout.frame = s.scanout.frame := by
  have hclearing : (endClearing s).power = s.power ∧ (endClearing s).scanout = s.scanout := by
    unfold endClearing
    split <;> exact ⟨rfl, rfl⟩
  cases c with
  | dockTimeAdvance => exact absurd rfl hdock
  | verticalBlankStart => exact absurd rfl hblank
  | supplyDipStart => exact absurd rfl hdip
  | coldStart l => exact absurd rfl (hcold l)
  | clearingEnd => simp [effect, hclearing]
  | _ => simp [effect, startConversion]

/-- A vertical blank start counts the frame while the panel is ON, and its swap does not (R131, R135). -/
theorem verticalBlank_frame (s : State) :
    (verticalBlank s).scanout.frame = if s.scanout.panel = .on then s.scanout.frame + 1 else s.scanout.frame := by
  unfold verticalBlank
  split <;> simp

/-- Settles O15: the two clock events by the gate of the hold, every other effect by its frame. -/
theorem onlyTheirEventsMoveTheClocks : Obligations.OnlyTheirEventsMoveTheClocks := by
  intro c s t ht hdip hcold
  by_cases hdock : c = .dockTimeAdvance
  · subst hdock
    cases hheld : s.power.held <;> cases ht <;> simp [whenRunning, hheld]
  by_cases hblank : c = .verticalBlankStart
  · subst hblank
    cases hheld : s.power.held <;> cases ht <;> simp [whenRunning, hheld, verticalBlank_frame]
  · simp only [hdock, hblank, false_and, if_false]
    obtain rfl | rfl := exec_next ht
    · exact ⟨rfl, rfl⟩
    · exact effect_clocks s hdock hblank hdip hcold

end Sys2Proof.Machine
end

section
/-! PROOFS. The completion of a PRESENT, the vertical blank start and the take of a PRESENT (R131 to R136, R149, R170). -/

namespace Sys2Proof.Machine

section
variable {s : State}

/-! ### The completion of a PRESENT (R135, R136) -/

/-- An activity event moves the timers and the levels, and nothing else (R149, R170). -/
theorem activity_eq (a : Activity) (s : State) :
    activity a s = { s with power := (activity a s).power, light := (activity a s).light } := by
  obtain ⟨hpending, hmem, hlink, hexch, hjournal, hscanner, hcomposer, hprofile, hpicture, hframes, hscanout, hmeasure,
    hlines, hfree⟩ := activity_keeps a s
  rw [← hpending, ← hmem, ← hlink, ← hexch, ← hjournal, ← hscanner, ← hcomposer, ← hprofile, ← hpicture, ← hframes,
    ← hscanout, ← hmeasure, ← hlines, ← hfree]

/-- A PRESENT that `j` stands for, complete with its code and count, before its activity event. -/
def presentEnded (j : Job) (code : ResultCode) (count messages : Nat) (s : State) : State :=
  { s with
    picture := { s.picture with job := none }, scanout := { s.scanout with presented := true },
    link := { s.link with messages := messages },
    exch := { s.exch with
      slots := s.exch.slots.set j.slot.val (completedSlot s j.slot code.endState code 0 count),
      attention := if j.notify then s.exch.attention ||| 2 else s.exch.attention } }

theorem finishPresent_ended {j : Job} (hj : s.picture.job = some j) (code : ResultCode) (count : Nat) :
    ∃ messages, finishPresent code count s = activity .picture (presentEnded j code count messages s) := by
  obtain ⟨messages, hdone⟩ := complete_eq j.slot j.notify code 0 count { s with picture.job := none }
  refine ⟨messages, ?_⟩
  simp only [finishPresent, hj, completeJob, hdone]
  rfl

/-- What a completion moves, and its activity event (R135, R149, R170). -/
theorem finishPresent_eq {j : Job} (hj : s.picture.job = some j) (code : ResultCode) (count : Nat) :
    ActivityTaken 1 s (finishPresent code count s) ∧ finishPresent code count s =
      { presentEnded j code count (finishPresent code count s).link.messages s with
        power := (finishPresent code count s).power, light := (finishPresent code count s).light } := by
  obtain ⟨messages, hended⟩ := finishPresent_ended hj code count
  have htaken : ActivityTaken 1 s (activity .picture (presentEnded j code count messages s)) :=
    activity_taken .picture (presentEnded j code count messages s)
  have heq := activity_eq .picture (presentEnded j code count messages s)
  have hlink : (activity .picture (presentEnded j code count messages s)).link.messages = messages := by
    rw [(activity_keeps _ _).2.2.1]
    rfl
  rw [hended, hlink]
  exact ⟨htaken, heq⟩

/-! ### The vertical blank start (R131, R132, R135) -/

/-- The source that a presented flag gives, the session and drive blanking as they stand (R132). -/
def sourceOf (s : State) (presented : Bool) : Source :=
  if s.exch.sessionOpen = true ∧ presented = true ∧ (s.lines.drive && s.scanout.driveBlanking) = false then .front
  else .standby

/-- The source depends on the presented flag and on what a swap leaves. -/
theorem chosenSource_of {v : State} (hopen : v.exch.sessionOpen = s.exch.sessionOpen) (hlines : v.lines = s.lines)
    (hblank : v.scanout.driveBlanking = s.scanout.driveBlanking) : chosenSource v = sourceOf s v.scanout.presented := by
  rw [chosenSource_eq, hopen, hlines, hblank, sourceOf]

/-- The frame counted, at a vertical blank start (R131). -/
def counted (s : State) : State := { s with scanout := { s.scanout with frame := s.scanout.frame + 1 } }

theorem exec_verticalBlank (h : Running s) : exec .verticalBlankStart s = .next (look (verticalBlank s)) :=
  next_whenRunning h fun s => look (verticalBlank s)

theorem verticalBlank_off (h : s.scanout.panel ≠ .on) : verticalBlank s = s := if_neg h

theorem verticalBlank_unwaited (hon : s.scanout.panel = .on) (hw : s.scanout.waiting = none) :
    verticalBlank s = decideSource (counted s) := by
  have hswap : swapWaiting (counted s) = counted s := by
    have hnone : (counted s).scanout.waiting = none := hw
    rw [swapWaiting, hnone]
  rw [← hswap]
  exact if_pos hon

theorem verticalBlank_waited {carry : Bool} (hon : s.scanout.panel = .on) (hw : s.scanout.waiting = some carry) :
    verticalBlank s = decideSource (swap carry (counted s)) := by
  have hswap : swapWaiting (counted s) = swap carry (counted s) := by
    have hsome : (counted s).scanout.waiting = some carry := hw
    rw [swapWaiting, hsome]
  rw [← hswap]
  exact if_pos hon

/-- A swap with carry moves the scanout alone (R135, R136). -/
theorem swap_carry_scanout (s : State) : swap true s = { s with scanout := (swap true s).scanout } := by rw [swap_carry]

/-- A swap without carry completes its PRESENT, and moves no more than that (R135). -/
theorem swap_done_eq {j : Job} (hj : s.picture.job = some j) : swap false s = { s with
    scanout := (swap false s).scanout, picture := (swap false s).picture, power := (swap false s).power,
    light := (swap false s).light, link := { s.link with messages := (swap false s).link.messages },
    exch := { s.exch with
      slots := s.exch.slots.set j.slot.val (completedSlot s j.slot .done .ok 0 0),
      attention := if j.notify then s.exch.attention ||| 2 else s.exch.attention } } := by
  obtain ⟨-, heq⟩ := finishPresent_eq (s := { s with scanout.front := s.scanout.front.other, scanout.waiting := none })
    hj .ok 0
  have hswap : swap false s =
      finishPresent .ok 0 { s with scanout.front := s.scanout.front.other, scanout.waiting := none } := rfl
  rw [hswap]
  generalize finishPresent .ok 0 { s with scanout.front := s.scanout.front.other, scanout.waiting := none } = v at heq ⊢
  rw [heq]
  rfl

/-- The swap of either kind moves the Panel Port, the engine, the exchange, the timers and the levels, and the count of
messages (R135). -/
theorem swap_moves {j : Job} (carry : Bool) (hj : s.picture.job = some j) : swap carry s = { s with
    scanout := (swap carry s).scanout, picture := (swap carry s).picture, exch := (swap carry s).exch,
    power := (swap carry s).power, light := (swap carry s).light,
    link := { s.link with messages := (swap carry s).link.messages } } := by
  cases carry with
  | true =>
    rw [swap_carry]
  | false =>
    have heq := swap_done_eq hj
    generalize swap false s = v at heq ⊢
    rw [heq]

end

/-- Settles O49: the blank by what waits at it; the take at the POST by the panel. -/
theorem verticalBlankSwapsAndDecides : Obligations.VerticalBlankSwapsAndDecides := by
  refine ⟨fun s h hrun => ⟨fun hoff => ?_, fun hon hw => ?_, fun carry j hon hw hj => ?_⟩,
    fun s k h hlinked ho hk hq hfree hheld hkind => ?_⟩
  · rw [exec_verticalBlank hrun, verticalBlank_off hoff]
  · have hsource := chosenSource_of (s := s) (v := counted s) rfl rfl rfl
    rw [exec_verticalBlank hrun, verticalBlank_unwaited hon hw, decideSource, hsource]
    rfl
  · have hswapped : Swapped carry j (counted s) (swap carry (counted s)) := swap_swapped carry hj h.slots
    obtain ⟨-, hscanout, -⟩ := id hswapped
    have hsource : chosenSource (swap carry (counted s)) = sourceOf s (swap carry (counted s)).scanout.presented :=
      chosenSource_of (by simp [counted]) (by simp [counted]) (by rw [hscanout]; rfl)
    refine ⟨swap carry (counted s), ?_, hswapped, ?_, ?_⟩
    · rw [exec_verticalBlank hrun, verticalBlank_waited hon hw, decideSource, hsource]
      rfl
    · rintro rfl
      exact swap_carry_scanout (counted s)
    · rintro rfl
      exact swap_done_eq (s := counted s) hj
  · have hpicture : isPictureKind (s.mem.read (0x0104 + 64 * k.val)) = true := by rw [hkind]; decide
    have hexec := exec_post_picture hlinked ho hk h.slots hq hfree hheld hpicture
    rw [if_pos hkind] at hexec
    have hjob : jobAtPost k s = ⟨k, kindPresent, s.mem.read (0x0106 + 64 * k.val) != 0,
        s.mem.reads (0x011C + 64 * k.val) 36, 0⟩ := by rw [jobAtPost, hkind]
    have hcarry : presentCarry (jobAtPost k s).params = decide (s.mem.read (0x011C + 64 * k.val) ≠ 0) := by
      rw [presentCarry, jobAtPost, param8_reads _ _ (by omega), Bool.eq_iff_iff]
      simp
    have hqueue : takenAtPost k s = { s with exch := { s.exch with
        slots := s.exch.slots.set k.val ⟨.active, .ok, 0, s.exch.nextPost, 0, 0, 0⟩,
        nextPost := s.exch.nextPost + 1 } } := by
      rw [takenAtPost, ← hq]
    intro carry j taken
    have htaken : { takenAtPost k s with picture := { (takenAtPost k s).picture.cleared with job := some (jobAtPost k s) } } =
        taken := by
      rw [hqueue, hjob]
      rfl
    have htake : takePresent (jobAtPost k s) (takenAtPost k s) = if s.scanout.panel = .on then
        { taken with scanout := { s.scanout with waiting := some carry } } else swap carry taken := by
      rw [takePresent, hcarry, htaken]
      rfl
    rw [hexec, htake]
    refine ⟨fun hon => by rw [if_pos hon], fun hoff => ⟨_, by rw [if_neg hoff], ?_, ?_⟩⟩
    · exact swap_swapped carry rfl (by simpa [taken] using h.slots)
    · exact swap_moves (s := taken) carry rfl

end Sys2Proof.Machine
end

section
/-! PROOFS. The end of a row of the carry copy (R136, R137). -/

namespace Sys2Proof.Machine

section
variable {s : State}

/-! ### The row copied (R105, R136) -/

theorem frontBuffer_ne_backBuffer (s : State) : frontBuffer s ≠ backBuffer s := by
  unfold frontBuffer backBuffer
  split <;> simp

theorem backBuffer_ne_standby (s : State) : backBuffer s ≠ .standby := by
  unfold backBuffer
  split <;> simp

/-- The bytes of the back buffer after a row is copied: the front buffer's in that row, its own elsewhere. -/
theorem read_copyRow {y : Nat} (hwf : (s.frames.get (backBuffer s)).wf = true) (x : Nat) :
    ((copyRow y s).frames.get (backBuffer s)).read x =
      if 2560 * y ≤ x ∧ x < 2560 * y + 2560 then (s.frames.get (frontBuffer s)).read x
      else (s.frames.get (backBuffer s)).read x := by
  have hlength : ∀ (m : Memory) a n, (m.reads a n).length = n := fun m a n => by simp [Memory.reads]
  have hbyte : ∀ (m : Memory) a {i n : Nat}, i < n → (m.reads a n).getD i 0 = m.read (a + i) := fun m a _ _ hi =>
    param8_reads m a hi
  rw [copyRow_frames, get_set_same, Memory.read_writes hwf, hlength, Config.rowBytes, Nat.mul_comm y]
  split
  · next hx => rw [hbyte _ _ (by omega), Nat.add_sub_cancel' hx.1]
  · rfl

/-- A row copied changes the back buffer alone. -/
theorem copyRow_others (y : Nat) (s : State) :
    (copyRow y s).frames.get (frontBuffer s) = s.frames.get (frontBuffer s) ∧
    (copyRow y s).frames.standby = s.frames.standby ∧ (copyRow y s).frames.clearing = s.frames.clearing := by
  rw [copyRow_frames]
  exact ⟨get_set_other _ _ (frontBuffer_ne_backBuffer s),
    get_set_other s.frames (buf' := .standby) _ (backBuffer_ne_standby s).symm, set_clearing _ _ _⟩

/-! ### The boundary after a row (R136, R137) -/

/-- A carry copy at the boundary after its row. -/
def carryNext (c : Carry) : Carry := { c with row := c.row + 1, inRow := false }

theorem carryRowDone_inRow {c : Carry} (hc : s.scanout.carry = some c) (hrow : c.inRow = true) :
    carryRowDone s = carryBoundary (carryNext c) (copyRow c.row s) := by
  simp only [carryRowDone, hc, hrow, if_true]
  rfl

theorem carryBoundary_stopping {c : Carry} (h : c.stopping = true) (s : State) :
    carryBoundary c s = { s with scanout.carry := none } := by simp [carryBoundary, h]

theorem carryBoundary_within {c : Carry} (h : c.stopping = false) (hrow : c.row < 800) (s : State) :
    carryBoundary c s = { s with scanout.carry := some { c with inRow := !pauses s } } := by
  simp only [carryBoundary, h, Bool.false_eq_true, if_false, Config.panelHeight, Nat.not_le.mpr hrow]
  cases pauses s <;> rfl

theorem carryBoundary_abandoned {c : Carry} (h : c.stopping = false) (hrow : 800 ≤ c.row) (ha : c.abandoned = true)
    (s : State) : carryBoundary c s = { s with scanout.carry := none } := by
  simp [carryBoundary, h, Config.panelHeight, hrow, ha]

theorem carryBoundary_last {c : Carry} (h : c.stopping = false) (hrow : 800 ≤ c.row) (ha : c.abandoned = false)
    (s : State) : carryBoundary c s =
      finishPresent (if pictureCancelling s then .cancelled else .ok) 800 { s with scanout.carry := none } := by
  simp [carryBoundary, h, Config.panelHeight, hrow, ha]

theorem pictureCancelling_eq {j : Job} (hj : s.picture.job = some j) :
    pictureCancelling s = decide ((slot s j.slot).state = .cancelling) := by
  simp only [pictureCancelling, hj]
  rfl

end

/-- Settles O48: the row by the rules of a memory, the boundary by its cases. -/
theorem carryCopyRowLands : Obligations.CarryCopyRowLands := by
  intro s c _ hrun hc hrow hlt hwf
  have hexec : exec .carryCopyRowComplete s = .next (look (carryRowDone s)) :=
    next_whenRunning hrun fun s => look (carryRowDone s)
  have hdone := carryRowDone_inRow hc hrow
  have hframes : (carryRowDone s).frames = (copyRow c.row s).frames := by rw [hdone, (carryBoundary_keeps _ _).2.2.2.2.2.2.1]
  obtain ⟨hfront, hstandby, hclearing⟩ := copyRow_others c.row s
  refine ⟨carryRowDone s, hexec, fun x hx => ?_, fun a ha => ?_, ?_, ?_, ?_, ?_⟩
  · rw [hframes, read_copyRow hwf, if_pos (by omega)]
  · rw [hframes, read_copyRow hwf, if_neg (by omega)]
  · rw [hframes, hfront]
  · rw [hframes, hstandby]
  · rw [hframes, hclearing]
  · rw [hframes, hdone]
    intro ends
    refine ⟨fun hstop => ?_, fun hstop hmore => ?_, fun hstop hlast habandoned => ?_, fun j hstop hlast hin hj => ?_⟩
    · exact carryBoundary_stopping (c := carryNext c) hstop _
    · exact carryBoundary_within (c := carryNext c) hstop (by simp [carryNext]; omega) _
    · exact carryBoundary_abandoned (c := carryNext c) hstop (by simp [carryNext]; omega) habandoned _
    · have hcancelling : pictureCancelling (copyRow c.row s) = decide ((slot s j.slot).state = .cancelling) :=
        pictureCancelling_eq (s := copyRow c.row s) hj
      have hends := finishPresent_eq (s := { copyRow c.row s with scanout.carry := none }) hj
      rw [carryBoundary_last (c := carryNext c) hstop (by simp [carryNext]; omega) hin, hcancelling]
      by_cases hcancel : (slot s j.slot).state = .cancelling
      · rw [if_pos hcancel, if_pos (decide_eq_true hcancel)]
        exact hends .cancelled 800
      · rw [if_neg hcancel, if_neg (by simpa using hcancel)]
        exact hends .ok 800

end Sys2Proof.Machine
end

section
/-! PROOFS. The slots that the picture path leaves alone: a row boundary, a failed read and a completed PRESENT reach the
slot that the PICTURE context holds, and no other (R12, R112, R118, R136). -/

namespace Sys2Proof.Machine

section
variable {s t u : State} {k : Fin 16}

/-- The PICTURE context does not hold slot `k`. -/
def NotInPicture (k : Fin 16) (s : State) : Prop := ∀ j, s.picture.job = some j → k ≠ j.slot

/-- From `s` to `t` a slot that the PICTURE context does not hold stays as it was, and out of that context. -/
def SlotStays (k : Fin 16) (s t : State) : Prop := NotInPicture k s → NotInPicture k t ∧ slot t k = slot s k

theorem SlotStays.refl (k : Fin 16) (s : State) : SlotStays k s s := fun h => ⟨h, rfl⟩

theorem SlotStays.trans (h : SlotStays k s t) (h' : SlotStays k t u) : SlotStays k s u := fun hs => by
  obtain ⟨ht, hslot⟩ := h hs
  obtain ⟨hu, hslot'⟩ := h' ht
  exact ⟨hu, hslot'.trans hslot⟩

theorem SlotStays.of_eq (h : t.picture.job = s.picture.job ∧ t.exch.slots = s.exch.slots) : SlotStays k s t := fun hs => by
  obtain ⟨hjob, hslots⟩ := h
  exact ⟨fun j hj => hs j (hjob ▸ hj), by rw [slot, hslots, ← slot]⟩

theorem slot_complete_other {l : Fin 16} (h : k ≠ l) (n : Bool) (code : ResultCode) (fl : Byte) (c : Nat) (s : State) :
    slot (complete l n code fl c s) k = slot s k := by
  rw [slot, complete_exch]
  exact slot_setSlot_other _ s h

theorem finishPicture_stays (code : ResultCode) (s : State) : SlotStays k s (finishPicture code s) := fun hs => by
  unfold finishPicture
  split
  · exact ⟨fun _ hj => by simp [Picture.cleared, Picture.start] at hj, rfl⟩
  · next j hj =>
    exact ⟨fun _ hj => by simp [Picture.cleared, Picture.start] at hj, slot_complete_other (hs j hj) _ _ _ _ s⟩

theorem stopPicture_stays (s : State) : SlotStays k s (stopPicture s) := fun _ =>
  ⟨fun _ hj => by simp [Picture.cleared, Picture.start] at hj, rfl⟩

theorem failPicture_stays (s : State) : SlotStays k s (failPicture s) := by
  unfold failPicture
  split
  · exact stopPicture_stays s
  · exact finishPicture_stays _ s

theorem issueReads_stays (rs : List ReadPlan) (s : State) : SlotStays k s (issueReads rs s) := by
  induction rs generalizing s with
  | nil => exact .of_eq ⟨rfl, rfl⟩
  | cons r rs ih =>
    unfold issueReads
    split
    · exact .of_eq ⟨rfl, rfl⟩
    · split
      · exact failPicture_stays s
      · exact fun hs => ih _ hs

theorem beginRow_stays (s : State) : SlotStays k s (beginRow s) := by
  unfold beginRow
  dsimp only
  (repeat' split)
  · exact .of_eq ⟨rfl, rfl⟩
  · exact fun hs => issueReads_stays _ _ hs
  · exact .of_eq ⟨rfl, rfl⟩

theorem pictureBoundary_stays (s : State) : SlotStays k s (pictureBoundary s) := by
  unfold pictureBoundary
  (repeat' split)
  · exact stopPicture_stays s
  · exact finishPicture_stays _ s
  · exact finishPicture_stays _ s
  · exact .of_eq ⟨rfl, rfl⟩
  · exact beginRow_stays s

theorem finishPresent_stays (code : ResultCode) (n : Nat) (s : State) : SlotStays k s (finishPresent code n s) := fun hs => by
  cases hj : s.picture.job with
  | none =>
    have hnone : finishPresent code n s = s := by simp [finishPresent, hj]
    rw [hnone]
    exact ⟨hs, rfl⟩
  | some j =>
    rw [(finishPresent_eq hj code n).2]
    exact ⟨fun _ hnone => (by cases hnone), slot_setSlot_other _ s (hs j hj)⟩

theorem carryBoundary_stays (c : Carry) (s : State) : SlotStays k s (carryBoundary c s) := by
  unfold carryBoundary
  split
  · exact .of_eq ⟨rfl, rfl⟩
  · split
    · split
      · exact .of_eq ⟨rfl, rfl⟩
      · exact fun hs => finishPresent_stays _ _ _ hs
    · split <;> exact .of_eq ⟨rfl, rfl⟩

theorem resumePictures_stays (s : State) : SlotStays k s (resumePictures s) := by
  have hpicture : SlotStays k s (resumePicture s) := by
    unfold resumePicture
    split
    · exact pictureBoundary_stays s
    · exact .refl k s
  unfold resumePictures resumeCarry
  (repeat' split)
  · exact hpicture
  · exact hpicture.trans (carryBoundary_stays _ _)
  · exact hpicture

/-- No context holds a slot that is FREE (R15). -/
theorem ExchangeInv.free_notInPicture (h : ExchangeInv s) (hk : (slot s k).state = .free) : NotInPicture k s := by
  rintro j hj rfl
  have hwork := (h.inWork j.slot).mp (by simp [jobSlots, hj])
  rw [hk] at hwork
  exact absurd hwork (by decide)

end

end Sys2Proof.Machine
end

section
/-! PROOFS. The take of a PANEL request: the wish stored, and the power sequence of the panel that follows it (R123 to R129,
R135). -/

namespace Sys2Proof.Machine

section
variable {s t u : State} {k : Fin 16}

/-! ### The stop of the panel (R125, R126, R135, R146 to R148) -/

theorem recompute_dark (h : dark s = true) : (recompute s).light.output = 0 ∧ (recompute s).light.keyLight = 0 := by
  have hlevel : targetLevel s = 0 := by simp [targetLevel, h]
  simp [recompute, immediate, h, hlevel, setOutput, keyLightLevel]

/-- A swap moves no more of the power state than the linger timer, by its activity event (R135, R170). -/
theorem Swapped.lingerOnly {carry : Bool} {j : Job} (h : Swapped carry j s t) :
    t.power = { s.power with lingerEnds := t.power.lingerEnds } := by
  obtain ⟨-, -, -, hdone, hcopy⟩ := h
  cases carry with
  | true =>
    obtain ⟨-, hpower, -⟩ := hcopy rfl
    rw [hpower]
  | false =>
    obtain ⟨-, -, hpower, -⟩ := hdone rfl
    rw [hpower]

/-- A swap is told of the found state by its blocks and the slot of its PRESENT. -/
theorem Swapped.of_found {carry : Bool} {j : Job} (h : Swapped carry j s t) (hblocks : u.frames = s.frames ∧
    u.scanout = s.scanout ∧ u.picture = s.picture ∧ u.power = s.power ∧ u.light = s.light)
    (hslot : slot u j.slot = slot s j.slot) : Swapped carry j u t := by
  obtain ⟨hframes, hscanout, hpicture, hpower, hlight⟩ := hblocks
  simpa only [Swapped, ActivityTaken, completedSlot, hframes, hscanout, hpicture, hpower, hlight, hslot] using h

/-- A stop sequence begins with its stage, and with the swap of a PRESENT that waits (R125, R135). -/
theorem stopPanel_begins (st : Stage) (hlen : s.exch.slots.length = 16) :
    (s.scanout.waiting = none → LevelsOnly (enterStage .stopping st s) (stopPanel st s)) ∧
    (∀ carry j, s.scanout.waiting = some carry → s.picture.job = some j →
      Swapped carry j (enterStage .stopping st s) (stopPanel st s)) := by
  refine ⟨fun hw => ?_, fun carry j hw hj => ?_⟩
  · rw [stopPanel_unwaited st hw]
    exact recompute_levelsOnly _
  · have hswapped : Swapped carry j (enterStage .stopping st s) (swap carry (enterStage .stopping st s)) :=
      swap_swapped carry hj hlen
    rw [stopPanel_waited st hw]
    exact hswapped.later (recompute_levelsOnly _) (by simp [slot]) (by simp)

/-- The panel, its stage and the power state where a stop sequence begins. -/
theorem stopPanel_stopping (st : Stage) (hlen : s.exch.slots.length = 16)
    (hwaits : s.scanout.waiting.isSome = true → s.picture.job.isSome = true) :
    (stopPanel st s).scanout.panel = .stopping ∧ (stopPanel st s).scanout.stage = some st ∧
    (stopPanel st s).scanout.stageEnds = s.power.dockTime + ms st.time ∧
    (stopPanel st s).power = { s.power with lingerEnds := (stopPanel st s).power.lingerEnds } := by
  obtain ⟨hunwaited, hwaited⟩ := stopPanel_begins (s := s) st hlen
  cases hw : s.scanout.waiting with
  | none =>
    obtain ⟨-, hscanout, -, hpower, -⟩ := hunwaited hw
    rw [hscanout, hpower]
    exact ⟨rfl, rfl, rfl, rfl⟩
  | some carry =>
    obtain ⟨j, hj⟩ := Option.isSome_iff_exists.mp (hwaits (by simp [hw]))
    have hswapped := hwaited carry j hw hj
    obtain ⟨-, hscanout, -⟩ := id hswapped
    refine ⟨?_, ?_, ?_, hswapped.lingerOnly⟩ <;> rw [hscanout] <;> rfl

theorem stopPanel_dark (st : Stage) (s : State) :
    (stopPanel st s).light.output = 0 ∧ (stopPanel st s).light.keyLight = 0 := by
  have hpanel : (swapWaiting (enterStage .stopping st s)).scanout.panel = .stopping :=
    (swapWaiting_levelsKept (enterStage .stopping st s)).scanout.1
  exact recompute_dark (by simp [dark, hpanel])

/-! ### The wish stored (R123, R129) -/

/-- The state with the wish of a PANEL request stored. -/
def wished (wish : Bool) (s : State) : State := { s with scanout := { s.scanout with wish := wish } }

theorem applyWish_panelTest {wish : Bool} (h : (wish && s.power.standby) = false) :
    applyWish wish s = panelTest (wished wish s) := by
  simp only [applyWish, h]
  rfl

/-- ON wakes the part from STANDBY (R129, R173). -/
theorem applyWish_wake (h : s.power.standby = true) : applyWish true s = wake .host (wished true s) := by
  simp only [applyWish, h, Bool.and_self, if_true, wakeSource, wakeEnabled]
  rfl

theorem panelTest_wish (s : State) : (panelTest s).scanout.wish = s.scanout.wish := by
  have hstop : ∀ st, (stopPanel st s).scanout.wish = s.scanout.wish := fun st => by
    obtain ⟨-, -, hwish⟩ := (swapWaiting_levelsKept (enterStage .stopping st s)).scanout
    simpa [stopPanel] using hwish
  unfold panelTest
  (repeat' split)
  · simp [startPanel, enterStage]
  · rfl
  · rfl
  · exact hstop _
  · rfl
  · exact hstop _
  · rfl

theorem wake_wish (w : WakeSource) (s : State) : (wake w s).scanout.wish = s.scanout.wish := by
  obtain ⟨-, -, hblocks, -⟩ := wake_blocks w s
  obtain ⟨-, -, hresumed⟩ := (resumePictures_levelsKept (wokenLevels w s)).scanout
  obtain ⟨-, htimers, -⟩ := wokenTimers_keeps w s
  rw [hblocks, wokenBlocks_eq, hresumed, wokenLevels_scanout, panelTest_wish, htimers]

theorem applyWish_wish (wish : Bool) (s : State) : (applyWish wish s).scanout.wish = wish := by
  cases h : wish && s.power.standby with
  | false =>
    rw [applyWish_panelTest h, panelTest_wish]
    rfl
  | true =>
    obtain ⟨rfl, hstandby⟩ := Bool.and_eq_true_iff.mp h
    rw [applyWish_wake hstandby, wake_wish]
    rfl

/-! ### A wish for ON (R123, R124, R129) -/

/-- A panel that is wanted and not OFF stays (R123). -/
theorem panelTest_allowed (hw : wanted s = true) (hpanel : s.scanout.panel ≠ .off) : panelTest s = s := by
  cases hp : s.scanout.panel with
  | off => exact absurd hp hpanel
  | starting | on => simp [panelTest, hp, hw]
  | stopping => simp [panelTest, hp]

/-- A panel test that wants the panel moves no slot and no PRESENT. -/
theorem panelTest_wanted_stays (hw : wanted s = true) : SlotStays k s (panelTest s) := by
  by_cases hpanel : s.scanout.panel = .off
  · have hstart : panelTest s = startPanel s := by simp [panelTest, hpanel, hw]
    rw [hstart]
    exact .of_eq (by simp)
  · rw [panelTest_allowed hw hpanel]
    exact .refl k s

theorem wanted_wokenTimers (w : WakeSource) (hwish : s.scanout.wish = true) : wanted (wokenTimers w s) = true := by
  obtain ⟨-, hscanout, -, hstandby, -⟩ := wokenTimers_keeps w s
  simp [wanted, hstandby, hscanout, hwish]

theorem wake_stays (w : WakeSource) (hwish : s.scanout.wish = true) : SlotStays k s (wake w s) := by
  have htimers : SlotStays k s (wokenTimers w s) := by
    obtain ⟨mem, journal, attention, messages, -, heq⟩ := wokenTimers_eq w s
    rw [heq]
    exact .of_eq ⟨rfl, rfl⟩
  have hlevels : SlotStays k (panelTest (wokenTimers w s)) (wokenLevels w s) := .of_eq (by simp [wokenLevels])
  have hblocks : SlotStays k s (wokenBlocks w s) :=
    ((htimers.trans (panelTest_wanted_stays (wanted_wokenTimers w hwish))).trans hlevels).trans (resumePictures_stays _)
  exact hblocks.trans (.of_eq (by simp [wake_eq]))

/-- A wake leaves the sequence of a panel that is wanted and not OFF. -/
theorem wake_panelKept (w : WakeSource) (hwish : s.scanout.wish = true) (hpanel : s.scanout.panel ≠ .off) :
    (wake w s).scanout.panel = s.scanout.panel ∧ (wake w s).scanout.stage = s.scanout.stage ∧
    (wake w s).scanout.stageEnds = s.scanout.stageEnds := by
  obtain ⟨-, -, hblocks, -⟩ := wake_blocks w s
  obtain ⟨-, hscanout, -⟩ := wokenTimers_keeps w s
  have hkept := panelTest_allowed (wanted_wokenTimers w hwish) (by rwa [hscanout])
  have hresumed := resumePictures_panel (wokenLevels w s)
  rwa [wokenLevels_scanout, hkept, hscanout, ← wokenBlocks_eq, ← hblocks] at hresumed

/-- The part is ACTIVE under a wish for ON (R129). -/
theorem applyWish_on_active (s : State) : (applyWish true s).power.standby = false := by
  cases h : s.power.standby with
  | false => simpa [applyWish_panelTest (wish := true) (s := s) (by simp [h]), wished] using h
  | true =>
    rw [applyWish_wake h]
    exact wake_standby .host _

theorem applyWish_on_stays (k : Fin 16) (s : State) : SlotStays k s (applyWish true s) := by
  have hwished : SlotStays k s (wished true s) := .of_eq ⟨rfl, rfl⟩
  cases h : s.power.standby with
  | false =>
    rw [applyWish_panelTest (by simp [h])]
    exact hwished.trans (panelTest_wanted_stays (by simp [wanted, wished, h]))
  | true =>
    rw [applyWish_wake h]
    exact hwished.trans (wake_stays .host rfl)

/-- A wish for ON begins the start sequence of a panel that is OFF (R123, R124). -/
theorem applyWish_on_starts (hoff : s.scanout.panel = .off) : (applyWish true s).scanout.panel = .starting ∧
    (applyWish true s).scanout.stage = some .rails ∧
    (applyWish true s).scanout.stageEnds = s.power.dockTime + ms 20 := by
  cases h : s.power.standby with
  | false =>
    rw [applyWish_panelTest (by simp [h])]
    exact panelTest_start hoff (by simp [wanted, wished, h])
  | true =>
    obtain ⟨-, -, hblocks, -⟩ := wake_blocks .host (wished true s)
    rw [applyWish_wake h, hblocks]
    exact (wokenBlocks_panel .host (wished true s)).1 hoff rfl

/-- A wish for ON leaves a panel that is not OFF in its sequence (R123). -/
theorem applyWish_on_panelKept (hpanel : s.scanout.panel ≠ .off) :
    (applyWish true s).scanout.panel = s.scanout.panel ∧ (applyWish true s).scanout.stage = s.scanout.stage ∧
    (applyWish true s).scanout.stageEnds = s.scanout.stageEnds ∧
    (s.power.standby = false → applyWish true s = wished true s) := by
  cases h : s.power.standby with
  | false =>
    have hkept : panelTest (wished true s) = wished true s := panelTest_allowed (by simp [wanted, wished, h]) hpanel
    rw [applyWish_panelTest (by simp [h]), hkept]
    exact ⟨rfl, rfl, rfl, fun _ => rfl⟩
  | true =>
    rw [applyWish_wake h]
    obtain ⟨hkept, hstage, hends⟩ := wake_panelKept .host (s := wished true s) rfl hpanel
    exact ⟨hkept, hstage, hends, fun h => by simp at h⟩

/-! ### A wish for OFF (R123, R126) -/

theorem wanted_wished_off (s : State) : wanted (wished false s) = false := by simp [wanted, wished]

/-- A wish for OFF leaves a panel that is OFF or STOPPING (R123). -/
theorem applyWish_off_rest (h : s.scanout.panel = .stopping ∨ s.scanout.panel = .off) :
    applyWish false s = wished false s := by
  obtain ⟨-, -, hrest⟩ := panelTest_unwanted (wanted_wished_off s)
  rw [applyWish_panelTest (Bool.false_and _), hrest h]

theorem applyWish_off_on (h : s.scanout.panel = .on) : applyWish false s = stopPanel .disable (wished false s) := by
  obtain ⟨hon, -, -⟩ := panelTest_unwanted (wanted_wished_off s)
  rw [applyWish_panelTest (Bool.false_and _), hon h]

theorem applyWish_off_starting (h : s.scanout.panel = .starting) :
    applyWish false s = stopPanel (undoStage s.scanout.stage) (wished false s) := by
  obtain ⟨-, hstarting, -⟩ := panelTest_unwanted (wanted_wished_off s)
  exact (applyWish_panelTest (Bool.false_and _)).trans (hstarting h)

theorem applyWish_off_slot (hwaits : s.scanout.waiting.isSome = true → s.picture.job.isSome = true)
    (hk : NotInPicture k s) : slot (applyWish false s) k = slot s k := by
  rw [applyWish_panelTest (Bool.false_and _)]
  exact panelTest_slot (wanted_wished_off s) hwaits hk

/-- A wish for OFF moves no more of the power state than the linger timer. -/
theorem applyWish_off_power (hlen : s.exch.slots.length = 16)
    (hwaits : s.scanout.waiting.isSome = true → s.picture.job.isSome = true) :
    (applyWish false s).power = { s.power with lingerEnds := (applyWish false s).power.lingerEnds } := by
  have hstop : ∀ st, (stopPanel st (wished false s)).power =
      { s.power with lingerEnds := (stopPanel st (wished false s)).power.lingerEnds } := fun st => by
    obtain ⟨-, -, -, hpower⟩ := stopPanel_stopping (s := wished false s) st hlen hwaits
    exact hpower
  cases hp : s.scanout.panel with
  | off => rw [applyWish_off_rest (.inr hp)]; rfl
  | stopping => rw [applyWish_off_rest (.inl hp)]; rfl
  | on => rw [applyWish_off_on hp]; exact hstop _
  | starting => rw [applyWish_off_starting hp]; exact hstop _

/-! ### The slot of the request (R128, R130) -/

/-- Where the panel is as wished the request is DONE. -/
theorem takePanel_settled {j : Job} {wish : Bool} (hwish : panelWish j.params = wish)
    (h : (applyWish wish s).scanout.panel = if wish then .on else .off) :
    takePanel j s = completeJob j .ok 0 0 (applyWish wish s) := by
  subst hwish
  exact if_pos (by simp [panelSettled, h])

/-- Where it is not the request waits in its context. -/
theorem takePanel_waits {j : Job} {wish : Bool} (hwish : panelWish j.params = wish)
    (h : (applyWish wish s).scanout.panel ≠ if wish then .on else .off) :
    takePanel j s = { applyWish wish s with exch.settingsJob := some j } := by
  subst hwish
  exact if_neg (by simp [panelSettled, h])

theorem takePanel_blocks {j : Job} {wish : Bool} (hwish : panelWish j.params = wish) (s : State) :
    (takePanel j s).scanout = (applyWish wish s).scanout ∧ (takePanel j s).picture = (applyWish wish s).picture ∧
    (takePanel j s).power = (applyWish wish s).power ∧ (takePanel j s).light = (applyWish wish s).light := by
  by_cases h : (applyWish wish s).scanout.panel = if wish then .on else .off
  · rw [takePanel_settled hwish h]
    simp
  · rw [takePanel_waits hwish h]
    exact ⟨rfl, rfl, rfl, rfl⟩

/-! ### The take at the POST (R128) -/

/-- The state after a free SETTINGS context has taken the PANEL slot `k` at its POST. -/
def panelTaken (k : Fin 16) (s : State) : State := takePanel (jobAtPost k s) (takenAtPost k s)

theorem exec_post_panel (h : ExchangeInv s) (hlinked : Linked s) (ho : s.exch.sessionOpen = true)
    (hk : (slot s k).state = .free) (hq : s.exch.queue = []) (hjob : s.exch.settingsJob = none)
    (hkind : s.mem.read (0x0104 + 64 * k.val) = kindPanel) : exec (.post k) s = .next (panelTaken k s) := by
  have hsettings : isSettingsKind (s.mem.read (0x0104 + 64 * k.val)) = true := by rw [hkind]; decide
  have hpanel : (jobAtPost k s).kind = kindPanel := hkind
  rw [exec_post_settings hlinked ho hk h.slots hq hjob hsettings, takeSettings, hpanel, if_neg (by decide),
    if_neg (by decide), if_neg (by decide), if_pos rfl, panelTaken]

theorem panelWish_jobAtPost (k : Fin 16) (s : State) :
    panelWish (jobAtPost k s).params = decide (s.mem.read (0x011C + 64 * k.val) ≠ 0) := by
  rw [panelWish, jobAtPost, param8_reads _ _ (by omega), Bool.eq_iff_iff]
  simp

theorem takenAtPost_active (h : ExchangeInv s) : (slot (takenAtPost k s) k).state = .active :=
  congrArg SlotRec.state (slot_setSlot_same k ⟨.active, .ok, 0, s.exch.nextPost, 0, 0, 0⟩ s h.slots)

theorem takenAtPost_slot_other {l : Fin 16} (hl : l ≠ k) : slot (takenAtPost k s) l = slot s l :=
  slot_setSlot_other ⟨.active, .ok, 0, s.exch.nextPost, 0, 0, 0⟩ s hl

/-- OFF with the panel OFF is DONE at once. -/
theorem panelTaken_off_off (h : ExchangeInv s) (hjob : s.exch.settingsJob = none)
    (hwish : panelWish (jobAtPost k s).params = false) (hoff : s.scanout.panel = .off) :
    EndsInTake s k .done .ok 0 (panelTaken k s) ∧ (panelTaken k s).exch.settingsJob = none ∧
    (panelTaken k s).scanout = { s.scanout with wish := false } := by
  have hrest : applyWish false (takenAtPost k s) = wished false (takenAtPost k s) := applyWish_off_rest (.inr hoff)
  have htaken : panelTaken k s = completeJob (jobAtPost k s) .ok 0 0 (takenAtPost k (wished false s)) := by
    rw [panelTaken, takePanel_settled hwish (by rw [hrest]; exact hoff), hrest]
    rfl
  obtain ⟨hends, heq, -, hfree⟩ := completeJob_takenAtPost (k := k) (s := wished false s) h.slots .ok 0
  rw [htaken]
  refine ⟨hends, hfree.trans hjob, ?_⟩
  have hscanout := congrArg State.scanout heq
  exact hscanout

/-- ON with the panel ON is DONE at once. -/
theorem panelTaken_on_on (h : ExchangeInv s) (hjob : s.exch.settingsJob = none)
    (hwish : panelWish (jobAtPost k s).params = true) (hon : s.scanout.panel = .on) :
    (slot (panelTaken k s) k).state = .done ∧ (panelTaken k s).exch.settingsJob = none ∧
    (s.power.standby = false → EndsInTake s k .done .ok 0 (panelTaken k s) ∧
      (panelTaken k s).scanout = { s.scanout with wish := true }) := by
  obtain ⟨hpanel, -, -, hactive⟩ := applyWish_on_panelKept (s := takenAtPost k s) (by simp [takenAtPost, hon])
  have htaken : panelTaken k s = completeJob (jobAtPost k s) .ok 0 0 (applyWish true (takenAtPost k s)) :=
    takePanel_settled hwish (by rw [hpanel]; exact hon)
  refine ⟨?_, ?_, fun hstandby => ?_⟩
  · have hlen : (applyWish true (takenAtPost k s)).exch.slots.length = 16 := by simp [takenAtPost, h.slots]
    rw [htaken, completeJob, slot, complete_exch]
    exact congrArg SlotRec.state (slot_setSlot_same k _ (applyWish true (takenAtPost k s)) hlen)
  · rw [htaken]
    simpa [takenAtPost] using hjob
  · obtain ⟨hends, heq, -⟩ := completeJob_takenAtPost (k := k) (s := wished true s) h.slots .ok 0
    rw [htaken, hactive hstandby]
    have hscanout := congrArg State.scanout heq
    exact ⟨hends, hscanout⟩

/-- While the panel is not as wished the slot stays ACTIVE. -/
theorem panelTaken_active {wish : Bool} (h : ExchangeInv s) (hk : (slot s k).state = .free)
    (hwish : panelWish (jobAtPost k s).params = wish)
    (hpanel : (applyWish wish (takenAtPost k s)).scanout.panel ≠ if wish then .on else .off) :
    (slot (panelTaken k s) k).state = .active := by
  have hpicture : NotInPicture k (takenAtPost k s) := h.free_notInPicture hk
  have hkept : slot (applyWish wish (takenAtPost k s)) k = slot (takenAtPost k s) k := by
    cases wish with
    | true => exact (applyWish_on_stays k (takenAtPost k s) hpicture).2
    | false => exact applyWish_off_slot h.waiting hpicture
  rw [panelTaken, takePanel_waits hwish hpanel]
  exact (congrArg SlotRec.state hkept).trans (takenAtPost_active h)

/-- A stop sequence that the take begins. -/
theorem panelTaken_stops {st : Stage} (h : ExchangeInv s) (hk : (slot s k).state = .free)
    (hwish : panelWish (jobAtPost k s).params = false)
    (hstop : applyWish false (takenAtPost k s) = stopPanel st (wished false (takenAtPost k s))) :
    (slot (panelTaken k s) k).state = .active ∧ (panelTaken k s).scanout.panel = .stopping ∧
    (panelTaken k s).scanout.stage = some st ∧ (panelTaken k s).scanout.stageEnds = s.power.dockTime + ms st.time ∧
    (panelTaken k s).light.output = 0 ∧ (panelTaken k s).light.keyLight = 0 := by
  obtain ⟨hscanout, -, -, hlight⟩ := takePanel_blocks hwish (takenAtPost k s)
  obtain ⟨hpanel, hstage, hends, -⟩ := stopPanel_stopping (s := wished false (takenAtPost k s)) st
    (by simp [wished, takenAtPost, h.slots]) h.waiting
  have hactive := panelTaken_active h hk hwish (by rw [hstop, hpanel]; decide)
  rw [hstop] at hscanout hlight
  refine ⟨hactive, ?_⟩
  rw [panelTaken, hscanout, hlight]
  exact ⟨hpanel, hstage, hends, stopPanel_dark st _⟩

/-- The picture path where OFF stops a panel that is ON (R125, R135). -/
theorem panelTaken_stopped (h : ExchangeInv s) (hk : (slot s k).state = .free)
    (hwish : panelWish (jobAtPost k s).params = false) (hon : s.scanout.panel = .on) :
    let stopped := enterStage .stopping .disable (wished false s)
    (s.scanout.waiting = none → LevelsOnly stopped (panelTaken k s)) ∧
    (∀ carry j, s.scanout.waiting = some carry → s.picture.job = some j → Swapped carry j stopped (panelTaken k s)) := by
  have hstop : applyWish false (takenAtPost k s) = stopPanel .disable (wished false (takenAtPost k s)) :=
    applyWish_off_on hon
  have hlen : (wished false (takenAtPost k s)).exch.slots.length = 16 := by simp [wished, takenAtPost, h.slots]
  obtain ⟨hpanel, -⟩ := stopPanel_stopping .disable hlen h.waiting
  have htaken : panelTaken k s = { stopPanel .disable (wished false (takenAtPost k s)) with
      exch.settingsJob := some (jobAtPost k s) } := by
    rw [panelTaken, takePanel_waits hwish (by rw [hstop, hpanel]; decide), hstop]
  obtain ⟨hunwaited, hwaited⟩ := stopPanel_begins .disable hlen
  have hlater : LevelsOnly (stopPanel .disable (wished false (takenAtPost k s))) (panelTaken k s) := by
    rw [htaken]
    exact ⟨rfl, rfl, rfl, rfl, rfl⟩
  refine ⟨fun hw => (hunwaited hw).trans hlater, fun carry j hw hj => ?_⟩
  have hother : j.slot ≠ k := (h.free_notInPicture hk j hj).symm
  have hswapped := (hwaited carry j hw hj).later hlater (by rw [htaken]; rfl) (by rw [htaken]; exact id)
  exact hswapped.of_found ⟨rfl, rfl, rfl, rfl, rfl⟩ (takenAtPost_slot_other hother).symm

end

/-- Settles O39: the take is a PANEL take, and each clause is the rule of its wish and panel state. -/
theorem panelRequestSetsTheWish : Obligations.PanelRequestSetsTheWish := by
  intro s k h hlinked ho hk hq hjob hkind on
  obtain ⟨hscanout, -, hpower, -⟩ := takePanel_blocks (panelWish_jobAtPost k s) (takenAtPost k s)
  have hon : on → panelWish (jobAtPost k s).params = true := fun hp =>
    (panelWish_jobAtPost k s).trans (decide_eq_true hp)
  have hoff : ¬on → panelWish (jobAtPost k s).params = false := fun hp =>
    (panelWish_jobAtPost k s).trans (decide_eq_false hp)
  refine ⟨panelTaken k s, exec_post_panel h hlinked ho hk hq hjob hkind, ?_, by simp [panelTaken, takenAtPost],
    by simp [panelTaken, takenAtPost], by simp [panelTaken, takenAtPost], by simp [panelTaken, takenAtPost],
    fun hp => ?_, fun hp => ?_, fun hp hpanel => panelTaken_off_off h hjob (hoff hp) hpanel,
    fun hp hpanel => panelTaken_on_on h hjob (hon hp) hpanel, fun hp hpanel => ?_, fun hp hpanel => ?_,
    fun hp hpanel => ?_, fun hp hpanel => ?_, fun hp hpanel => ?_⟩
  · rw [panelTaken, hscanout]
    exact applyWish_wish _ _
  · rw [panelTaken, hpower, decide_eq_true hp]
    exact applyWish_on_active _
  · rw [panelTaken, hpower, decide_eq_false hp]
    exact applyWish_off_power (s := takenAtPost k s) (by simp [takenAtPost, h.slots]) h.waiting
  · obtain ⟨hstarting, hstage, hends⟩ := applyWish_on_starts (s := takenAtPost k s) hpanel
    have hactive := panelTaken_active h hk (hon hp) (by rw [hstarting]; decide)
    rw [decide_eq_true hp] at hscanout
    refine ⟨hactive, ?_⟩
    rw [panelTaken, hscanout]
    exact ⟨hstarting, hstage, hends⟩
  · obtain ⟨hactive, hstopping, hstage, hends, hdark⟩ :=
      panelTaken_stops h hk (hoff hp) (applyWish_off_on (s := takenAtPost k s) hpanel)
    obtain ⟨hunwaited, hwaited⟩ := panelTaken_stopped h hk (hoff hp) hpanel
    refine ⟨hactive, hstopping, hstage, hends, hdark.1, hdark.2, fun hw => ?_, hwaited⟩
    obtain ⟨-, hport, hpicture, htimers, -⟩ := hunwaited hw
    exact ⟨hport, hpicture, htimers⟩
  · have hrest : s.scanout.panel ≠ .off ∧ s.scanout.panel ≠ .on := by
      rcases hpanel with hstarting | hstopping <;> simp [*]
    obtain ⟨hkept, hstage, hends, hrunning⟩ := applyWish_on_panelKept (s := takenAtPost k s) hrest.1
    have hactive := panelTaken_active h hk (hon hp) (by rw [hkept]; exact hrest.2)
    rw [decide_eq_true hp] at hscanout
    refine ⟨hactive, ?_⟩
    rw [panelTaken, hscanout]
    exact ⟨hkept, hstage, hends, fun hstandby => congrArg State.scanout (hrunning hstandby)⟩
  · obtain ⟨hactive, hstopping, hstage, hends, hdark⟩ :=
      panelTaken_stops h hk (hoff hp) (applyWish_off_starting (s := takenAtPost k s) hpanel)
    have hundone : ∀ {found}, s.scanout.stage = some found →
        (panelTaken k s).scanout.stage = some (undoStage (some found)) ∧
        (panelTaken k s).scanout.stageEnds = s.power.dockTime + ms (undoStage (some found)).time := fun hfound => by
      rw [← hfound]
      exact ⟨hstage, hends⟩
    exact ⟨hactive, hstopping, hdark.1, hdark.2, hundone, hundone, hundone⟩
  · have hrest : applyWish false (takenAtPost k s) = wished false (takenAtPost k s) := applyWish_off_rest (.inl hpanel)
    have hpanel' : (wished false (takenAtPost k s)).scanout.panel = .stopping := hpanel
    have hactive := panelTaken_active h hk (hoff hp) (by rw [hrest, hpanel']; decide)
    rw [decide_eq_false hp, hrest] at hscanout
    exact ⟨hactive, hscanout⟩

end Sys2Proof.Machine
end

section
/-! PROOFS. The Measurement Unit's due times, the average, the base level on the curve, and the ticks and timers of the Light
Controller (R139, R141, R145 to R149, R166, R170). -/

namespace Sys2Proof.Machine

/-! ### Dock Time and the due times (R139, R166) -/

section
variable {s : State}

theorem exec_dockTimeAdvance (h : Running s) :
    exec .dockTimeAdvance s = .next { s with power := { s.power with dockTime := s.power.dockTime + 1 } } :=
  next_whenRunning h fun s => { s with power.dockTime := s.power.dockTime + 1 }

theorem onGrid_iff (s : State) (n : Nat) : onGrid s n = true ↔ s.power.dockTime.toNat % n = 0 := decide_eq_true_iff

theorem conversionIsDue_iff (s : State) : conversionIsDue s = true ↔ s.power.dockTime.toNat % 8 = 0 ∧
    s.measure.dueAt ≠ some s.power.dockTime ∧ s.measure.converting = .none := by
  simp [conversionIsDue, onGrid_iff, now, and_assoc]

theorem exec_conversionDue (h : Running s) (hdue : conversionIsDue s = true) :
    exec .conversionDue s = .next (startConversion s) :=
  next_ifDue h hdue startConversion

theorem exec_conversionDue_notDue (hdue : conversionIsDue s = false) : exec .conversionDue s = .next s :=
  next_notDue hdue startConversion

end

/-- Settles O51: the count of Dock Time, and a due time on the grid and off it. -/
theorem conversionsFollowDockTime : Obligations.ConversionsFollowDockTime := by
  refine ⟨fun s h => ⟨exec_dockTimeAdvance h, rfl⟩, fun s h => ⟨fun hgrid hmark hidle => ?_, fun hgrid => ?_⟩⟩
  · exact exec_conversionDue h ((conversionIsDue_iff s).mpr ⟨hgrid, hmark, hidle⟩)
  · refine exec_conversionDue_notDue (Bool.eq_false_iff.mpr fun hdue => hgrid ?_)
    exact ((conversionIsDue_iff s).mp hdue).1

/-! ### The average (R141) -/

/-- A recomputation moves nothing outside the light (R146, R147). -/
theorem recompute_eq (s : State) : recompute s = { s with light := (recompute s).light } := by
  unfold recompute
  dsimp only
  split <;> rfl

section
variable {s : State}

theorem exec_ambientConversionComplete (h : Running s) (hconv : s.measure.converting = .ambient) (code : BitVec 10) :
    exec (.ambientConversionComplete code) s = .next (ambientDone code s) :=
  next_ifDue h (by simp [hconv]) (ambientDone code)

/-- The completion moves the measurement and the light (R141). -/
theorem ambientDone_eq (code : BitVec 10) (s : State) :
    ambientDone code s = { s with measure := (ambientDone code s).measure, light := (ambientDone code s).light } := by
  rw [ambientDone, recompute_eq]

theorem ambientDone_measure (code : BitVec 10) (s : State) : (ambientDone code s).measure =
    { s.measure with history := nextHistory s.measure.history code, converting := .none } := by
  simp [ambientDone]

theorem ambientDone_ambient (code : BitVec 10) (s : State) :
    (ambientDone code s).light.ambient = averageOf (nextHistory s.measure.history code) := by
  simp [ambientDone]

/-- The target is recomputed from the average, and the output follows as in every recomputation (R141, R146, R147). -/
theorem ambientDone_levels (code : BitVec 10) (s : State) :
    (ambientDone code s).light.target = targetLevel (ambientDone code s) ∧
    (immediate s = false → (ambientDone code s).light.output = s.light.output) ∧
    (immediate s = true → (ambientDone code s).light.output = (ambientDone code s).light.target) := by
  unfold ambientDone
  dsimp only
  rw [recompute_target, targetLevel_recompute, recompute_output]
  exact ⟨rfl, fun hslow => if_neg (Bool.eq_false_iff.mp hslow), fun hat => if_pos hat⟩

theorem averageOf_four (c0 c1 c2 c3 : BitVec 10) :
    averageOf [c0, c1, c2, c3] = (c0.toNat + c1.toNat + c2.toNat + c3.toNat) / 4 := by
  simp [averageOf]

/-- Four equal codes have that code as their average (R141). -/
theorem averageOf_replicated (code : BitVec 10) : averageOf [code, code, code, code] = code.toNat := by
  rw [averageOf_four]
  omega

end

/-! ### The base level (R145) -/

/-- A share `n` of `d` of a difference `m`, truncated toward zero, lies between zero and the difference. -/
theorem tdiv_share_between {n d m : Int} (hn : 0 ≤ n) (hd : 0 < d) (hnd : n ≤ d) :
    min 0 m ≤ (n * m).tdiv d ∧ (n * m).tdiv d ≤ max 0 m := by
  have hshare : ∀ m : Int, 0 ≤ m → 0 ≤ (n * m).tdiv d ∧ (n * m).tdiv d ≤ m := fun m hm => by
    have hprod : 0 ≤ n * m := mul_nonneg hn hm
    refine ⟨Int.tdiv_nonneg hprod hd.le, ?_⟩
    rw [Int.tdiv_eq_ediv_of_nonneg hprod]
    refine Int.ediv_le_of_le_mul hd ?_
    rw [mul_comm m d]
    exact mul_le_mul_of_nonneg_right hnd hm
  rcases le_total 0 m with hm | hm
  · rw [min_eq_left hm, max_eq_right hm]
    exact hshare m hm
  · have hneg := hshare (-m) (neg_nonneg.mpr hm)
    rw [mul_neg, Int.neg_tdiv] at hneg
    omega

/-- Within its segment the curve is the formula of R145, between the two L values. -/
theorem segment_between {lo hi : Point} {a : Nat} (hlo : lo.a ≤ a) (hhi : a < hi.a) :
    (segment lo hi a : Int) = lo.l + (((a : Int) - lo.a) * ((hi.l : Int) - lo.l)).tdiv ((hi.a : Int) - lo.a) ∧
    min lo.l hi.l ≤ segment lo hi a ∧ segment lo hi a ≤ max lo.l hi.l := by
  have hshare := tdiv_share_between (n := (a : Int) - lo.a) (d := (hi.a : Int) - lo.a) (m := (hi.l : Int) - lo.l)
    (by omega) (by omega) (by omega)
  rw [segment]
  omega

/-- A segment starts at the L value of its lower point. -/
theorem segment_start (lo hi : Point) : segment lo hi lo.a = lo.l := by simp [segment]

section
variable {l : LightSettings} {a : Nat}

theorem curve_first (h : a ≤ l.p0.a) : curve l a = l.p0.l := if_pos h

theorem curve_last (hrise : l.p0.a < l.p3.a) (h : l.p3.a ≤ a) : curve l a = l.p3.l := by
  rw [curve, if_neg (by omega), if_pos h]

/-- Between two neighbouring points the curve is their segment, the lower point included. -/
theorem curve_segment (h01 : l.p0.a < l.p1.a) (h12 : l.p1.a < l.p2.a) (h23 : l.p2.a < l.p3.a) {lo hi : Point}
    (hpair : (lo = l.p0 ∧ hi = l.p1) ∨ (lo = l.p1 ∧ hi = l.p2) ∨ (lo = l.p2 ∧ hi = l.p3)) (hlo : lo.a ≤ a)
    (hhi : a < hi.a) : curve l a = segment lo hi a := by
  obtain ⟨rfl, rfl⟩ | ⟨rfl, rfl⟩ | ⟨rfl, rfl⟩ := hpair
  · obtain rfl | hinside := hlo.eq_or_lt
    · rw [curve_first le_rfl, segment_start]
    · rw [curve, if_neg (by omega), if_neg (by omega), if_pos hhi]
  · rw [curve, if_neg (by omega), if_neg (by omega), if_neg (by omega), if_pos hhi]
  · rw [curve, if_neg (by omega), if_neg (by omega), if_neg (by omega), if_neg (by omega)]

end

theorem baseLevel_manual {s : State} (h : s.light.settings.mode = .manual) : baseLevel s = s.light.settings.manual := by
  rw [baseLevel, h]

theorem baseLevel_auto {s : State} (h : s.light.settings.mode = .auto) :
    baseLevel s = curve s.light.settings s.light.ambient := by
  rw [baseLevel, h]

/-- Settles O53: the completion with its average, then the curve by its segments. -/
theorem ambientAverageIsHandedOn : Obligations.AmbientAverageIsHandedOn := by
  refine ⟨fun s code h hconv => ?_, fun s => ?_⟩
  · refine ⟨_, exec_ambientConversionComplete h hconv code, ambientDone_eq code s, ?_⟩
    rw [ambientDone_measure, ambientDone_ambient]
    refine ⟨rfl, fun hnew => ?_, fun c0 c1 c2 c3 hfull => ?_, ambientDone_levels code s⟩
    · rw [hnew]
      exact ⟨rfl, averageOf_replicated code⟩
    · rw [hfull]
      exact ⟨rfl, averageOf_four c1 c2 c3 code⟩
  · refine ⟨baseLevel_manual, fun hauto h01 h12 h23 => ?_⟩
    rw [baseLevel_auto hauto]
    refine ⟨curve_first, curve_last ((h01.trans h12).trans h23), fun lo hi hpair hlo hhi => ?_⟩
    rw [curve_segment h01 h12 h23 hpair hlo hhi]
    exact segment_between hlo hhi

/-! ### The tick (R147, R148) -/

theorem slewed_up {output target : Nat} (step : Nat) (h : output ≤ target) :
    slewed output target step = min target (output + step) := by
  unfold slewed
  split
  · rfl
  · rw [if_neg (by omega)]
    omega

theorem slewed_down {output target : Nat} (step : Nat) (h : target < output) :
    slewed output target step = max target (output - step) := by
  rw [slewed, if_neg (by omega), if_pos h]

theorem tickStep_eq (s : State) : tickStep s = { s with light := (tickStep s).light } := rfl

section
variable {s : State}

theorem tickIsDue_iff (s : State) :
    tickIsDue s = true ↔ s.power.dockTime.toNat % 16 = 0 ∧ s.light.tickAt ≠ some s.power.dockTime := by
  simp [tickIsDue, onGrid_iff, now]

theorem lightTick_due (h : tickIsDue s = true) :
    lightTick s = tickStep { s with light := { s.light with tickAt := some s.power.dockTime } } := if_pos h

theorem lightTick_notDue (h : s.power.dockTime.toNat % 16 ≠ 0) : lightTick s = s :=
  if_neg fun hdue => h ((tickIsDue_iff s).mp hdue).1

/-- The output after a tick: the target in the immediate cases, else one slew step toward it (R147). -/
theorem tickStep_output (s : State) :
    (immediate s = true → (tickStep s).light.output = s.light.target) ∧
    (immediate s = false → s.light.output ≤ s.light.target →
      (tickStep s).light.output = min s.light.target (s.light.output + s.light.settings.slew)) ∧
    (immediate s = false → s.light.target < s.light.output →
      (tickStep s).light.output = max s.light.target (s.light.output - s.light.settings.slew)) := by
  have hstep : (tickStep s).light.output =
      if immediate s then s.light.target else slewed s.light.output s.light.target s.light.settings.slew := rfl
  rw [hstep]
  refine ⟨fun hat => if_pos hat, fun hslow hup => ?_, fun hslow hdown => ?_⟩
  · rw [if_neg (Bool.eq_false_iff.mp hslow), slewed_up _ hup]
  · rw [if_neg (Bool.eq_false_iff.mp hslow), slewed_down _ hdown]

theorem exec_lightTick (h : Running s) : exec .lightTick s = .next (lightTick s) := next_whenRunning h lightTick

/-! ### The idle timer and activity (R149, R170) -/

theorem exec_idleExpiry (h : Running s) : exec .idleExpiry s = .next (idleExpiry s) := next_whenRunning h idleExpiry

theorem idleExpiry_due (hrun : s.light.idle = .running) (hend : reached s.power.dockTime s.light.idleEnds = true) :
    idleExpiry s = recompute { s with light := { s.light with idle := .dimmed } } := if_pos ⟨hrun, hend⟩

theorem idleExpiry_notDue (h : s.light.idle ≠ .running ∨ reached s.power.dockTime s.light.idleEnds = false) :
    idleExpiry s = s := by
  refine if_neg fun ⟨hrun, hend⟩ => ?_
  rcases h with hidle | hleft
  · exact hidle hrun
  · exact Bool.eq_false_iff.mp hleft hend

theorem capWhen_le_level (c : Bool) (cap level : Nat) : capWhen c cap level ≤ level := by
  unfold capWhen
  split
  · exact min_le_left level cap
  · exact le_rfl

/-- While the idle timer is DIMMED the target stays under the dim level, which the later caps only lower (R146). -/
theorem targetLevel_le_dim (h : s.light.idle = .dimmed) : targetLevel s ≤ s.light.settings.dim := by
  unfold targetLevel
  dsimp only
  split
  · exact Nat.zero_le _
  · rw [h]
    exact (capWhen_le_level _ _ _).trans <| (capWhen_le_level _ _ _).trans <|
      (capWhen_le_level _ _ _).trans (capWhen_le _ _)

/-- An activity event that neither setting selects does nothing (R149, R170). -/
theorem activity_unselected {a : Activity} (hidle : s.light.settings.idleSources.getLsbD a.bit = false)
    (hlinger : s.power.lingerSources.getLsbD a.bit = false) : activity a s = s := by
  have hlight : idleActivity a s = s := if_neg (Bool.eq_false_iff.mp hidle)
  rw [activity, hlight, lingerActivity]
  split
  · exact if_neg (Bool.eq_false_iff.mp hlinger)
  · rfl

end

/-- Settles O54: a tick on its grid and off it, the expiry of the idle timer, and an activity event at the two timers. -/
theorem lightTickAndIdleTimer : Obligations.LightTickAndIdleTimer := by
  refine ⟨fun s h => ⟨fun hgrid hmark => ?_, fun hgrid => ?_⟩, fun s h => ⟨fun hrun hend => ?_, fun hnot => ?_⟩,
    fun s a => ⟨activity_unselected, ?_⟩⟩
  · refine ⟨_, exec_lightTick h, ?_⟩
    rw [lightTick_due ((tickIsDue_iff s).mpr ⟨hgrid, hmark⟩)]
    exact ⟨tickStep_eq _, rfl, tickStep_output { s with light := { s.light with tickAt := some s.power.dockTime } }⟩
  · rw [exec_lightTick h, lightTick_notDue hgrid]
  · refine ⟨_, exec_idleExpiry h, ?_⟩
    rw [idleExpiry_due hrun hend]
    refine ⟨recompute_eq _, by simp, (recompute_levels _).1, ?_, fun hslow => ?_⟩
    · rw [recompute_target]
      exact targetLevel_le_dim rfl
    · rw [recompute_output]
      exact if_neg (Bool.eq_false_iff.mp hslow)
  · rw [exec_idleExpiry h, idleExpiry_notDue hnot]
  · cases a <;> exact activity_taken _ s

end Sys2Proof.Machine
end

section
/-! PROOFS. The take of a LIGHT request: its checks, its settings brought into range, and what they do to the idle timer and
the output (R143, R144, R147, R148, R150). -/

namespace Sys2Proof.Machine

/-- A bound from 1 on leaves no number but 0 at 0 (R95, R144). -/
theorem clampOrZero_eq_zero {lo hi : Nat} (v : Nat) (hlo : 0 < lo) : clampOrZero lo hi v = 0 ↔ v = 0 := by
  unfold clampOrZero clampTo
  split <;> omega

/-! ### The fields of a LIGHT request in its parameter bytes (section 1.8.3) -/

section
variable {m : Memory} {a b : Nat}

/-- A parameter byte, by its offset in the slot record that begins at `b`. -/
theorem param8_slot (h : a = b + 0x1C) {i o : Nat} (hi : i < 36) (ho : o = 0x1C + i) :
    param8 (m.reads a 36) i = m.read (b + o) := by
  subst h ho
  rw [param8_reads m _ hi, Nat.add_assoc]

/-- A 16-bit parameter, by the offset of its low byte in the slot record. -/
theorem param16_slot (h : a = b + 0x1C) {i o : Nat} (hi : i + 1 < 36) (ho : o = 0x1C + i) :
    (param16 (m.reads a 36) i).toNat = (m.read (b + o)).toNat + 256 * (m.read (b + (o + 1))).toNat := by
  rw [param16, half_toNat, param8_slot h (by omega) ho, param8_slot h (o := o + 1) hi (by omega)]

theorem lightPoint_slot (h : a = b + 0x1C) {i : Nat} (hi : i < 4) : lightPoint (m.reads a 36) i =
    ⟨(m.read (b + (0x28 + 2 * i))).toNat + 256 * (m.read (b + (0x29 + 2 * i))).toNat, (m.read (b + (0x30 + i))).toNat⟩ := by
  rw [lightPoint, param16_slot h (o := 0x28 + 2 * i) (by omega) (by omega),
    param8_slot h (o := 0x30 + i) (by omega) (by omega), Nat.add_right_comm 0x28]

/-- The checks of R144. -/
theorem lightValid_slot (h : a = b + 0x1C) : lightValid (m.reads a 36) = true ↔
    let byte := fun o => (m.read (b + o)).toNat
    let pointA := fun i => byte (0x28 + 2 * i) + 256 * byte (0x29 + 2 * i)
    byte 0x1C ≤ 1 ∧ pointA 0 < pointA 1 ∧ pointA 1 < pointA 2 ∧ pointA 2 < pointA 3 ∧ pointA 3 ≤ 1023 := by
  have hmode : ∀ b : Byte, (b = 0 ∨ b = 1) ↔ b.toNat ≤ 1 := fun b => by bv_omega
  simp only [lightValid, lightPoint_slot h, Nat.reduceLT, param8_slot h (i := 0) (o := 0x1C), Bool.and_eq_true,
    Bool.or_eq_true, beq_iff_eq, decide_eq_true_eq, hmode]
  omega

/-- The settings of R143 with the ranges of R144. -/
theorem lightSettings_slot (h : a = b + 0x1C) : lightSettings (m.reads a 36) =
    let byte := fun o => (m.read (b + o)).toNat
    let pointA := fun i => byte (0x28 + 2 * i) + 256 * byte (0x29 + 2 * i)
    let timeout := byte 0x22 + 256 * byte 0x23
    { mode := if byte 0x1C = 0 then .auto else .manual, manual := byte 0x1D,
      p0 := ⟨pointA 0, byte 0x30⟩, p1 := ⟨pointA 1, byte 0x31⟩, p2 := ⟨pointA 2, byte 0x32⟩, p3 := ⟨pointA 3, byte 0x33⟩,
      slew := max 1 (min 32 (byte 0x1E)), driveCap := byte 0x1F, dim := byte 0x20,
      idleTimeout := if timeout = 0 then 0 else max 5 (min 600 timeout),
      idleSources := (m.read (b + 0x24)).setWidth 3, keyRatio := min 16 (byte 0x21) } := by
  simp only [lightSettings, lightPoint_slot h, Nat.reduceLT, param8_slot h (i := 0) (o := 0x1C),
    param8_slot h (i := 1) (o := 0x1D), param8_slot h (i := 2) (o := 0x1E), param8_slot h (i := 3) (o := 0x1F),
    param8_slot h (i := 4) (o := 0x20), param8_slot h (i := 5) (o := 0x21), param8_slot h (i := 8) (o := 0x24),
    param16_slot h (i := 6) (o := 0x22), byte_toNat_eq_zero, clampOrZero, clampTo, Nat.zero_max, Nat.reduceAdd,
    Nat.reduceMul]

/-- The CLAMPED mark: the slew step, the key ratio or the idle timeout lies outside its range (R144). -/
theorem lightClamped_slot (h : a = b + 0x1C) : lightClamped (m.reads a 36) = true ↔
    let byte := fun o => (m.read (b + o)).toNat
    let timeout := byte 0x22 + 256 * byte 0x23
    byte 0x1E = 0 ∨ 32 < byte 0x1E ∨ 16 < byte 0x21 ∨ (timeout ≠ 0 ∧ (timeout < 5 ∨ 600 < timeout)) := by
  simp only [lightClamped, Bool.or_eq_true, outside_iff, outsideOrZero_iff, param8_slot h (i := 2) (o := 0x1E),
    param8_slot h (i := 5) (o := 0x21), param16_slot h (i := 6) (o := 0x22), Nat.reduceLT, Nat.reduceAdd, Nat.lt_one_iff,
    Nat.not_lt_zero, false_or, or_assoc]

end

/-! ### The idle timer and the levels under new settings (R144, R147, R148, R150) -/

/-- A timeout of 0 turns the idle timer OFF; another loads it, but for a DIMMED one (R150). -/
theorem idleRetime_light (n : Nat) (s : State) :
    (idleRetime n s).light = { s.light with
      idle := if n = 0 then .off else if s.light.idle = .dimmed then .dimmed else .running,
      idleEnds := if n = 0 ∨ s.light.idle = .dimmed then s.light.idleEnds else s.power.dockTime + ms (n * 1000) } := by
  unfold idleRetime
  split
  · next hzero => simp [hzero]
  · next hsome =>
    split
    · next hdimmed => simp [hsome, ← hdimmed]
    · next hbright =>
      have hbright : s.light.idle ≠ .dimmed := hbright
      simp [hsome, hbright, after, now]

/-- New settings move nothing outside the light (R144). -/
theorem applyLight_eq (l : LightSettings) (s : State) : applyLight l s = { s with light := (applyLight l s).light } := by
  have htimed : idleRetime l.idleTimeout { s with light.settings := l } =
      { s with light := (idleRetime l.idleTimeout { s with light.settings := l }).light } := by
    unfold idleRetime
    (repeat' split) <;> rfl
  rw [applyLight, setOutput, recompute_eq, htimed]

/-- The settings as given, and the idle timer: OFF with a timeout of 0, DIMMED where it was, else loaded (R150). -/
theorem applyLight_timer (l : LightSettings) (s : State) :
    (applyLight l s).light.settings = l ∧
    (applyLight l s).light.idle =
      (if l.idleTimeout = 0 then .off else if s.light.idle = .dimmed then .dimmed else .running) ∧
    (applyLight l s).light.idleEnds =
      (if l.idleTimeout = 0 ∨ s.light.idle = .dimmed then s.light.idleEnds
        else s.power.dockTime + ms (l.idleTimeout * 1000)) := by
  simp [applyLight, idleRetime_light]

/-- The target from the new settings, the output at it in the immediate cases, and the key light by the new ratio (R144,
R146 to R148). -/
theorem applyLight_levels (l : LightSettings) (s : State) :
    let t := applyLight l s
    t.light.target = targetLevel t ∧ t.light.output = (if immediate s then targetLevel t else s.light.output) ∧
    t.light.keyLight = t.light.output * l.keyRatio / 16 := by
  intro t
  let timed := idleRetime l.idleTimeout { s with light.settings := l }
  have htarget : targetLevel t = targetLevel timed := targetLevel_recompute timed
  have himmediate : immediate timed = immediate s := by simp [timed, immediate, dark]
  have houtput : timed.light.output = s.light.output := by simp [timed, idleRetime_light]
  have hsettings : (recompute timed).light.settings = l := by simp [timed, idleRetime_light]
  refine ⟨(recompute_target timed).trans htarget.symm, (recompute_output timed).trans ?_, ?_⟩
  · rw [himmediate, houtput, htarget]
  · change _ * (recompute timed).light.settings.keyRatio / 16 = _
    rw [hsettings]
    rfl

/-! ### The take at the POST (R144) -/

section
variable {s : State} {k : Fin 16}

theorem exec_post_light (h : ExchangeInv s) (hlinked : Linked s) (ho : s.exch.sessionOpen = true)
    (hk : (slot s k).state = .free) (hq : s.exch.queue = []) (hjob : s.exch.settingsJob = none)
    (hkind : s.mem.read (0x0104 + 64 * k.val) = kindLight) :
    exec (.post k) s = .next (takeLight (jobAtPost k s) (takenAtPost k s)) := by
  have hsettings : isSettingsKind (s.mem.read (0x0104 + 64 * k.val)) = true := by rw [hkind]; decide
  have hlight : (jobAtPost k s).kind = kindLight := hkind
  rw [exec_post_settings hlinked ho hk h.slots hq hjob hsettings, takeSettings, hlight, if_neg (by decide), if_pos rfl]

theorem takeLight_invalid {j : Job} (h : ¬lightValid j.params = true) (s : State) :
    takeLight j s = completeJob j .badParam 0 0 s := if_neg h

/-- The state in which the settings of a request are applied: its context holds the job with its flags (R13, R144). -/
def lightHeld (j : Job) (s : State) : State :=
  { s with exch := { s.exch with settingsJob := some { j with flags := clampedFlag (lightClamped j.params) } } }

theorem takeLight_valid {j : Job} (h : lightValid j.params = true) (s : State) :
    takeLight j s = applyLight (lightSettings j.params) (lightHeld j s) := if_pos h

end

/-- Settles O37: the checks, then the settings with the idle timer and the levels that follow from them. -/
theorem lightRequestIsChecked : Obligations.LightRequestIsChecked := by
  intro s k h hlinked ho hk hq hjob hkind byte a timeout valid
  have hoffset : 0x011C + 64 * k.val = 0x0100 + 64 * k.val + 0x1C := by omega
  have hvalid : lightValid (jobAtPost k s).params = true ↔ valid := lightValid_slot hoffset
  refine ⟨_, exec_post_light h hlinked ho hk hq hjob hkind, fun hbad => ?_, fun hgood => ?_⟩
  · obtain ⟨hends, hframe, -, hfree⟩ := completeJob_takenAtPost (k := k) h.slots .badParam 0
    rw [takeLight_invalid (mt hvalid.mp hbad)]
    exact ⟨hframe, hends, hfree.trans hjob⟩
  · let l := lightSettings (jobAtPost k s).params
    let held := lightHeld (jobAtPost k s) (takenAtPost k s)
    have hl : l = _ := lightSettings_slot (m := s.mem) hoffset
    have htimeout : l.idleTimeout = if timeout = 0 then 0 else max 5 (min 600 timeout) :=
      congrArg LightSettings.idleTimeout hl
    have hzero : l.idleTimeout = 0 ↔ timeout = 0 := by
      rw [htimeout]
      exact clampOrZero_eq_zero timeout (by omega)
    have hratio : l.keyRatio = min 16 (byte 0x21) := congrArg LightSettings.keyRatio hl
    have hexch : (applyLight l held).exch = held.exch := by simp
    have hflags : clampedFlag (lightClamped (jobAtPost k s).params) = _ := if_congr (lightClamped_slot hoffset) rfl rfl
    obtain ⟨hset, hidle, hends⟩ := applyLight_timer l held
    obtain ⟨htarget, houtput, hkeyLight⟩ := applyLight_levels l held
    rw [takeLight_valid (hvalid.mpr hgood), hexch]
    refine ⟨applyLight_eq l held, ?_, ?_, ?_, fun hsome hbright => ?_, htarget, houtput, ?_, ?_⟩
    · rw [slot, hexch]
      exact takenAtPost_active h
    · rw [Nat.add_right_comm 0x0100 _ 0x24] at hl
      exact hset.trans hl
    · rw [hidle]
      exact if_congr hzero rfl rfl
    · have hloaded : ¬(l.idleTimeout = 0 ∨ held.light.idle = .dimmed) := not_or.mpr ⟨mt hzero.mp hsome, hbright⟩
      rw [hends, if_neg hloaded, htimeout, if_neg hsome]
      rfl
    · rw [hkeyLight, hratio]
    · exact congrArg some hflags

end Sys2Proof.Machine
end

section
/-! PROOFS. Drive mode as the lines give it, and the linger timer under the operations of every block (R157, R164, R170). -/

namespace Sys2Proof.Machine

section
variable {s t u : State}

/-! ### Events that may load a running linger timer, and no more of the Power Manager (R56, R135, R170) -/

/-- From `s` to `t` the lines have stayed, and of the Power Manager all but the end of a linger timer that runs. -/
structure LingerKept (s t : State) : Prop where
  lines : t.lines = s.lines
  power : t.power = { s.power with lingerEnds := t.power.lingerEnds }
  runs : t.power.lingerEnds.isSome = s.power.lingerEnds.isSome

theorem LingerKept.of_same (h : t.lines = s.lines ∧ t.power = s.power) : LingerKept s t := by
  obtain ⟨hlines, hpower⟩ := h
  exact ⟨hlines, by rw [hpower], by rw [hpower]⟩

theorem LingerKept.refl (s : State) : LingerKept s s := .of_same ⟨rfl, rfl⟩

theorem LingerKept.trans (h : LingerKept s t) (h' : LingerKept t u) : LingerKept s u :=
  ⟨h'.lines.trans h.lines, by rw [h'.power, h.power], h'.runs.trans h.runs⟩

theorem activity_lingerKept (a : Activity) (s : State) : LingerKept s (activity a s) := by
  obtain ⟨hpower, -, -⟩ := activity_taken a s
  refine ⟨by simp, by rw [hpower], ?_⟩
  rw [hpower]
  dsimp only
  split <;> simp

theorem finishPresent_lingerKept (code : ResultCode) (n : Nat) (s : State) : LingerKept s (finishPresent code n s) := by
  unfold finishPresent
  split
  · exact .refl s
  · exact (LingerKept.of_same (by simp)).trans (activity_lingerKept _ _)

theorem carryBoundary_lingerKept (c : Carry) (s : State) : LingerKept s (carryBoundary c s) := by
  have hcopy : ∀ carry, LingerKept s { s with scanout.carry := carry } := fun _ => .of_same ⟨rfl, rfl⟩
  unfold carryBoundary
  split
  · exact hcopy none
  · split
    · split
      · exact hcopy none
      · exact (hcopy none).trans (finishPresent_lingerKept _ _ _)
    · split <;> exact hcopy _

theorem carryRowDone_lingerKept (s : State) : LingerKept s (carryRowDone s) := by
  unfold carryRowDone
  (repeat' split)
  · exact .refl s
  · next c _ _ =>
    have hrow : LingerKept s (copyRow c.row s) := .of_same ⟨rfl, rfl⟩
    exact hrow.trans (carryBoundary_lingerKept _ _)
  · exact .refl s

theorem resumePictures_lingerKept (s : State) : LingerKept s (resumePictures s) := by
  have hpicture : LingerKept s (resumePicture s) := .of_same (by simp)
  unfold resumePictures resumeCarry
  (repeat' split)
  · exact hpicture
  · exact hpicture.trans (carryBoundary_lingerKept _ _)
  · exact hpicture

theorem swap_lingerKept (carry : Bool) (s : State) : LingerKept s (swap carry s) := by
  have hroles : LingerKept s { s with scanout.front := s.scanout.front.other, scanout.waiting := none } :=
    .of_same ⟨rfl, rfl⟩
  unfold swap
  dsimp only
  split
  · exact hroles.trans (carryBoundary_lingerKept _ _)
  · exact hroles.trans (finishPresent_lingerKept _ _ _)

theorem swapWaiting_lingerKept (s : State) : LingerKept s (swapWaiting s) := by
  unfold swapWaiting
  split
  · exact .refl s
  · exact swap_lingerKept _ s

theorem takePresent_lingerKept (j : Job) (s : State) : LingerKept s (takePresent j s) := by
  have hjob : LingerKept s { s with picture := { s.picture.cleared with job := some j } } := .of_same ⟨rfl, rfl⟩
  unfold takePresent
  dsimp only
  split
  · exact .of_same ⟨rfl, rfl⟩
  · exact hjob.trans (swap_lingerKept _ _)

theorem takeByPicture_lingerKept (e : Entry) (s : State) : LingerKept s (takeByPicture e s) := by
  unfold takeByPicture
  dsimp only
  split
  · exact (LingerKept.of_same (by simp)).trans (takePresent_lingerKept _ (activate e s))
  · exact .of_same (by simp)

theorem verticalBlank_lingerKept (s : State) : LingerKept s (verticalBlank s) := by
  have hcount : LingerKept s { s with scanout.frame := s.scanout.frame + 1 } := .of_same ⟨rfl, rfl⟩
  unfold verticalBlank
  split
  · exact (hcount.trans (swapWaiting_lingerKept _)).trans (.of_same ⟨rfl, rfl⟩)
  · exact .refl s

theorem stopPanel_lingerKept (st : Stage) (s : State) : LingerKept s (stopPanel st s) := by
  have hstage : LingerKept s (enterStage .stopping st s) := .of_same ⟨rfl, rfl⟩
  exact (hstage.trans (swapWaiting_lingerKept _)).trans (.of_same (by simp [stopPanel]))

theorem panelTest_lingerKept (s : State) : LingerKept s (panelTest s) := by
  unfold panelTest
  (repeat' split)
  · exact .of_same (by simp)
  · exact .refl s
  · exact .refl s
  · exact stopPanel_lingerKept _ s
  · exact .refl s
  · exact stopPanel_lingerKept _ s
  · exact .refl s

theorem stageExpiry_lingerKept (s : State) : LingerKept s (stageExpiry s) := by
  have hrested : LingerKept s (finishPanel false (recompute (restPanel .off s))) := .of_same (by simp)
  unfold stageExpiry
  (repeat' split)
  · exact .refl s
  · exact .of_same (by simp)
  · exact .of_same (by simp)
  · exact .of_same (by simp)
  · exact .of_same (by simp)
  · exact .of_same (by simp)
  · exact hrested.trans (panelTest_lingerKept _)
  · exact .refl s

/-! ### The invariant in its parts -/

/-- Drive mode as the lines give it, and the numbers in their ranges, whatever the linger timer does (R157, R164, R167,
R176). -/
structure DriveAndRanges (s : State) : Prop where
  drive : s.lines.drive = (s.lines.ignOn && !s.lines.parkEngaged)
  lingerTime : s.power.lingerMin ≤ 240
  recovery : s.power.recovery ≤ 3
  dips : s.power.dipCount ≤ 255

theorem powerInv_iff (s : State) : PowerInv s ↔
    DriveAndRanges s ∧ s.power.lingerEnds.isSome = (!s.lines.ignOn && !s.power.standby) :=
  ⟨fun h => ⟨⟨h.drive, h.lingerTime, h.recovery, h.dips⟩, h.linger⟩,
    fun ⟨h, hlinger⟩ => ⟨h.drive, hlinger, h.lingerTime, h.recovery, h.dips⟩⟩

theorem LingerKept.driveAndRanges (h : LingerKept s t) (hs : DriveAndRanges s) : DriveAndRanges t :=
  ⟨by rw [h.lines]; exact hs.drive, by rw [h.power]; exact hs.lingerTime, by rw [h.power]; exact hs.recovery,
    by rw [h.power]; exact hs.dips⟩

theorem LingerKept.powerInv (h : LingerKept s t) (hs : PowerInv s) : PowerInv t := by
  obtain ⟨hranges, hlinger⟩ := (powerInv_iff s).mp hs
  refine (powerInv_iff t).mpr ⟨h.driveAndRanges hranges, ?_⟩
  rw [h.runs, h.lines, h.power]
  exact hlinger

theorem PowerInv.same (h : PowerInv s) (hsame : t.lines = s.lines ∧ t.power = s.power) : PowerInv t :=
  (LingerKept.of_same hsame).powerInv h

/-! ### The Power Manager (R167, R170 to R174) -/

/-- In STANDBY no linger timer runs, by either line (R170, R172). -/
theorem enterStandby_powerInv (h : DriveAndRanges s) : PowerInv (enterStandby s) := by
  have hlines : (enterStandby s).lines = s.lines := by simp
  have hpower := enterStandby_power s
  refine (powerInv_iff _).mpr ⟨⟨hlines ▸ h.drive, ?_, ?_, ?_⟩, by simp [hpower]⟩ <;> rw [hpower]
  · exact h.lingerTime
  · exact h.recovery
  · exact h.dips

/-- A linger timer loaded with IGN OFF in ACTIVE (R170). -/
theorem lingerLoaded_powerInv (ends : Word) (h : DriveAndRanges s) (hign : s.lines.ignOn = false)
    (hactive : s.power.standby = false) : PowerInv { s with power.lingerEnds := some ends } :=
  (powerInv_iff _).mpr ⟨⟨h.drive, h.lingerTime, h.recovery, h.dips⟩, by simp [hign, hactive]⟩

/-- A wake leaves the linger timer stopped with IGN ON and loaded with IGN OFF (R170, R174). -/
theorem wake_powerInv (w : WakeSource) (h : PowerInv s) : PowerInv (wake w s) := by
  obtain ⟨hranges, hlinger⟩ := (powerInv_iff s).mp h
  have hlines : (wake w s).lines = s.lines := by simp
  have hstandby : (wake w s).power.standby = false := by simp [wake_eq]
  have hkept : LingerKept (wokenTimers w s) (wake w s) := by
    have hlevels : LingerKept (wokenTimers w s) (wokenLevels w s) :=
      (panelTest_lingerKept _).trans (.of_same (by simp [wokenLevels]))
    rw [wake_eq, wokenBlocks_eq]
    exact (hlevels.trans (resumePictures_lingerKept _)).trans (.of_same (by simp))
  obtain ⟨mem, journal, attention, messages, -, htimers⟩ := wokenTimers_eq w s
  refine hkept.powerInv ?_
  rw [htimers]
  refine (powerInv_iff _).mpr ⟨⟨hranges.drive, hranges.lingerTime, hranges.recovery, hranges.dips⟩, ?_⟩
  cases hign : s.lines.ignOn with
  | true => simpa [hign] using hlinger
  | false => simp

theorem wakeSource_powerInv (w : WakeSource) (h : PowerInv s) : PowerInv (wakeSource w s) := by
  unfold wakeSource
  split
  · exact wake_powerInv w h
  · exact h

/-- IGN newly ON: the timer is stopped, and a wake leaves it so (R170). -/
theorem ignitionOn_powerInv (h : DriveAndRanges s) (hign : s.lines.ignOn = true) : PowerInv (ignitionOn s) := by
  have hstopped : PowerInv { s with power.lingerEnds := none } :=
    (powerInv_iff _).mpr ⟨⟨h.drive, h.lingerTime, h.recovery, h.dips⟩, by simp [hign]⟩
  exact wakeSource_powerInv .ignitionOn hstopped

/-- IGN newly OFF: in ACTIVE the timer is loaded or STANDBY entered, and in STANDBY none ran (R170). -/
theorem ignitionOff_powerInv (h : DriveAndRanges s) (hign : s.lines.ignOn = false)
    (hstopped : s.power.standby = true → s.power.lingerEnds = none) : PowerInv (ignitionOff s) := by
  unfold ignitionOff
  (repeat' split)
  · next hstandby => exact (powerInv_iff s).mpr ⟨h, by simp [hstopped hstandby, hstandby]⟩
  · exact enterStandby_powerInv h
  · next hactive _ => exact lingerLoaded_powerInv _ h hign (by simpa using hactive)

/-- A new linger time reloads a timer that runs, or enters STANDBY (R171). -/
theorem lingerRetime_powerInv (h : PowerInv s) : PowerInv (lingerRetime s) := by
  obtain ⟨hranges, hlinger⟩ := (powerInv_iff s).mp h
  unfold lingerRetime
  (repeat' split)
  · exact h
  · exact enterStandby_powerInv hranges
  · next hends _ =>
    rw [hends] at hlinger
    exact (powerInv_iff _).mpr ⟨⟨h.drive, h.lingerTime, h.recovery, h.dips⟩, hlinger⟩

theorem lingerExpiry_powerInv (h : PowerInv s) : PowerInv (lingerExpiry s) := by
  unfold lingerExpiry
  split
  · exact enterStandby_powerInv ((powerInv_iff s).mp h).1
  · exact h

/-- The recovery count goes on from below 3 alone (R167, log entry 35). -/
theorem classify_recovery (band : Band) (recovery mv : Nat) (h : recovery ≤ 3) : (classify band recovery mv).2 ≤ 3 := by
  unfold classify
  (repeat' split) <;> dsimp only <;> omega

/-- A sample moves the band and the recovery count, and with a new band the picture path (R167, R168). -/
theorem sample_powerInv (mv : Nat) (h : PowerInv s) : PowerInv (sample mv s) := by
  have hcount := classify_recovery s.power.band s.power.recovery mv h.recovery
  unfold sample changeBand
  dsimp only
  split
  · exact ⟨h.drive, h.linger, h.lingerTime, hcount, h.dips⟩
  · let r := classify s.power.band s.power.recovery mv
    have hband : PowerInv { s with power := { s.power with band := r.1, recovery := r.2 } } :=
      ⟨h.drive, h.linger, h.lingerTime, hcount, h.dips⟩
    exact (resumePictures_lingerKept _).powerInv (hband.same (by simp [r]))

/-! ### The key path (R51, R170, R175) -/

theorem pressCases_powerInv (p : Fin 128) (h : PowerInv s) : PowerInv (pressCases p s) := by
  have hwake := wakeSource_powerInv (.key p) h
  unfold pressCases
  dsimp only
  (repeat' split)
  · exact hwake.same ⟨rfl, rfl⟩
  · exact hwake.same (by simp)
  · exact h.same (by simp)

theorem pressActivity_powerInv (found : State) (h : PowerInv s) : PowerInv (pressActivity found s) := by
  have horder : PowerInv (takeOrder s).2 := h.same ⟨rfl, rfl⟩
  unfold pressActivity
  dsimp only
  (repeat' split)
  · exact (activity_lingerKept _ _).powerInv (lingerExpiry_powerInv horder)
  · exact (activity_lingerKept _ _).powerInv horder
  · exact (activity_lingerKept _ _).powerInv h

theorem press_powerInv (p : Fin 128) (h : PowerInv s) : PowerInv (press p s) := by
  unfold press
  split
  · exact pressActivity_powerInv s (pressCases_powerInv p h)
  · exact h

theorem fastPass_powerInv (raw : BitVec 128) (h : PowerInv s) : PowerInv (fastPass raw s) := by
  have hbegun : PowerInv { s with
      composer.keys := integrated (pressThreshold s) (samples raw s) s.composer.keys,
      scanner.passAt := now s, scanner.driven := true } := h.same ⟨rfl, rfl⟩
  have hdecided : PowerInv (fastPassDecide raw s) :=
    (List.foldlRecOn _ _ (List.foldlRecOn _ _ hbegun fun _ hs _ _ => hs.same (by simp)) fun _ hs p _ =>
      press_powerInv p hs).same ⟨rfl, rfl⟩
  exact hdecided.same (by simp [fastPass])

end

end Sys2Proof.Machine
end

section
/-! PROOFS. Every step keeps drive mode, the linger timer and the ranges of the Power Manager (R157, R164, R170). -/

namespace Sys2Proof.Machine

section
variable {s t : State}

/-! ### The contexts -/

theorem vehicleLinger_le (ps : List Byte) : vehicleLinger ps ≤ 240 := (clampTo_range (Nat.zero_le 240) _).2

/-- The settings of a VEHICLE request bring the linger time into its range and leave its timer to R171 (R164). -/
theorem applyVehicle_powerInv (ps : List Byte) (h : PowerInv s) : PowerInv (applyVehicle ps s) :=
  lingerRetime_powerInv ⟨h.drive, h.linger, vehicleLinger_le ps, h.recovery, h.dips⟩

theorem takePanel_powerInv (j : Job) (h : PowerInv s) : PowerInv (takePanel j s) := by
  have hwish : PowerInv { s with scanout.wish := panelWish j.params } := h.same ⟨rfl, rfl⟩
  have happlied : PowerInv (applyWish (panelWish j.params) s) := by
    unfold applyWish
    dsimp only
    split
    · exact wakeSource_powerInv .host hwish
    · exact (panelTest_lingerKept _).powerInv hwish
  unfold takePanel
  dsimp only
  split <;> exact happlied.same (by simp)

theorem takeSettings_powerInv (j : Job) (h : PowerInv s) : PowerInv (takeSettings j s) := by
  unfold takeSettings
  (repeat' split)
  · exact h.same (by simp)
  · exact h.same (by simp)
  · exact applyVehicle_powerInv j.params (h.same ⟨rfl, rfl⟩)
  · exact takePanel_powerInv j h
  · exact h.same (by simp)

theorem oneTake_powerInv (ht : oneTake s = some t) (h : PowerInv s) : PowerInv t := by
  obtain ⟨-, e, -, rfl⟩ | ⟨-, -, e, -, rfl⟩ | ⟨-, e, -, rfl⟩ := oneTake_cases ht
  · exact takeSettings_powerInv _ (h.same (by simp))
  · exact (takeByPicture_lingerKept e s).powerInv h
  · exact h.same (by simp)

theorem look_powerInv (h : PowerInv s) : PowerInv (look s) := by
  unfold look
  generalize s.exch.queue.length = n
  induction n generalizing s with
  | zero => exact h
  | succ n ih =>
    unfold lookFor
    split
    · exact h
    · next t ht => exact ih (oneTake_powerInv ht h)

/-! ### The tablet's writes -/

theorem slotStateWrite_powerInv (k : Fin 16) (v : Word) (h : PowerInv s) : PowerInv (slotStateWrite k v s) := by
  unfold slotStateWrite postWrite cancelWrite
  (repeat' split)
  · exact h.same (by simp)
  · exact look_powerInv (h.same (by simp))
  · exact h.same (by simp)
  · exact h.same (by simp)
  · exact h.same (by simp)
  · exact look_powerInv (h.same (by simp))
  · exact look_powerInv (h.same (by simp))
  · exact h
  · exact h
  · exact h
  · exact h
  · exact h.same (by simp)

theorem exchangeWrite_powerInv (w : BitVec 14) (be : BitVec 4) (v : Word) (h : PowerInv s) :
    PowerInv (exchangeWrite w be v s) := by
  unfold exchangeWrite
  split
  · exact h.same ⟨rfl, rfl⟩
  · exact h.same (by simp)
  · exact h
  · next g _ =>
    split
    · cases g with
      | slotState k => exact slotStateWrite_powerInv k v h
      | session | taken | mark | acknowledge => exact h.same (by simp [guardedWrite])
    · exact h.same (by simp)

/-! ### The lines (R157 to R163) -/

/-- Drive mode derived is drive mode stored (R157). -/
theorem deriveDrive_lines (s : State) :
    (deriveDrive s).lines = { s.lines with drive := s.lines.ignOn && !s.lines.parkEngaged } := by
  unfold deriveDrive
  dsimp only
  split
  · next h => rw [← derivedDrive, h]
  · simp [derivedDrive]

/-- However the lines have changed, drive mode is then derived from them (R157). -/
theorem deriveDrive_driveAndRanges (h : PowerInv s) (hpower : t.power = s.power) : DriveAndRanges (deriveDrive t) := by
  have hkept : (deriveDrive t).power = s.power := by simp [hpower]
  refine ⟨by rw [deriveDrive_lines], ?_, ?_, ?_⟩ <;> rw [hkept]
  · exact h.lingerTime
  · exact h.recovery
  · exact h.dips

theorem ignChange_powerInv (level : Bool) (h : PowerInv s) : PowerInv (ignChange level s) := by
  let derived := deriveDrive (plainRecord .vehicle (if level then 1 else 2) { s with lines.ignOn := level })
  have hderived : DriveAndRanges derived := deriveDrive_driveAndRanges h (by simp)
  have hign : derived.lines.ignOn = level := by simp [derived, deriveDrive_lines]
  have hpower : derived.power = s.power := by simp [derived]
  have hline : PowerInv (if level then ignitionOn derived else ignitionOff derived) := by
    split
    · next hon => exact ignitionOn_powerInv hderived (hign.trans hon)
    · next hoff =>
      refine ignitionOff_powerInv hderived (hign.trans (by simpa using hoff)) fun hstandby => ?_
      rw [hpower] at hstandby ⊢
      simpa [hstandby] using h.linger
  exact (activity_lingerKept .vehicle _).powerInv hline

/-- PARK moves drive mode and no linger timer but by its activity (R159, R170). -/
theorem parkChange_powerInv (level : Bool) (h : PowerInv s) : PowerInv (parkChange level s) := by
  have hderived : DriveAndRanges (deriveDrive { s with lines.parkEngaged := level }) := deriveDrive_driveAndRanges h rfl
  refine (activity_lingerKept .vehicle _).powerInv ((powerInv_iff _).mpr ⟨hderived, ?_⟩)
  simpa [deriveDrive_lines] using h.linger

theorem lineChange_powerInv (line : Line) (level : Bool) (h : PowerInv s) : PowerInv (lineChange line level s) := by
  cases line with
  | ign => exact ignChange_powerInv level h
  | park => exact parkChange_powerInv level h
  | presence =>
    have hdocked : PowerInv { s with lines.docked := level } := ⟨h.drive, h.linger, h.lingerTime, h.recovery, h.dips⟩
    simp only [lineChange, presenceChange]
    split
    · exact wakeSource_powerInv .dockArrival hdocked
    · exact hdocked.same (by simp)
  | latch =>
    have hlatch : PowerInv { s with lines.latchOpen := level } := ⟨h.drive, h.linger, h.lingerTime, h.recovery, h.dips⟩
    have hrecord : PowerInv (plainRecord .latch (if level then 1 else 2) { s with lines.latchOpen := level }) :=
      hlatch.same (by simp)
    simp only [lineChange, latchChange]
    split
    · next hl => simpa [hl] using wakeSource_powerInv .latch hrecord
    · next hl => simpa [hl] using hrecord

theorem setLineTimer_powerInv (line : Line) (ends : Option Word) (h : PowerInv s) : PowerInv (setLineTimer line ends s) := by
  cases line <;> exact ⟨h.drive, h.linger, h.lingerTime, h.recovery, h.dips⟩

theorem lineExpiry_powerInv (line : Line) (h : PowerInv s) : PowerInv (lineExpiry line s) := by
  have hstopped := setLineTimer_powerInv line none h
  unfold lineExpiry
  dsimp only
  (repeat' split)
  · exact hstopped
  · exact lineChange_powerInv line _ hstopped
  · exact h

/-- An edge moves a level at an input and a qualification timer (R155). -/
theorem lineEdge_powerInv (line : Line) (high : Bool) (h : PowerInv s) : PowerInv (lineEdge line high s) := by
  have hlevel : PowerInv { s with lines.levels := putLevel s.lines.levels line high } :=
    ⟨h.drive, h.linger, h.lingerTime, h.recovery, h.dips⟩
  unfold lineEdge
  dsimp only
  (repeat' split)
  · exact h
  · exact hlevel
  · exact setLineTimer_powerInv line _ hlevel

/-! ### Link and starts -/

theorem failFetches_powerInv (n : Nat) (h : PowerInv s) : PowerInv (failFetches n s) := by
  induction n generalizing s with
  | zero => exact h
  | succ n ih =>
    cases hf : fetchesHostRow s with
    | false => rwa [failFetches_none _ hf]
    | true =>
      rw [failFetches_fetching _ hf]
      split
      · exact ih (look_powerInv (h.same (by simp)))
      · exact h.same ⟨rfl, rfl⟩

theorem linkDown_powerInv (h : PowerInv s) : PowerInv (linkDown s) := by
  have hdown : PowerInv { s with link.up := false } := h.same ⟨rfl, rfl⟩
  unfold linkDown
  split
  · exact (failFetches_powerInv (s.exch.queue.length + 1) hdown).same (by simp [linkLost])
  · exact h

theorem powerReset_linger (prior : PriorPower) (s : State) :
    (powerReset prior s).power.lingerEnds.isSome = !s.lines.ignOn := by
  unfold powerReset
  cases s.lines.ignOn <;> rfl

/-- A function reset loads the linger timer in ACTIVE by IGN, with the default linger time (R165, R177). -/
theorem resetFunction_powerInv (h : PowerInv s) : PowerInv (resetFunction s) := by
  have hwork : PowerInv (workReset s) := h.same (by simp)
  have hlinger := (powerReset_linger (priorOf s) (settingsReset (keyPathReset (exchangeReset (workReset s))))).trans
    (Bool.and_true _).symm
  have hbefore : PowerInv (beforePanelReset s) :=
    ⟨hwork.drive, hlinger, Nat.le_of_ble_eq_true rfl, hwork.recovery, hwork.dips⟩
  have hwished : PowerInv { beforePanelReset s with scanout.wish := true, scanout.presented := false } :=
    hbefore.same ⟨rfl, rfl⟩
  rw [resetFunction_eq]
  exact ((panelTest_lingerKept _).powerInv hwished).same (by simp [panelReset])

theorem controlWrite_powerInv (v : Word) (h : PowerInv s) : PowerInv (controlWrite v s) := by
  have hset : PowerInv (setInterruptEnable (v.getLsbD 0) s) := h.same (by simp)
  unfold controlWrite
  dsimp only
  split
  · exact resetFunction_powerInv hset
  · exact hset

/-- After a cold start IGN is OFF, PARK ENGAGED, and the linger timer runs with its default time (R165, R177). -/
theorem coldStart_powerInv (levels : LineLevels) (s : State) : PowerInv (coldStart levels s) :=
  ⟨rfl, rfl, Nat.le_of_ble_eq_true rfl, Nat.zero_le 3, Nat.zero_le 255⟩

/-- A supply dip start counts itself, up to 255 (R176). -/
theorem dipStart_powerInv (s : State) : PowerInv (dipStart s) :=
  ⟨rfl, rfl, Nat.le_of_ble_eq_true rfl, Nat.zero_le 3, Nat.min_le_right _ _⟩

/-! ### Every step -/

theorem effect_powerInv (c : Instr) (h : PowerInv s) : PowerInv (effect c s) := by
  cases c with
  | exchangeMemoryWrite w be v => exact exchangeWrite_powerInv w be v h
  | post k => exact slotStateWrite_powerInv k 1 h
  | cancel k => exact slotStateWrite_powerInv k 8 h
  | interruptEnableWrite _ | functionReset _ => exact controlWrite_powerInv _ h
  | registerWriteIgnored w be v =>
    simp only [effect, registerWrite]
    split
    · exact controlWrite_powerInv v h
    · exact h
  | linkDown => exact linkDown_powerInv h
  | fastPass levels => exact look_powerInv (fastPass_powerInv _ h)
  | carryCopyRowComplete => exact look_powerInv ((carryRowDone_lingerKept s).powerInv h)
  | verticalBlankStart => exact look_powerInv ((verticalBlank_lingerKept s).powerInv h)
  | panelStageExpiry => exact look_powerInv ((stageExpiry_lingerKept s).powerInv h)
  | clearingEnd =>
    refine look_powerInv ?_
    unfold endClearing
    split
    · exact h.same ⟨rfl, rfl⟩
    · exact h
  | supplyConversionComplete code =>
    have hread : PowerInv { s with measure.millivolts := BitVec.ofNat 16 (millivoltsOf code) } := h.same ⟨rfl, rfl⟩
    exact look_powerInv ((sample_powerInv (millivoltsOf code) hread).same ⟨rfl, rfl⟩)
  | lineEdge line high => exact lineEdge_powerInv line high h
  | qualificationExpiry line => exact look_powerInv (lineExpiry_powerInv line h)
  | lingerExpiry => exact look_powerInv (lingerExpiry_powerInv h)
  | dockTimeAdvance => exact ⟨h.drive, h.linger, h.lingerTime, h.recovery, h.dips⟩
  | survivalComparatorTrip =>
    have hended : PowerInv (endSession s) := h.same (by simp)
    exact ⟨hended.drive, hended.linger, hended.lingerTime, hended.recovery, hended.dips⟩
  | supplyDipStart => exact dipStart_powerInv s
  | coldStart levels => exact coldStart_powerInv levels s
  | settingsCompletion | profileWaitExpiry | slowPass _ | hostReadCompletion _ _ _ _ _ | hostReadTimeout _
  | rowWriteComplete => exact look_powerInv (h.same (by simp))
  | sessionOpen | sessionClose | free _ | attentionAcknowledge _ | journalTakenWrite _ | notifyMarkWrite _
  | linkReset | msiEnableChange _ | interruptDisableChange _ | busMasteringChange _ | linkUp | windowEnd | slowScanEntry
  | downTimeAdvance | hold _ | stuck _ | repeatExpiry | conversionDue | ambientConversionComplete _ | lightTick
  | idleExpiry =>
    exact h.same (by simp [effect, startConversion])

end

/-- Settles O10: the effect of every command keeps the invariant, which commands that wait do not bear on. -/
theorem stepKeepsDriveAndLinger : Obligations.StepKeepsDriveAndLinger := by
  intro s t h ht
  exact step_preserves (fun _ _ h => h.same ⟨rfl, rfl⟩) (fun c _ h => effect_powerInv c h) h ht

end Sys2Proof.Machine
end

section
/-! PROOFS. The Line Qualifier: edges, the qualification timers, and a change of each qualified level (R155 to R163). -/

namespace Sys2Proof.Machine

section
variable {s t u : State} {line : Line} {high : Bool}

/-! ### Edges and expiries (R155, R156, R179) -/

theorem exec_lineEdge (line : Line) (high : Bool) (s : State) :
    exec (.lineEdge line high) s = .next (lineEdge line high s) := rfl

theorem lineEdge_none (h : levelAt s.lines.levels line = high) : lineEdge line high s = s := if_pos h

theorem lineEdge_held (h : levelAt s.lines.levels line ≠ high) (hheld : s.power.held = true) :
    lineEdge line high s = { s with lines.levels := putLevel s.lines.levels line high } :=
  (if_neg h).trans (if_pos hheld)

/-- An edge of a part that runs loads the timer of its line (R155). -/
theorem lineEdge_loads (h : levelAt s.lines.levels line ≠ high) (hrun : Running s) : lineEdge line high s =
    setLineTimer line (some (s.power.dockTime + ms (lineTime s line)))
      { s with lines.levels := putLevel s.lines.levels line high } :=
  (if_neg h).trans (if_neg (ne_true_of_eq_false hrun))

theorem exec_qualificationExpiry (hrun : Running s) (line : Line) :
    exec (.qualificationExpiry line) s = .next (look (lineExpiry line s)) :=
  next_whenRunning hrun fun s => look (lineExpiry line s)

theorem lineExpiry_early (h : due s (lineTimer s.lines line) = false) : lineExpiry line s = s :=
  if_neg (by simp [h])

/-- A pulse that came back is not believed: the timer stops (R156). -/
theorem lineExpiry_believed (h : due s (lineTimer s.lines line) = true)
    (hlevel : lineLevel s.lines.levels line = qualified s.lines line) : lineExpiry line s = setLineTimer line none s :=
  (if_pos h).trans (if_pos hlevel)

/-- A level held through its time is believed (R155). -/
theorem lineExpiry_changes (h : due s (lineTimer s.lines line) = true)
    (hlevel : lineLevel s.lines.levels line ≠ qualified s.lines line) :
    lineExpiry line s = lineChange line (lineLevel s.lines.levels line) (setLineTimer line none s) :=
  (if_pos h).trans (if_neg hlevel)

end

/-- Settles O55: the cases of an edge, and of an expiry that brings no new level. -/
theorem lineTimersQualify : Obligations.LineTimersQualify := by
  refine ⟨fun s line high => ⟨fun hsame => ?_, fun hedge hheld => ?_, fun hedge hrun => ?_⟩,
    fun s line hrun => ⟨fun hearly => ?_, fun hdue hlevel => ?_⟩⟩
  · rw [exec_lineEdge, lineEdge_none hsame]
  · rw [exec_lineEdge, lineEdge_held hedge hheld]
  · rw [exec_lineEdge, lineEdge_loads hedge hrun]
    cases line <;> rfl
  · rw [exec_qualificationExpiry hrun, lineExpiry_early hearly]
  · rw [exec_qualificationExpiry hrun, lineExpiry_believed hdue hlevel]

end Sys2Proof.Machine
end

section
/-! PROOFS. The take of a VEHICLE request: its settings at their blocks, and what a new linger time does to the linger timer
(R155, R164, R171, R172). -/

namespace Sys2Proof.Machine

/-! ### The fields of a VEHICLE request in its parameter bytes (section 1.8.3) -/

section
variable {m : Memory} {a b : Nat}

theorem vehicleParkTime_slot (h : a = b + 0x1C) : vehicleParkTime (m.reads a 36) =
    max 100 (min 3000 ((m.read (b + 0x1C)).toNat + 256 * (m.read (b + 0x1D)).toNat)) := by
  rw [vehicleParkTime, param16_slot h (o := 0x1C) (by omega) rfl, clampTo]

theorem vehicleLinger_slot (h : a = b + 0x1C) : vehicleLinger (m.reads a 36) = min 240 (m.read (b + 0x1E)).toNat := by
  rw [vehicleLinger, param8_slot h (o := 0x1E) (by omega) rfl, clampTo, Nat.zero_max]

theorem vehicleSources_slot (h : a = b + 0x1C) : vehicleSources (m.reads a 36) = (m.read (b + 0x1F)).setWidth 3 := by
  rw [vehicleSources, param8_slot h (o := 0x1F) (by omega) rfl]

theorem vehicleSwitch_slot (h : a = b + 0x1C) (i : Nat) :
    vehicleSwitch (m.reads a 36) i = (m.read (b + 0x20)).getLsbD i := by
  rw [vehicleSwitch, param8_slot h (o := 0x20) (by omega) rfl]

/-- The CLAMPED mark: the PARK time or the linger time lies outside its range (R164). -/
theorem vehicleClamped_slot (h : a = b + 0x1C) : vehicleClamped (m.reads a 36) = true ↔
    let park := (m.read (b + 0x1C)).toNat + 256 * (m.read (b + 0x1D)).toNat
    park < 100 ∨ 3000 < park ∨ 240 < (m.read (b + 0x1E)).toNat := by
  simp only [vehicleClamped, Bool.or_eq_true, outside_iff, param16_slot h (i := 0) (o := 0x1C),
    param8_slot h (i := 2) (o := 0x1E), Nat.reduceLT, Nat.reduceAdd, Nat.not_lt_zero, false_or, or_assoc]

end

/-! ### A new linger time at the linger timer (R171) -/

section
variable {s t : State} {k : Fin 16}

theorem lingerRetime_stopped (h : s.power.lingerEnds = none) : lingerRetime s = s := by
  rw [lingerRetime, h]

theorem lingerRetime_loads (h : s.power.lingerEnds ≠ none) (hmin : s.power.lingerMin ≠ 0) : lingerRetime s =
    { s with power.lingerEnds := some (s.power.dockTime + ms (60000 * s.power.lingerMin)) } := by
  obtain ⟨ends, hends⟩ := Option.ne_none_iff_exists'.mp h
  rw [lingerRetime, hends]
  exact if_neg hmin

theorem lingerRetime_enters (h : s.power.lingerEnds ≠ none) (hmin : s.power.lingerMin = 0) :
    lingerRetime s = enterStandby s := by
  obtain ⟨ends, hends⟩ := Option.ne_none_iff_exists'.mp h
  rw [lingerRetime, hends]
  exact if_pos hmin

/-- A swap, if there is one, and the panel do not move the drive blanking switch (R172). -/
theorem StandbyEntered.driveBlanking (h : ExchangeInv s) (ht : StandbyEntered s t) :
    t.scanout.driveBlanking = s.scanout.driveBlanking := by
  obtain ⟨-, -, -, -, -, -, -, -, -, -, -, -, -, -, hswapped, hkept, -⟩ := ht
  by_cases hrest : s.scanout.waiting = none ∨ ¬(s.scanout.panel = .on ∨ s.scanout.panel = .starting)
  · rw [(hkept hrest).1]
  · obtain ⟨hwaits, hstops⟩ := not_or.mp hrest
    obtain ⟨carry, hcarry⟩ := Option.ne_none_iff_exists'.mp hwaits
    obtain ⟨j, hj⟩ := Option.isSome_iff_exists.mp (h.waiting (by simp [hcarry]))
    rw [(hswapped carry j (not_not.mp hstops) hcarry hj).2.1]

/-- Whatever becomes of the linger timer, the settings stand, and a VEHICLE slot in work goes on (R13, R171). -/
theorem lingerRetime_keepsSettings (h : ExchangeInv s) {j : Job} (hj : s.exch.settingsJob = some j)
    (hkind : j.kind = kindVehicle) :
    (lingerRetime s).power = { s.power with
      standby := (lingerRetime s).power.standby, lingerEnds := (lingerRetime s).power.lingerEnds } ∧
    (lingerRetime s).scanout.driveBlanking = s.scanout.driveBlanking ∧ (lingerRetime s).exch.settingsJob = some j ∧
    slot (lingerRetime s) j.slot = slot s j.slot := by
  by_cases hstopped : s.power.lingerEnds = none
  · rw [lingerRetime_stopped hstopped]
    exact ⟨rfl, rfl, hj, rfl⟩
  · by_cases hmin : s.power.lingerMin = 0
    · have hentered := enterStandby_entered h
      have hother : ¬(j.kind = kindPanel ∧ j.params.getD 0 0 ≠ 0) := fun hpanel => by
        rw [hkind] at hpanel
        exact absurd hpanel.1 (by decide)
      rw [lingerRetime_enters hstopped hmin]
      exact ⟨by rw [enterStandby_power], hentered.driveBlanking h, (enterStandby_panelSlot h hj).2 hother⟩
    · rw [lingerRetime_loads hstopped hmin]
      exact ⟨rfl, rfl, hj, rfl⟩

/-! ### The take at the POST (R164) -/

/-- The state in which a VEHICLE request has handed its settings on, before the linger timer follows (R164). -/
def vehicleHeld (k : Fin 16) (s : State) : State :=
  let j := jobAtPost k s
  vehicleSettings j.params
    { takenAtPost k s with exch.settingsJob := some { j with flags := clampedFlag (vehicleClamped j.params) } }

theorem exec_post_vehicle (h : ExchangeInv s) (hlinked : Linked s) (ho : s.exch.sessionOpen = true)
    (hk : (slot s k).state = .free) (hq : s.exch.queue = []) (hjob : s.exch.settingsJob = none)
    (hkind : s.mem.read (0x0104 + 64 * k.val) = kindVehicle) :
    exec (.post k) s = .next (lingerRetime (vehicleHeld k s)) := by
  have hsettings : isSettingsKind (s.mem.read (0x0104 + 64 * k.val)) = true := by rw [hkind]; decide
  have hvehicle : (jobAtPost k s).kind = kindVehicle := hkind
  rw [exec_post_settings hlinked ho hk h.slots hq hjob hsettings, takeSettings, hvehicle, if_neg (by decide),
    if_neg (by decide), if_pos rfl]
  rfl

/-- A slot that is posted and taken is in work, held by no context yet (R9, R15). -/
theorem takenAtPost_workInv (h : ExchangeInv s) (ho : s.exch.sessionOpen = true) (hk : (slot s k).state = .free)
    (hq : s.exch.queue = []) : WorkInv ({k} + 0) (takenAtPost k s) := by
  have hwork := (exchangeInv_iff s).mp h
  have hslots := hwork.slots.post (e' := (postSlot k s).exch) (r := postedRec s.exch.nextPost) (x := entryOf k s) hk rfl
    rfl rfl rfl ho rfl
  have hposted : WorkInv 0 (postSlot k s) :=
    ⟨hslots, hwork.staged, hwork.abandoned, hwork.waiting, hwork.notBoth, hwork.presentAlone, hwork.closedPresented⟩
  have hactive := activate_workInv (e := entryOf k s) (by simp [postSlot]) hposted
  rwa [activate_postSlot h.slots hq] at hactive

theorem vehicleHeld_exchangeInv (h : ExchangeInv s) (ho : s.exch.sessionOpen = true) (hk : (slot s k).state = .free)
    (hq : s.exch.queue = []) (hjob : s.exch.settingsJob = none) : ExchangeInv (vehicleHeld k s) := by
  have hheld := WorkInv.takeSettings (s := takenAtPost k s) (j := jobAtPost k s) hjob (takenAtPost_workInv h ho hk hq)
    (j' := { jobAtPost k s with flags := clampedFlag (vehicleClamped (jobAtPost k s).params) }) rfl
  exact (exchangeInv_iff _).mpr (hheld.same rfl rfl rfl rfl rfl rfl)

end

/-- Settles O38: the settings as the request gives them, then the linger timer by what it was doing. -/
theorem vehicleRequestIsApplied : Obligations.VehicleRequestIsApplied := by
  intro s k h hlinked ho hk hq hjob hkind byte switches park
  have hoffset : 0x011C + 64 * k.val = 0x0100 + 64 * k.val + 0x1C := by omega
  let ps := (jobAtPost k s).params
  let held := vehicleHeld k s
  let t := lingerRetime held
  have hpark : vehicleParkTime ps = max 100 (min 3000 park) := vehicleParkTime_slot hoffset
  have hlinger : vehicleLinger ps = min 240 (byte 0x1E) := vehicleLinger_slot hoffset
  have hsources : vehicleSources ps = (s.mem.read (0x011F + 64 * k.val)).setWidth 3 := by
    rw [Nat.add_right_comm 0x0100 0x1F]
    exact vehicleSources_slot hoffset
  have hswitch : ∀ i, vehicleSwitch ps i = switches.getLsbD i := fun i => by
    change _ = (s.mem.read (0x0120 + 64 * k.val)).getLsbD i
    rw [Nat.add_right_comm 0x0100 0x20]
    exact vehicleSwitch_slot hoffset i
  have hinv : ExchangeInv held := vehicleHeld_exchangeInv h ho hk hq hjob
  obtain ⟨hpower, hblanking, hsettings, hslot⟩ := lingerRetime_keepsSettings hinv rfl hkind
  have hlines : t.lines = { s.lines with parkTime := max 100 (min 3000 park) } := by
    rw [← hpark]
    exact (lingerRetime_keeps held).2.2.2.2.2.1
  have hmin : held.power.lingerMin = 0 ↔ byte 0x1E = 0 := by
    change vehicleLinger ps = 0 ↔ _
    omega
  have hflags : clampedFlag (vehicleClamped ps) = if park < 100 ∨ 3000 < park ∨ 240 < byte 0x1E then 2 else 0 :=
    if_congr (vehicleClamped_slot hoffset) rfl rfl
  refine ⟨t, exec_post_vehicle h hlinked ho hk hq hjob hkind, ?_, by simp [t, held, vehicleHeld, takenAtPost],
    by simp [t, held, vehicleHeld, takenAtPost], by simp [t, held, vehicleHeld, takenAtPost],
    by simp [t, held, vehicleHeld, takenAtPost], hlines, ?_, ?_, ?_, ?_, ?_, ?_, ?_, ?_, fun hnone => ?_,
    fun hruns hsome => ?_, fun hruns hzero => ?_⟩
  · exact (congrArg SlotRec.state hslot).trans (takenAtPost_active h)
  · exact (congrArg Power.lingerMin hpower).trans hlinger
  · exact (congrArg Power.lingerSources hpower).trans hsources
  · exact hblanking.trans (hswitch 0)
  · exact (congrArg Power.keyWake hpower).trans (hswitch 1)
  · exact (congrArg Power.swallow hpower).trans (hswitch 2)
  · exact (congrArg Power.dockWake hpower).trans (hswitch 3)
  · exact (congrArg Power.latchWake hpower).trans (hswitch 4)
  · exact (congrArg (Option.map Job.flags) hsettings).trans (congrArg some hflags)
  · have hstopped : t = held := lingerRetime_stopped hnone
    rw [hstopped]
    exact ⟨hnone, rfl⟩
  · have hloaded : t = _ := lingerRetime_loads hruns (mt hmin.mp hsome)
    rw [hloaded, ← hlinger]
    exact ⟨rfl, rfl⟩
  · have hentered : t = enterStandby held := lingerRetime_enters hruns (hmin.mpr hzero)
    have hfound : { s with
        lines := t.lines, power := { t.power with standby := s.power.standby, lingerEnds := s.power.lingerEnds },
        scanout := { s.scanout with driveBlanking := switches.getLsbD 0 },
        exch := { s.exch with
          settingsJob := t.exch.settingsJob,
          slots := s.exch.slots.set k.val ⟨.active, .ok, 0, s.exch.nextPost, 0, 0, 0⟩ } } =
        { held with exch.nextPost := s.exch.nextPost } := by
      have hpower' : t.power = _ := hpower
      have hsettings' : t.exch.settingsJob = _ := hsettings
      rw [hlines, hpower', hsettings', ← hpark, ← hswitch 0]
      simp [held, vehicleHeld, takenAtPost, hq, ps]
    rw [hfound, hentered]
    exact ⟨enterStandby_entered hinv, enterStandby_writes held⟩

end Sys2Proof.Machine
end

section
/-! PROOFS. A change of each qualified level: drive mode, the linger timer, the wake sources and the session, with the
records, the activity and the idle timer (R157 to R163, R170, R173, R174). -/

namespace Sys2Proof.Machine

section
variable {s t u : State}

/-! ### Records of the lines and of the power state (R75) -/

/-- A record that concerns no key, built in `s` (R74, R75). -/
def plainRec (kind : RecordKind) (s : State) (detail : Half) : Rec := ⟨kind, none, 0, snapshot s, 0, detail⟩

theorem plainRecord_recorded (kind : RecordKind) (detail : Half) (s : State) :
    Recorded [plainRec kind s detail] s (plainRecord kind detail s) := handRecord_recorded _ s

theorem setLines_journalKept (lines : Lines) (s : State) : JournalKept s { s with lines := lines } :=
  ⟨rfl, rfl, rfl, rfl⟩

theorem plainRec_congr (kind : RecordKind) (detail : Half) (hcomposer : t.composer = s.composer)
    (hprofile : t.profile = s.profile) : plainRec kind t detail = plainRec kind s detail := by
  rw [plainRec, snapshot_congr (congrArg Composer.held hcomposer) hprofile, plainRec]

/-! ### The idle timer at a change (R149, R158) -/

/-- A VEHICLE activity event has loaded an idle timer that it is selected for and that is not OFF (R149). -/
def IdleLoaded (s t : State) : Prop := s.light.settings.idleSources.getLsbD 2 = true → s.light.idle ≠ .off →
  t.light.idle = .running ∧ t.light.idleEnds = s.power.dockTime + ms (s.light.settings.idleTimeout * 1000)

/-- From `s` to `t` the idle timer has not moved. -/
def IdleSame (s t : State) : Prop := t.light.idle = s.light.idle ∧ t.light.idleEnds = s.light.idleEnds

/-- What a VEHICLE activity event finds of the idle timer in `t` as it stood in `s`: its settings, and whether it is OFF. -/
structure IdleKept (s t : State) : Prop where
  dockTime : t.power.dockTime = s.power.dockTime
  settings : t.light.settings = s.light.settings
  idleOn : s.light.idle ≠ .off → t.light.idle ≠ .off

theorem IdleKept.refl (s : State) : IdleKept s s := ⟨rfl, rfl, id⟩

theorem IdleKept.trans (h : IdleKept s t) (h' : IdleKept t u) : IdleKept s u :=
  ⟨h'.dockTime.trans h.dockTime, h'.settings.trans h.settings, h'.idleOn ∘ h.idleOn⟩

theorem IdleSame.trans (h : IdleSame s t) (h' : IdleSame t u) : IdleSame s u := ⟨h'.1.trans h.1, h'.2.trans h.2⟩

theorem IdleKept.loaded (h : IdleKept s t) : IdleLoaded s (activity .vehicle t) := by
  intro hselected hidle
  obtain ⟨-, -, htimer⟩ := activity_taken .vehicle t
  rw [if_pos ⟨h.settings ▸ hselected, h.idleOn hidle⟩, h.dockTime, h.settings] at htimer
  exact htimer

theorem IdleKept.unselected (h : IdleKept s t) (hsame : IdleSame s t)
    (hplain : s.light.settings.idleSources.getLsbD 2 = false) : IdleSame s (activity .vehicle t) := by
  obtain ⟨-, -, htimer⟩ := activity_taken .vehicle t
  have hunselected : t.light.settings.idleSources.getLsbD Activity.vehicle.bit = false := h.settings ▸ hplain
  rw [if_neg (by simp [hunselected])] at htimer
  exact hsame.trans htimer

theorem enterStandby_idleKept (s : State) : IdleKept s (enterStandby s) :=
  ⟨by simp, (enterStandby_timersKept s).1, (enterStandby_timersKept s).2⟩

/-! ### Drive mode (R157) -/

theorem deriveDrive_idle (s : State) : IdleKept s (deriveDrive s) ∧ IdleSame s (deriveDrive s) := by
  have hlight : (deriveDrive s).light.settings = s.light.settings ∧ IdleSame s (deriveDrive s) := by
    unfold deriveDrive IdleSame
    dsimp only
    split <;> simp
  exact ⟨⟨by simp, hlight.1, fun hon => by rwa [hlight.2.1]⟩, hlight.2⟩

/-- A change of drive mode builds its record (R157). -/
theorem deriveDrive_recorded (s : State) : Recorded (if derivedDrive s = s.lines.drive then [] else
    [plainRec .vehicle s (if derivedDrive s then 3 else 4)]) s (deriveDrive s) := by
  unfold deriveDrive
  dsimp only
  split
  · exact .nil ⟨rfl, rfl, rfl, rfl⟩
  · have hrecord := plainRecord_recorded .vehicle (if derivedDrive s then 3 else 4)
      { s with lines.drive := derivedDrive s }
    exact (hrecord.after (setLines_journalKept _ s)).before (by simp [JournalKept])

/-! ### Wake sources (R173, R174) -/

theorem wakeSource_wakes {w : WakeSource} (h : (s.power.standby && wakeEnabled w s) = true) : wakeSource w s = wake w s :=
  if_pos h

theorem wakeSource_rests {w : WakeSource} (h : (s.power.standby && wakeEnabled w s) = false) : wakeSource w s = s :=
  if_neg (ne_true_of_eq_false h)

theorem wakeSource_standby (w : WakeSource) (s : State) :
    (wakeSource w s).power.standby = (s.power.standby && !wakeEnabled w s) := by
  cases h : s.power.standby && wakeEnabled w s with
  | true =>
    rw [wakeSource_wakes h, wake_standby]
    simp [(Bool.and_eq_true_iff.mp h).2]
  | false =>
    rw [wakeSource_rests h]
    cases hs : s.power.standby <;> simp_all

/-- A wake that no key makes builds its record (R174). -/
theorem wakeSource_recorded {w : WakeSource} (hw : w.position = none) (s : State) :
    Recorded (if s.power.standby && wakeEnabled w s then [plainRec .power s w.detail] else []) s (wakeSource w s) := by
  split
  · next h =>
    have hactive : JournalKept s { s with power.standby := false } := ⟨rfl, rfl, rfl, rfl⟩
    have hrecord := plainRecord_recorded .power w.detail { s with power.standby := false }
    have hloaded : JournalKept (plainRecord .power w.detail { s with power.standby := false }) (wokenTimers w s) := by
      unfold wokenTimers wakeRecord
      rw [hw]
      dsimp only
      split <;> exact ⟨rfl, rfl, rfl, rfl⟩
    have hwoken : JournalKept (wokenTimers w s) (wake w s) := by
      simp [JournalKept, wake_eq, wokenBlocks_eq, wokenLevels]
    rw [wakeSource_wakes h]
    exact ((hrecord.after hactive).before hloaded).before hwoken
  · next h =>
    rw [wakeSource_rests (by simpa using h)]
    exact .nil ⟨rfl, rfl, rfl, rfl⟩

theorem wakeSource_idleKept (w : WakeSource) (s : State) : IdleKept s (wakeSource w s) := by
  cases h : s.power.standby && wakeEnabled w s with
  | true =>
    have hkept := wokenBlocks_timersKept w s
    obtain ⟨hlight, -⟩ := wokenTimers_keeps w s
    rw [wakeSource_wakes h]
    refine ⟨by simp, ?_, fun hon => ?_⟩ <;> rw [(wake_blocks w s).2.1]
    · rw [hkept.settings, hlight]
    · exact hkept.idleOn (by rwa [hlight])
  | false =>
    rw [wakeSource_rests h]
    exact .refl s

/-- With IGN ON no wake loads a linger timer that is stopped (R170). -/
theorem wakeSource_stopped (w : WakeSource) (hign : s.lines.ignOn = true) (hstopped : s.power.lingerEnds = none) :
    (wakeSource w s).power.lingerEnds = none := by
  cases h : s.power.standby && wakeEnabled w s with
  | true =>
    rw [wakeSource_wakes h, (wake_blocks w s).1]
    exact (wokenBlocks_linger w s).1 hign hstopped
  | false => rwa [wakeSource_rests h]

/-! ### IGN (R158, R170, R173) -/

/-- A change of IGN with its record and drive mode, before the Power Manager and the activity follow (R157, R158). -/
def ignDerived (on : Bool) (s : State) : State :=
  deriveDrive (plainRecord .vehicle (if on then 1 else 2) { s with lines.ignOn := on })

theorem ignChange_eq (on : Bool) (s : State) : ignChange on s =
    activity .vehicle (if on then ignitionOn (ignDerived on s) else ignitionOff (ignDerived on s)) := rfl

theorem ignDerived_lines (on : Bool) (s : State) :
    (ignDerived on s).lines = { s.lines with ignOn := on, drive := on && !s.lines.parkEngaged } := by
  simp [ignDerived, deriveDrive_lines]

@[simp] theorem ignDerived_keeps (on : Bool) (s : State) : (ignDerived on s).power = s.power ∧
    (ignDerived on s).composer = s.composer ∧ (ignDerived on s).profile = s.profile := by simp [ignDerived]

theorem ignDerived_idle (on : Bool) (s : State) : IdleKept s (ignDerived on s) ∧ IdleSame s (ignDerived on s) := by
  let recorded := plainRecord .vehicle (if on then 1 else 2) { s with lines.ignOn := on }
  have hlight : recorded.light = s.light := by simp [recorded]
  have hsame : IdleSame s recorded := by simp [IdleSame, hlight]
  have hkept : IdleKept s recorded := ⟨by simp [recorded], by rw [hlight], fun hon => by rwa [hlight]⟩
  obtain ⟨hkept', hsame'⟩ := deriveDrive_idle recorded
  exact ⟨hkept.trans hkept', hsame.trans hsame'⟩

/-- The record of IGN, and the one of drive mode where PARK is RELEASED (R157, R158). -/
theorem ignDerived_recorded {on : Bool} (hold : s.lines.ignOn = !on)
    (hdrive : s.lines.drive = (s.lines.ignOn && !s.lines.parkEngaged)) :
    Recorded (plainRec .vehicle s (if on then 1 else 2) ::
      if s.lines.parkEngaged then [] else [plainRec .vehicle s (if on then 3 else 4)]) s (ignDerived on s) := by
  let recorded := plainRecord .vehicle (if on then 1 else 2) { s with lines.ignOn := on }
  have hlines : recorded.lines = { s.lines with ignOn := on } := by simp [recorded]
  have hfirst : Recorded [plainRec .vehicle s (if on then 1 else 2)] s recorded :=
    (plainRecord_recorded .vehicle (if on then 1 else 2) { s with lines.ignOn := on }).after (setLines_journalKept _ s)
  have hsecond := deriveDrive_recorded recorded
  rw [plainRec_congr (s := s) _ _ (by simp [recorded]) (by simp [recorded])] at hsecond
  refine hfirst.trans (rs' := if s.lines.parkEngaged then [] else [plainRec .vehicle s (if on then 3 else 4)]) ?_
  cases hpark : s.lines.parkEngaged <;> cases on <;>
    simpa [derivedDrive, hlines, hpark, hold, hdrive, ignDerived, recorded] using hsecond

theorem ignitionOn_recorded (s : State) :
    Recorded (if s.power.standby then [plainRec .power s 1] else []) s (ignitionOn s) := by
  have hstopped : JournalKept s { s with power.lingerEnds := none } := ⟨rfl, rfl, rfl, rfl⟩
  have hwake := wakeSource_recorded (w := .ignitionOn) rfl { s with power.lingerEnds := none }
  simp only [wakeEnabled, Bool.and_true] at hwake
  exact hwake.after hstopped

theorem ignitionOn_idleKept (s : State) : IdleKept s (ignitionOn s) := by
  have hstopped : IdleKept s { s with power.lingerEnds := none } := ⟨rfl, rfl, id⟩
  exact hstopped.trans (wakeSource_idleKept .ignitionOn _)

theorem ignitionOff_stays (h : s.power.standby = true) : ignitionOff s = s := if_pos h

theorem ignitionOff_enters (h : s.power.standby = false) (hmin : s.power.lingerMin = 0) : ignitionOff s = enterStandby s :=
  (if_neg (ne_true_of_eq_false h)).trans (if_pos hmin)

theorem ignitionOff_loads (h : s.power.standby = false) (hmin : s.power.lingerMin ≠ 0) : ignitionOff s =
    { s with power.lingerEnds := some (s.power.dockTime + ms (60000 * s.power.lingerMin)) } :=
  (if_neg (ne_true_of_eq_false h)).trans (if_neg hmin)

theorem ignitionOff_standby (s : State) :
    (ignitionOff s).power.standby = (s.power.standby || decide (s.power.lingerMin = 0)) := by
  unfold ignitionOff
  (repeat' split) <;> simp [*]

/-- The idle timer moves with IGN OFF only where STANDBY is entered (R135, R172). -/
theorem ignitionOff_idleSame (h : s.power.standby = true ∨ s.power.lingerMin ≠ 0) : IdleSame s (ignitionOff s) := by
  unfold ignitionOff
  (repeat' split)
  · exact ⟨rfl, rfl⟩
  · next hactive hmin => exact absurd hmin (h.resolve_left hactive)
  · exact ⟨rfl, rfl⟩

theorem ignitionOff_idleKept (s : State) : IdleKept s (ignitionOff s) := by
  unfold ignitionOff
  (repeat' split)
  · exact .refl s
  · exact enterStandby_idleKept s
  · exact ⟨rfl, rfl, id⟩

theorem ignitionOff_recorded (s : State) : Recorded
    (if !s.power.standby && s.power.lingerMin == 0 then [plainRec .power s 0] else []) s (ignitionOff s) := by
  cases hs : s.power.standby with
  | true =>
    rw [ignitionOff_stays hs]
    exact .nil ⟨rfl, rfl, rfl, rfl⟩
  | false =>
    by_cases hmin : s.power.lingerMin = 0
    · rw [ignitionOff_enters hs hmin, hmin]
      exact enterStandby_recorded s
    · rw [ignitionOff_loads hs hmin]
      have hnone : (s.power.lingerMin == 0) = false := beq_eq_false_iff_ne.mpr hmin
      simp only [hnone, Bool.and_false]
      exact .nil ⟨rfl, rfl, rfl, rfl⟩

/-- IGN newly ON (R157, R158, R170, R173). -/
theorem ignChange_on (hold : s.lines.ignOn = false) (hdrive : s.lines.drive = (s.lines.ignOn && !s.lines.parkEngaged)) :
    (ignChange true s).lines = { s.lines with ignOn := true, drive := !s.lines.parkEngaged } ∧
    (ignChange true s).power.standby = false ∧ (ignChange true s).power.lingerEnds = none ∧
    IdleLoaded s (ignChange true s) ∧
    (s.power.standby = false → s.light.settings.idleSources.getLsbD 2 = false → IdleSame s (ignChange true s)) ∧
    Recorded ((plainRec .vehicle s 1 :: if s.lines.parkEngaged then [] else [plainRec .vehicle s 3]) ++
      if s.power.standby then [plainRec .power s 1] else []) s (ignChange true s) := by
  have hlines : (ignDerived true s).lines = { s.lines with ignOn := true, drive := !s.lines.parkEngaged } :=
    ignDerived_lines true s
  obtain ⟨hpower, hcomposer, hprofile⟩ := ignDerived_keeps true s
  obtain ⟨hkept, hsame⟩ := ignDerived_idle true s
  have hstopped : (ignitionOn (ignDerived true s)).power.lingerEnds = none :=
    wakeSource_stopped .ignitionOn (s := { ignDerived true s with power.lingerEnds := none }) (by simp [hlines]) rfl
  have hon : IdleKept s (ignitionOn (ignDerived true s)) := hkept.trans (ignitionOn_idleKept (ignDerived true s))
  have hrecords := (ignDerived_recorded (on := true) hold hdrive).trans (ignitionOn_recorded (ignDerived true s))
  rw [plainRec_congr .power 1 hcomposer hprofile] at hrecords
  rw [ignChange_eq, if_pos rfl]
  refine ⟨by simpa using hlines, ?_, ?_, hon.loaded, fun hactive hplain => hon.unselected ?_ hplain, ?_⟩
  · simp [ignitionOn, wakeSource_standby, wakeEnabled]
  · rw [(activity_taken .vehicle _).1, hstopped, Option.map_none, ite_self]
  · have hrests : ignitionOn (ignDerived true s) = { ignDerived true s with power.lingerEnds := none } :=
      wakeSource_rests (by simp [hactive])
    rw [hrests]
    exact hsame
  · rw [hpower] at hrecords
    exact hrecords.before (activity_journalKept .vehicle _)

/-- IGN newly OFF (R157, R158, R170). -/
theorem ignChange_off (hold : s.lines.ignOn = true) (hdrive : s.lines.drive = (s.lines.ignOn && !s.lines.parkEngaged)) :
    (ignChange false s).lines = { s.lines with ignOn := false, drive := false } ∧
    (ignChange false s).power.standby = (s.power.standby || decide (s.power.lingerMin = 0)) ∧
    IdleLoaded s (ignChange false s) ∧
    (s.power.standby = true ∨ s.power.lingerMin ≠ 0 → s.light.settings.idleSources.getLsbD 2 = false →
      IdleSame s (ignChange false s)) ∧
    (s.power.standby = true → s.power.lingerEnds = none → (ignChange false s).power = s.power) ∧
    (s.power.standby = false → (ignChange false s).power.lingerEnds = (if s.power.lingerMin = 0 then none
      else some (s.power.dockTime + ms (60000 * s.power.lingerMin)))) ∧
    Recorded ((plainRec .vehicle s 2 :: if s.lines.parkEngaged then [] else [plainRec .vehicle s 4]) ++
      if !s.power.standby && s.power.lingerMin == 0 then [plainRec .power s 0] else []) s (ignChange false s) := by
  have hlines : (ignDerived false s).lines = { s.lines with ignOn := false, drive := false } := ignDerived_lines false s
  obtain ⟨hpower, hcomposer, hprofile⟩ := ignDerived_keeps false s
  obtain ⟨hkept, hsame⟩ := ignDerived_idle false s
  have hoff : IdleKept s (ignitionOff (ignDerived false s)) := hkept.trans (ignitionOff_idleKept (ignDerived false s))
  have hrecords := (ignDerived_recorded (on := false) hold hdrive).trans (ignitionOff_recorded (ignDerived false s))
  rw [plainRec_congr .power 0 hcomposer hprofile, hpower] at hrecords
  have htaken := (activity_taken .vehicle (ignitionOff (ignDerived false s))).1
  rw [ignChange_eq, if_neg Bool.false_ne_true]
  refine ⟨by simpa using hlines, ?_, hoff.loaded, fun hrests => hoff.unselected (hsame.trans ?_),
    fun hstandby hnone => ?_, fun hactive => ?_, hrecords.before (activity_journalKept .vehicle _)⟩
  · rw [(activity_state ..).1, ignitionOff_standby, hpower]
  · exact ignitionOff_idleSame (by rwa [hpower])
  · have hstays : ignitionOff (ignDerived false s) = ignDerived false s := ignitionOff_stays (by rwa [hpower])
    rw [hstays, hpower, hnone, Option.map_none, ite_self, ← hnone] at htaken
    rw [hstays]
    exact htaken
  · rw [htaken]
    by_cases hmin : s.power.lingerMin = 0
    · rw [ignitionOff_enters (by rwa [hpower]) (by rwa [hpower]), enterStandby_power, if_pos hmin]
      simp
    · rw [ignitionOff_loads (by rwa [hpower]) (by rwa [hpower]), hpower]
      simp [hmin]

/-! ### PARK (R159) -/

/-- PARK newly ENGAGED or RELEASED: drive mode follows it with IGN ON, and the activity reaches the timers (R157, R159). -/
theorem parkChange_changes (hdrive : s.lines.drive = (s.lines.ignOn && !s.lines.parkEngaged)) :
    let u := parkChange (!s.lines.parkEngaged) s
    u.lines = { s.lines with parkEngaged := !s.lines.parkEngaged, drive := s.lines.ignOn && s.lines.parkEngaged } ∧
    u.power = { s.power with lingerEnds :=
      if s.power.lingerSources.getLsbD 2 then s.power.lingerEnds.map fun _ =>
        s.power.dockTime + ms (if s.power.lingerMin = 0 then 60000 else 60000 * s.power.lingerMin)
      else s.power.lingerEnds } ∧
    IdleLoaded s u ∧ (s.light.settings.idleSources.getLsbD 2 = false → IdleSame s u) ∧
    Recorded (if s.lines.ignOn then [plainRec .vehicle s (if s.lines.parkEngaged then 3 else 4)] else []) s u := by
  intro u
  let parked : State := { s with lines.parkEngaged := !s.lines.parkEngaged }
  obtain ⟨hkept, hsame⟩ := deriveDrive_idle parked
  have hpower : (deriveDrive parked).power = s.power := by simp [parked]
  have hrecord : Recorded (if s.lines.ignOn then [plainRec .vehicle s (if s.lines.parkEngaged then 3 else 4)] else []) s
      (deriveDrive parked) := by
    have hrecord := (deriveDrive_recorded parked).after (setLines_journalKept _ s)
    rw [plainRec_congr (t := parked) (s := s) _ _ rfl rfl] at hrecord
    cases hign : s.lines.ignOn <;> cases hpark : s.lines.parkEngaged <;>
      simpa [parked, derivedDrive, hdrive, hign, hpark] using hrecord
  refine ⟨by simp [u, parkChange, deriveDrive_lines], ?_, hkept.loaded, hkept.unselected hsame,
    hrecord.before (activity_journalKept .vehicle _)⟩
  have htaken := (activity_taken .vehicle (deriveDrive parked)).1
  rwa [hpower] at htaken

/-! ### PRESENCE and LATCH (R161 to R163) -/

/-- A departure ends the session, which is empty from then on (R8, R162). -/
theorem presenceChange_departs (h : ExchangeInv s) :
    (presenceChange false s).lines = { s.lines with docked := false } ∧
    (presenceChange false s).exch.sessionOpen = false ∧ (presenceChange false s).exch.queue = [] ∧
    (presenceChange false s).exch.attention = 0 ∧ (presenceChange false s).journal = s.journal ∧
    (presenceChange false s).power = s.power ∧ (presenceChange false s).mem = s.mem := by
  have hundocked : WorkInv 0 { s with lines.docked := false } := ((exchangeInv_iff s).mp h).same rfl rfl rfl rfl rfl rfl
  have hclosed := endSession_closed { s with lines.docked := false }
  have hended := (exchangeInv_iff _).mpr (endSession_workInv hundocked)
  have hdeparts : presenceChange false s = endSession { s with lines.docked := false } := rfl
  rw [hdeparts]
  exact ⟨by simp, hclosed, endSession_queue hundocked, hended.closedAttention hclosed, by simp, by simp, by simp⟩

/-- An arrival wakes by its switch (R161, R173). -/
theorem presenceChange_arrives (s : State) :
    (presenceChange true s).lines = { s.lines with docked := true } ∧
    (presenceChange true s).exch.sessionOpen = s.exch.sessionOpen ∧
    (presenceChange true s).power.standby = (s.power.standby && !s.power.dockWake) ∧
    Recorded (if s.power.standby && s.power.dockWake then [plainRec .power s 3] else []) s (presenceChange true s) := by
  have harrives : presenceChange true s = wakeSource .dockArrival { s with lines.docked := true } := rfl
  rw [harrives]
  exact ⟨by simp, by simp, wakeSource_standby .dockArrival _,
    (wakeSource_recorded (w := .dockArrival) rfl { s with lines.docked := true }).after (setLines_journalKept _ s)⟩

/-- A change of LATCH builds its record, and OPEN wakes by its switch (R163, R173). -/
theorem latchChange_changes (opened : Bool) (s : State) :
    (latchChange opened s).lines = { s.lines with latchOpen := opened } ∧
    (latchChange opened s).power.standby = (s.power.standby && !(opened && s.power.latchWake)) ∧
    Recorded (plainRec .latch s (if opened then 1 else 2) ::
      if s.power.standby && opened && s.power.latchWake then [plainRec .power s 4] else []) s (latchChange opened s) := by
  let recorded := plainRecord .latch (if opened then 1 else 2) { s with lines.latchOpen := opened }
  have hlines : recorded.lines = { s.lines with latchOpen := opened } := by simp [recorded]
  have hpower : recorded.power = s.power := by simp [recorded]
  have hrecord : Recorded [plainRec .latch s (if opened then 1 else 2)] s recorded :=
    (plainRecord_recorded .latch _ { s with lines.latchOpen := opened }).after (setLines_journalKept _ s)
  cases opened with
  | false =>
    have hstays : latchChange false s = recorded := rfl
    rw [hstays, hpower]
    exact ⟨hlines, by simp, by simpa using hrecord⟩
  | true =>
    have hwoken := wakeSource_recorded (w := .latch) rfl recorded
    have hstandby := wakeSource_standby .latch recorded
    rw [plainRec_congr (s := s) _ _ (by simp [recorded]) (by simp [recorded])] at hwoken
    simp only [wakeEnabled, WakeSource.detail, hpower] at hwoken hstandby
    have hopens : latchChange true s = wakeSource .latch recorded := rfl
    rw [hopens]
    exact ⟨by simp [hlines], by simpa using hstandby, by simpa using hrecord.trans hwoken⟩

/-! ### The expiry that brings a new level (R155) -/

theorem exec_qualificationExpiry_changes {line : Line} {level : Bool} (hrun : Running s)
    (hdue : due s (lineTimer s.lines line) = true) (hlevel : lineLevel s.lines.levels line = level)
    (hold : qualified s.lines line = !level) : exec (.qualificationExpiry line) s =
      .next (look (lineChange line level (setLineTimer line none s))) := by
  have hnew : lineLevel s.lines.levels line ≠ qualified s.lines line := by
    rw [hlevel, hold]
    cases level <;> decide
  rw [exec_qualificationExpiry hrun, lineExpiry_changes hdue hnew, hlevel]

end

/-- Settles O56: each line's change, once its timer is stopped. -/
theorem qualifiedChangesAct : Obligations.QualifiedChangesAct := by
  intro s h hrun hdrive vehicle power activeIdle plainIdle
  refine ⟨fun hdue hlevel hold => ⟨_, exec_qualificationExpiry_changes hrun hdue hlevel hold, ?_⟩,
    fun hdue hlevel hold => ⟨_, exec_qualificationExpiry_changes hrun hdue hlevel hold, ?_⟩,
    fun hdue hlevel => ⟨_, exec_qualificationExpiry_changes hrun hdue
      (level := !s.lines.parkEngaged) (congrArg not hlevel) (Bool.not_not _).symm, ?_⟩,
    fun hdue hlevel hold => ⟨_, exec_qualificationExpiry_changes hrun hdue (congrArg not hlevel) hold, ?_⟩,
    fun hdue hlevel hold => ⟨_, exec_qualificationExpiry_changes hrun hdue (congrArg not hlevel) hold, ?_⟩,
    fun hdue hlevel => ⟨_, exec_qualificationExpiry_changes hrun hdue rfl (Bool.eq_not_of_ne hlevel.symm), ?_⟩⟩
  · obtain ⟨hlines, hstandby, hlinger, hloaded, hsame, hrecords⟩ :=
      ignChange_on (s := setLineTimer .ign none s) hold hdrive
    exact ⟨hlines, hstandby, hlinger, hloaded, hsame, hrecords.writes⟩
  · obtain ⟨hlines, hstandby, hloaded, hsame, hpower, hlinger, hrecords⟩ :=
      ignChange_off (s := setLineTimer .ign none s) hold hdrive
    exact ⟨hlines, hstandby, hloaded, hsame, hpower, hlinger, hrecords.writes⟩
  · obtain ⟨hlines, hpower, hloaded, hsame, hrecords⟩ := parkChange_changes (s := setLineTimer .park none s) hdrive
    refine ⟨hlines, hpower, hloaded, hsame, ?_, ?_, ?_, ?_, ?_, hrecords.writes⟩ <;> simp [lineChange]
  · have hstopped : WorkInv 0 (setLineTimer .presence none s) :=
      ((exchangeInv_iff s).mp h).same rfl rfl rfl rfl rfl rfl
    exact presenceChange_departs ((exchangeInv_iff _).mpr hstopped)
  · obtain ⟨hlines, hopen, hstandby, hrecords⟩ := presenceChange_arrives (setLineTimer .presence none s)
    exact ⟨hlines, hopen, hstandby, hrecords.writes⟩
  · obtain ⟨hlines, hstandby, hrecords⟩ := latchChange_changes s.lines.levels.latch (setLineTimer .latch none s)
    exact ⟨hlines, hstandby, hrecords.writes⟩

end Sys2Proof.Machine
end

section
/-! PROOFS. A supply sample: the table of the bands, the record of a change into or out of CRANK, and the pauses that end as
CRANK is left (R118, R136, R139, R140, R167, R168). -/

namespace Sys2Proof.Machine

section
variable {s : State} {new : Band} {count mv : Nat}

/-! ### The table of the bands (R167) -/

theorem classify_normal (recovery mv : Nat) : classify .normal recovery mv =
    (if mv < 9000 then .crank else if mv < 10500 then .low else .normal, 0) := by
  dsimp only [classify]
  (repeat' split) <;> rfl

theorem classify_low (recovery mv : Nat) : classify .low recovery mv =
    (if mv < 9000 then .crank else if mv < 11000 then .low else .normal, 0) := by
  dsimp only [classify]
  (repeat' split) <;> rfl

theorem classify_crank_dips (recovery : Nat) (h : mv < 9500) : classify .crank recovery mv = (.crank, 0) := if_pos h

theorem classify_crank_counts {recovery : Nat} (h : 9500 ≤ mv) (hcount : recovery ≤ 2) :
    classify .crank recovery mv = (.crank, recovery + 1) :=
  (if_neg (Nat.not_lt.mpr h)).trans (if_pos (Nat.lt_succ_of_le hcount))

theorem classify_crank_leaves (h : 9500 ≤ mv) : classify .crank 3 mv = (.low, 0) := if_neg (Nat.not_lt.mpr h)

theorem classify_enters_crank {band : Band} (recovery : Nat) (hband : band ≠ .crank) (h : mv < 9000) :
    classify band recovery mv = (.crank, 0) := by
  cases band with
  | normal => rw [classify_normal, if_pos h]
  | low => rw [classify_low, if_pos h]
  | crank => exact absurd rfl hband

/-! ### The record of a band change (R168, step 2) -/

theorem bandRecord_journalOnly (old new : Band) (s : State) : JournalOnly s (bandRecord old new s) := by
  unfold bandRecord
  (repeat' split)
  · exact plainRecord_journalOnly .supply 1 s
  · exact plainRecord_journalOnly .supply 2 s
  · exact .refl s

theorem bandRecord_leaves (hnew : new ≠ .crank) (s : State) : bandRecord .crank new s = plainRecord .supply 2 s :=
  (if_neg hnew).trans (if_pos rfl)

/-! ### A new band handed on (R168) -/

/-- The state with a new band stored (R168, step 1). -/
def banded (new : Band) (s : State) : State := { s with power.band := new }

theorem banded_journalKept (new : Band) (s : State) : JournalKept s (banded new s) := ⟨rfl, rfl, rfl, rfl⟩

/-- A new band once it is recorded and the Light Controller has it, before the picture path goes on. -/
def bandLevels (new : Band) (s : State) : State := recompute (bandRecord s.power.band new (banded new s))

theorem changeBand_eq (new : Band) (s : State) : changeBand new s = resumePictures (bandLevels new s) := rfl

/-- The record and the levels aside, the state found with the new band. -/
theorem bandLevels_eq (new : Band) (s : State) : ∃ mem journal attention messages light, RingOnly s.mem mem ∧
    bandLevels new s = { s with
      mem := mem, journal := journal, exch := { s.exch with attention := attention },
      link := { s.link with messages := messages }, light := light, power := { s.power with band := new } } := by
  have hring := bandRecord_ring s.power.band new (s := banded new s) (RingOnly.refl s.mem)
  obtain ⟨mem, journal, attention, messages, hrecord, -⟩ := bandRecord_journalOnly s.power.band new (banded new s)
  rw [hrecord] at hring
  refine ⟨mem, journal, attention, messages, (bandLevels new s).light, hring, ?_⟩
  rw [bandLevels, hrecord, recompute_eq]
  rfl

theorem changeBand_power (new : Band) (s : State) :
    (changeBand new s).power.band = new ∧ (changeBand new s).power.recovery = s.power.recovery := by
  obtain ⟨mem, journal, attention, messages, light, -, hlevels⟩ := bandLevels_eq new s
  rw [changeBand_eq, (resumePictures_lingerKept (bandLevels new s)).power, hlevels]
  exact ⟨rfl, rfl⟩

/-- A record that the change of band hands over is the record of the change. -/
theorem changeBand_recorded {detail : Half}
    (h : bandRecord s.power.band new (banded new s) = plainRecord .supply detail (banded new s)) :
    Recorded [plainRec .supply s detail] s (changeBand new s) := by
  have hrecord := plainRecord_recorded .supply detail (banded new s)
  rw [← h, plainRec_congr (s := s) (t := banded new s) .supply detail rfl rfl] at hrecord
  have hlevels : JournalKept (bandRecord s.power.band new (banded new s)) (changeBand new s) := by
    simp [JournalKept, changeBand_eq, bandLevels]
  exact (hrecord.after (banded_journalKept new s)).before hlevels

/-- The picture path and the panel stay in CRANK and in STANDBY (R118, R136). -/
theorem changeBand_paused (h : new = .crank ∨ s.power.standby = true) :
    (changeBand new s).picture = s.picture ∧ (changeBand new s).scanout = s.scanout := by
  obtain ⟨mem, journal, attention, messages, light, -, hlevels⟩ := bandLevels_eq new s
  rw [changeBand_eq, resumePictures_paused ((pauses_iff _).mpr (by rwa [hlevels])), hlevels]
  exact ⟨rfl, rfl⟩

/-- A band other than CRANK ends the pauses in ACTIVE (R118, R136). -/
theorem changeBand_pauseEnds (hnew : new ≠ .crank) (hactive : s.power.standby = false) :
    PauseEnds s (changeBand new s) := by
  obtain ⟨mem, journal, attention, messages, light, hring, hlevels⟩ := bandLevels_eq new s
  have hgoes : pauses (bandLevels new s) = false := by
    rw [pauses_eq_false_iff, hlevels]
    exact ⟨hnew, hactive⟩
  have hpicture : (bandLevels new s).picture = s.picture := by rw [hlevels]
  have hcarry : (bandLevels new s).scanout.carry = s.scanout.carry := by rw [hlevels]
  rw [changeBand_eq]
  refine ⟨fun hnone => ?_, fun c hc => resumePictures_carry (hcarry.trans hc) hgoes⟩
  rw [resumePictures_noCarry (hcarry.trans hnone)]
  refine ⟨fun hpaused => ⟨bandLevels new s, hpicture, by rw [hlevels], by rw [hlevels], by rw [hlevels], by rw [hlevels],
    by rw [hlevels], hgoes, fun hwf a ha => ?_, ?_⟩, fun hrunning => ?_⟩
  · rw [hlevels]
    exact (hring hwf).2 a (.inr ha)
  · rw [resumePicture_resumes (hpicture ▸ hpaused) hgoes]
    exact ⟨rfl, rfl⟩
  · rw [resumePicture_running (hpicture ▸ hrunning)]
    exact ⟨hpicture, hcarry.trans hnone⟩

/-! ### The sample (R167) -/

/-- The state with the recovery count of a sample stored (R167). -/
def recoveryCounted (count : Nat) (s : State) : State := { s with power.recovery := count }

theorem recoveryCounted_journalKept (count : Nat) (s : State) : JournalKept s (recoveryCounted count s) :=
  ⟨rfl, rfl, rfl, rfl⟩

theorem sample_stays (h : classify s.power.band s.power.recovery mv = (s.power.band, count)) :
    sample mv s = recoveryCounted count s := by
  rw [sample, h]
  exact if_pos rfl

theorem sample_changes (h : classify s.power.band s.power.recovery mv = (new, count)) (hnew : new ≠ s.power.band) :
    sample mv s = changeBand new (recoveryCounted count s) := by
  rw [sample, h]
  exact if_neg hnew

theorem sample_power (h : classify s.power.band s.power.recovery mv = (new, count)) :
    (sample mv s).power.recovery = count ∧ (sample mv s).power.band = new := by
  by_cases hnew : new = s.power.band
  · subst hnew
    rw [sample_stays h]
    exact ⟨rfl, rfl⟩
  · rw [sample_changes h hnew]
    exact (changeBand_power new _).symm

/-- The picture path and the panel stay but for a change to LOW or NORMAL in ACTIVE (R167, R168). -/
theorem sample_rests (h : s.power.standby = true ∨ (sample mv s).power.band = .crank ∨
    (sample mv s).power.band = s.power.band) :
    (sample mv s).picture = s.picture ∧ (sample mv s).scanout = s.scanout := by
  obtain ⟨new, count, hclass⟩ : ∃ new count, classify s.power.band s.power.recovery mv = (new, count) := ⟨_, _, rfl⟩
  rw [(sample_power hclass).2] at h
  by_cases hnew : new = s.power.band
  · rw [sample_stays (hnew ▸ hclass)]
    exact ⟨rfl, rfl⟩
  · rw [sample_changes hclass hnew]
    refine changeBand_paused ?_
    rcases h with hstandby | hcrank | hsame
    · exact .inr hstandby
    · exact .inl hcrank
    · exact absurd hsame hnew

/-- A sample that enters CRANK hands its record over (R168). -/
theorem sample_enters_recorded (hband : s.power.band ≠ .crank) (hmv : mv < 9000) :
    Recorded [plainRec .supply s 1] s (sample mv s) := by
  rw [sample_changes (classify_enters_crank _ hband hmv) hband.symm]
  exact .after (recoveryCounted_journalKept 0 s) (changeBand_recorded (s := recoveryCounted 0 s) (if_pos rfl))

theorem sample_leaves (hband : s.power.band = .crank) (hmv : 9500 ≤ mv) (hcount : s.power.recovery = 3) :
    sample mv s = changeBand .low (recoveryCounted 0 s) :=
  sample_changes (by rw [hband, hcount, classify_crank_leaves hmv]) (by simp [hband])

/-- A sample that leaves CRANK hands its record over (R168). -/
theorem sample_leaves_recorded (hband : s.power.band = .crank) (hmv : 9500 ≤ mv) (hcount : s.power.recovery = 3) :
    Recorded [plainRec .supply s 2] s (sample mv s) := by
  rw [sample_leaves hband hmv hcount]
  refine .after (recoveryCounted_journalKept 0 s) (changeBand_recorded (s := recoveryCounted 0 s) ?_)
  rw [show (recoveryCounted 0 s).power.band = .crank from hband]
  exact bandRecord_leaves (by decide) _

theorem sample_leaves_pauseEnds (hband : s.power.band = .crank) (hmv : 9500 ≤ mv) (hcount : s.power.recovery = 3)
    (hactive : s.power.standby = false) : PauseEnds s (sample mv s) := by
  rw [sample_leaves hband hmv hcount]
  exact changeBand_pauseEnds (s := recoveryCounted 0 s) (by decide) hactive

/-! ### The completion of the conversion (R139, R140) -/

/-- The state with the millivolts of a code published (R140). -/
def published (code : BitVec 10) (s : State) : State :=
  { s with measure.millivolts := BitVec.ofNat 16 (millivoltsOf code) }

/-- What follows the sample moves the converter alone (R139). -/
theorem supplyDone_eq (code : BitVec 10) (s : State) : supplyDone code s =
    { sample (millivoltsOf code) (published code s) with measure := (supplyDone code s).measure } := rfl

theorem supplyDone_power {code : BitVec 10}
    (h : classify s.power.band s.power.recovery (code.toNat * 20) = (new, count)) :
    (supplyDone code s).power.recovery = count ∧ (supplyDone code s).power.band = new :=
  sample_power (s := published code s) h

theorem supplyDone_measure (code : BitVec 10) (s : State) : (supplyDone code s).measure = { s.measure with
    millivolts := BitVec.ofNat 16 (code.toNat * 20),
    converting := if s.measure.ambientPending then .ambient else .none, ambientPending := false } := by
  simp [supplyDone, millivoltsOf]

theorem exec_supplyConversionComplete (h : Running s) (hconv : s.measure.converting = .supply) (code : BitVec 10) :
    exec (.supplyConversionComplete code) s = .next (look (supplyDone code s)) :=
  next_ifDue h (by simp [hconv]) fun s => look (supplyDone code s)

end

/-- Settles O52: the sample by the table, and the change of band that it makes. -/
theorem supplySampleSetsTheBand : Obligations.SupplySampleSetsTheBand := by
  intro s code hrun hconv
  have hdone := supplyDone_eq code s
  refine ⟨supplyDone code s, exec_supplyConversionComplete hrun hconv code, supplyDone_measure code s,
    fun hband => supplyDone_power ?_, fun hband => supplyDone_power ?_, fun hband hmv => supplyDone_power ?_,
    fun hband hmv hcount => supplyDone_power ?_, fun hband hmv hcount => supplyDone_power ?_,
    fun hwf hroom => ⟨fun hband hmv => ?_, fun hband hmv hcount => ?_⟩, fun hband hmv hcount hactive => ?_,
    fun hrests => ?_, by simp⟩
  · rw [hband, classify_normal]
  · rw [hband, classify_low]
  · rw [hband, classify_crank_dips _ hmv]
  · rw [hband, classify_crank_counts hmv hcount]
  · rw [hband, hcount, classify_crank_leaves hmv]
  · rw [hdone]
    exact ((sample_enters_recorded (s := published code s) hband hmv).one hwf hroom).2
  · rw [hdone]
    exact ((sample_leaves_recorded (s := published code s) hband hmv hcount).one hwf hroom).2
  · rw [hdone]
    exact sample_leaves_pauseEnds (s := published code s) hband hmv hcount hactive
  · rw [hdone] at hrests ⊢
    exact sample_rests (s := published code s) hrests

end Sys2Proof.Machine
end

section
/-! PROOFS. The step over the queue of commands: an equation for each shape of the queue, and from
them the obligation (00_scope, sections 2 to 4). -/

namespace Sys2Proof.Machine

/-- With a command in front, a step is that command on the rest of the queue. -/
theorem step_of_pending_cons {s : State} {c : Instr} {rest : List Instr} (h : s.pending = c :: rest) :
    step s = exec c { s with pending := rest } := by
  simp only [step, h]

/-- With no command waiting, a step idles (log entry 1). -/
theorem step_of_pending_nil {s : State} (h : s.pending = []) : step s = .next s := by
  simp only [step, h]

/-- Settles O1: one equation of the step for each of the two shapes of the queue. -/
theorem stepRunsTheFrontCommand : Obligations.StepRunsTheFrontCommand :=
  ⟨fun _ _ _ hfront => step_of_pending_cons hfront, fun _ hempty => step_of_pending_nil hempty⟩

end Sys2Proof.Machine
end
